-- ==== Sys2Proof/Word.lean ====
section
/-! DEFINITION. The character of the brick bus and the byte of the tablet link: eight data bits
(R132, R189, R190). Every other quantity of the EFP440 is a number of a stated range and is kept as
`Int` or `Nat`. -/

namespace Sys2Proof

/-- The eight data bits of a bus character, or a byte of a tablet message. -/
abbrev Byte := BitVec 8

end Sys2Proof
end

