-- ==== Sys2Proof/Syntax.lean ====
section
/-! DEFINITION. The commands of the EFP440: one constructor of `Instr` for each row of
spec/opcode_table.json, in the table's order. The block commands carry the path they arrive by, the
index of the command and their arguments as the characters of Table 12-5 give them (numbers before
clamping, settings as codes). The events carry what the outside decides: a reading, a level, the
characters of a frame. -/

namespace Sys2Proof

/-- The path by which a command reaches its block, and so the way its reply goes back (R160).
* `tablet`: a local command of the tablet, or the tablet's own broadcast at its completion: the reply
  joins the Command outbound FIFO, named by the destination and the token as the tablet gave them.
* `bus`: an addressed Command frame: the reply becomes a Reply request to the source station.
* `broadcast`: a broadcast Command frame heard from another station: no reply.
* `staged`: handed over by the staging list at Go completion: no reply, a refusal sets stage miss. -/
inductive Via
  | tablet (dest token : Nat)
  | bus (source token : Nat)
  | broadcast
  | staged
deriving DecidableEq, Repr

/-- The three kinds of reset (R186). -/
inductive ResetKind
  | powerOn | pin | command
deriving DecidableEq, Repr

/-- The fields of a note record as its six bytes give them (R190), before any clamp or check. -/
structure NoteArgs where
  kind     : Nat
  wave     : Nat
  form     : Nat
  pitch    : Nat
  duration : Nat
  volume   : Nat
deriving DecidableEq, Repr

/-- Why a tablet message is bad (Table 10-2). -/
inductive BadMessage
  | lengthAbove | shortBody | framing | crc
deriving DecidableEq, Repr

/-- Why a frame being received is discarded (Table 8-10 and R144). A framing error is told apart by
whether its dominant run ends short of a break. -/
inductive ReceptionError
  | markBit | payloadLength | framingShort | framingBreak | earlyGap | check
deriving DecidableEq, Repr

/-- The frame whose 200 ms pass (R138): the one at a place of the transmit queue, head first from 0,
or the frame in transmission. -/
inductive QueueSlot
  | queued (place : Nat)
  | sending
deriving DecidableEq, Repr

/-- The commands: one constructor per row of spec/opcode_table.json, in the table's order. Ports
A to D, sensor ports 1 to 4 and voices 1 to 3 are `Fin` numbers from 0 in the events; the block
commands carry the raw index of R154, which the path check of R156 reads. -/
inductive Instr
  -- Motor block (R23 to R27)
  | coast (via : Via) (index : Nat)
  | brake (via : Via) (index : Nat)
  | setPower (via : Via) (index : Nat) (duty : Int)
  | setSpeed (via : Via) (index : Nat) (speed : Int)
  | setPosition (via : Via) (index : Nat) (position : Int)
  | moveBy (via : Via) (index : Nat) (delta : Int)
  | setPattern (via : Via) (index : Nat) (waveform phase cycles : Nat)
  | setPresets (via : Via) (index : Nat) (lower upper : Int)
  | setRamp (via : Via) (index : Nat) (step period : Nat)
  | setGains (via : Via) (index : Nat) (set kp ki : Nat)
  | setLimits (via : Via) (index : Nat) (duty current stall policy : Nat)
  | setSafeAction (via : Via) (index : Nat) (action : Nat)
  | setArrival (via : Via) (index : Nat) (window : Nat)
  | zeroPosition (via : Via) (index : Nat) (value : Int)
  | queryPort (via : Via) (index : Nat)
  -- Sensor block (R65, R66)
  | setFilter (via : Via) (index : Nat) (beta lbeta n : Nat)
  | setThresholds (via : Via) (index : Nat) (activation hysteresis freeze timeout : Nat)
  | setPolarity (via : Via) (index : Nat) (polarity : Nat)
  | tune (via : Via) (index : Nat) (target : Nat)
  | setTuneRetry (via : Via) (index : Nat) (period : Nat)
  | setHaltInput (via : Via) (index : Nat) (setting : Nat)
  | querySensor (via : Via) (index : Nat)
  -- Voice block (R82)
  | note (via : Via) (index : Nat) (record : NoteArgs)
  | clearVoice (via : Via) (index : Nat)
  | setEnvelope (via : Via) (index : Nat) (attack release : Nat)
  | setVoiceScale (via : Via) (index : Nat) (scale : Nat)
  | setMasterVolume (via : Via) (index : Nat) (volume : Nat)
  | queryVoice (via : Via) (index : Nat)
  -- Signal block (R91, R92)
  | setPublish (via : Via) (index : Nat) (policy deadband interval : Nat)
  | querySignal (via : Via) (index : Nat)
  -- Listen block (R94 to R107)
  | setEntryRoute (via : Via) (index : Nat) (source signal destKind destIndex : Nat)
  | setEntryTransform (via : Via) (index : Nat) (weight offset : Int)
  | setEntryClamp (via : Via) (index : Nat) (lower upper : Int)
  | setEntryStale (via : Via) (index : Nat) (timeout action : Nat) (fallback : Option Int)
  | setEntryTrigger (via : Via) (index : Nat) (level : Int)
  | enable (via : Via) (index : Nat)
  | disable (via : Via) (index : Nat)
  | free (via : Via) (index : Nat)
  | queryEntry (via : Via) (index : Nat)
  -- Staging block (R109 to R113)
  | stage (via : Via) (index : Nat) (block windex code : Nat) (args : List Byte)
  | cancelGroup (via : Via) (index : Nat)
  | go (via : Via) (index : Nat)
  -- Halt and Station blocks (R128, R129, R163, R164, R183)
  | halt (via : Via) (index : Nat)
  | resume (via : Via) (index : Nat)
  | restart (via : Via) (index : Nat)
  | queryStation (via : Via) (index : Nat)
  | clockRetry (via : Via) (index : Nat)
  -- Messages of the tablet link, taken at the head of their lane (R168, R171, R175)
  | statusRequest
  | setLaneMode (lane mode interval : Nat)
  | pullLane (lane : Nat)
  | storeStartRecord (token : Nat) (bytes : List Byte)
  | watchAdd (station index : Nat)
  | watchRemove (station index : Nat)
  | watchClear
  -- Events of the tablet link
  | tabletMessageValid (chars : List Byte)
  | tabletMessageBad (why : BadMessage)
  | tabletRxQuietGap (midMessage : Bool)
  | forwardWaitingHead
  | soundLaneNoteRelease
  | storeWriteDone
  | uartMessageStart
  | uartMessageSent
  | laneIntervalExpiry (lane : Fin 4)
  | watchHoldExpiry (place : Nat)
  | linkTimeout
  -- Events of the motor ports
  | regulationPeriod (port : Fin 4) (current : Nat)
  | encoderTransition (port : Fin 4) (forward : Bool)
  | encoderIllegalTransition (port : Fin 4) (at_ : Nat)
  | temperatureSample (celsius : Int)
  | profileStep (port : Fin 4)
  -- Events of the sensor ports and the battery monitor
  | sensorSample (port : Fin 4) (raw : Nat)
  | freezeTimeout (port : Fin 4)
  | tuneRetryExpiry (port : Fin 4)
  | batteryReading (millivolts : Nat)
  -- Events of the voices
  | audioSample
  | attackEnd (voice : Fin 3)
  | noteDurationEnd (voice : Fin 3)
  | releaseEnd (voice : Fin 3)
  | restEnd (voice : Fin 3)
  | gateStartExpiry
  | gateStopExpiry
  -- Events of the signal table, the listen table and the halt controller
  | publishIntervalExpiry (signal : Fin 16)
  | ageTimerExpiry (entry : Fin 16)
  | safeTimerExpiry
  -- Events of the bus station
  | busLineIdle
  | busFrameStart
  | announcePendingJoin
  | queueTimeout (slot : QueueSlot)
  | arbitrationLost
  | lineFault
  | frameReceptionError (why : ReceptionError)
  | frameCompletion (chars : List Byte)
  | breakDetected
  | breakEnd
  -- Events of the clock unit
  | crystalDetected
  | clockStartTimerExpiry
  | pllLock
  | switchComplete
  | switchAbandoned
  | edgeMonitorExpiry
  | pllLockLost
  -- Resets
  | powerOnReset
  | resetPin
  | restartReset
  | resetEnd (kind : ResetKind) (straps : Fin 16) (millivolts : Nat)
  -- The two events the table lists last
  | busStartEdge
  | tabletRxStrayCharacter (framing : Bool)
deriving DecidableEq, Repr

end Sys2Proof
end

