-- ==== Sys2Proof/Decode.lean ====
section
/-! DEFINITION. The reading of a table word. spec/opcode_table.json gives its rows no bits: no row
has a field, so no word spells a command. The characters of a bus frame, a tablet message and a
staged command are read where they arrive (Machine/BusOps.lean, Machine/LinkOps.lean,
Machine/Path.lean). -/

namespace Sys2Proof

/-- The command that a word spells by the table's bits: none, for the table gives no bits. -/
def decodeTableWord (_nbits _w : Nat) : Option Instr := none

end Sys2Proof
end

