-- ==== Sys2Proof/Config.lean ====
section
/-! DEFINITION. What an implementation fixes and the manual leaves open. Each constant is opaque: no
proof can see what it is, so a statement holds whatever it is. -/

namespace Sys2Proof

/-- The reply fields of Table 12-6 that may be absent and whose characters, while absent, no rule
states: a presence flag stands beside them (R187), and the characters themselves are left open. -/
inductive AbsentField
  | lastPublished | sourceStation | signalIndex | destinationKind | destinationIndex
  | fallback | triggerLevel | lastInput | lastOutput
deriving DecidableEq, Repr

/-- Free value (assumption 1): what a query reply carries in the characters of a field that is
absent. R92 and R107 say only that absent fields are shown as absent, by the presence flag. -/
opaque Config.absentValue : AbsentField → Int

/-- Free value (assumption 2): which of the 13 indexes outside 1..3 a remote Note's Command frame carries
when the voice byte of the Sound-lane message exceeds the four bits of the frame's index field (R170,
R189). -/
opaque Config.voiceNibble : Nat → Fin 13

end Sys2Proof
end

