-- ==== Sys2Proof/Machine/Records.lean ====
section
/-! DEFINITION. The records of the EFP440's blocks, as Tables 1-2, 2-1, 3-2, 4-1, 5-2, 5-6, 6-1, 7-1,
8-3, 9-6, 10-1, 11-1 and 11-3 list them, and the value each takes at reset. -/

namespace Sys2Proof.Machine

/-- A timer: stopped, or running with the duration (in ms) it was started with. Its expiry is an
event of its own (assumption 3). -/
abbrev Timer := Option Nat

/-! ### Motor ports (Tables 1-2 and 2-1) -/

inductive MotorKind
  | none | plain | encoded
deriving DecidableEq, Repr

inductive Mode
  | coast | brake | power | speed | position | pattern | safeRamp
deriving DecidableEq, Repr

/-- Where a port takes its target from (R17 to R19). -/
inductive Source
  | command | pattern | listen (entry : Fin 16)
deriving DecidableEq, Repr

inductive Waveform
  | triangle | sawtooth | sine
deriving DecidableEq, Repr

inductive SafeAction
  | coast | brake | rampLowerThenCoast | rampUpperThenCoast
deriving DecidableEq, Repr

inductive StallPolicy
  | halt | yield
deriving DecidableEq, Repr

/-- The H-bridge (Table 1-3): all switches open, windings shorted, or PWM at the applied duty. -/
inductive Bridge
  | floating | shorted | driven
deriving DecidableEq, Repr

/-- The motor port record of Table 1-2 with the profile generator record of Table 2-1. `bridge` is
what Table 1-3 gives the port's bridge; R3 lets it outlast the mode it came from until the next
regulation period. Times in the illegal-transition record are in µs, oldest first. -/
structure Port where
  kind          : MotorKind
  mode          : Mode
  source        : Source
  target        : Int
  reference     : Int
  position      : Int
  history       : Vector Int 8
  speed         : Int
  acc           : Int
  duty          : Int
  bridge        : Bridge
  current       : Nat
  posKp         : Nat
  posKi         : Nat
  spdKp         : Nat
  spdKi         : Nat
  dutyLimit     : Nat
  currentLimit  : Nat
  stallTime     : Nat
  stallPolicy   : StallPolicy
  safeAction    : SafeAction
  window        : Nat
  lower         : Int
  upper         : Int
  stepCode      : Nat
  periodCode    : Nat
  captured      : Option Int
  illegal       : List Nat
  overCount     : Nat
  stallCount    : Nat
  positionLimit : Bool
  encoderLost   : Bool
  stallYielded  : Bool
  stepTimer     : Timer
  waveform      : Option Waveform
  pointIndex    : Nat
  startIndex    : Nat
  startPoint    : Option Int
  cyclesWanted  : Nat
  cycleCount    : Nat
  arrived       : Bool
  patternDone   : Bool
deriving DecidableEq, Repr

/-- R2 and R28: the reset values of Tables 1-2 and 2-1, for a port of the given kind. -/
def Port.fresh (kind : MotorKind) : Port where
  kind := kind
  mode := .coast
  source := .command
  target := 0
  reference := 0
  position := 0
  history := Vector.replicate 8 0
  speed := 0
  acc := 0
  duty := 0
  bridge := .floating
  current := 0
  posKp := 48
  posKi := 2
  spdKp := 8
  spdKi := 4
  dutyLimit := 1000
  currentLimit := 1500
  stallTime := 500
  stallPolicy := .halt
  safeAction := .coast
  window := 5
  lower := -180
  upper := 180
  stepCode := 0
  periodCode := 0
  captured := none
  illegal := []
  overCount := 0
  stallCount := 0
  positionLimit := false
  encoderLost := false
  stallYielded := false
  stepTimer := none
  waveform := none
  pointIndex := 0
  startIndex := 0
  startPoint := none
  cyclesWanted := 0
  cycleCount := 0
  arrived := false
  patternDone := false

/-! ### Sensor ports and the battery monitor (Table 3-2, R62 to R64) -/

inductive SensorKind
  | off | switch | level | touch
deriving DecidableEq, Repr

inductive Polarity
  | rising | falling
deriving DecidableEq, Repr

inductive TuneResult
  | none | tuneDone | lowSignal | outOfWindow
deriving DecidableEq, Repr

/-- Where a tune stands (R57 to R59): phase 1, trying gains; phase 2, trying `bit` on top of the
offset kept so far; the final check. -/
inductive TunePhase
  | gain | offset (bit kept : Nat) | final
deriving DecidableEq, Repr

/-- A running tune: its phase, the samples taken of the present measurement, and the sum of those
that count (R57). The trial gain and offset stand in the port's `gain` and `offset`. -/
structure Tune where
  phase : TunePhase
  count : Nat
  sum   : Nat
deriving DecidableEq, Repr

/-- The sensor port record of Table 3-2. `tuneAtStart` is the start record's flag for the port,
used up by the port's first sample (R56). -/
structure Sensor where
  kind        : SensorKind
  raw         : Nat
  filt        : Int
  seeded      : Bool
  lta         : Int
  delta       : Int
  active      : Bool
  debounce    : Nat
  length      : Nat
  beta        : Nat
  lbeta       : Nat
  threshold   : Int
  hysteresis  : Int
  polarity    : Polarity
  freezeLevel : Int
  frozen      : Bool
  freezeTime  : Nat
  freezeTimer : Timer
  gain        : Nat
  offset      : Nat
  tuning      : Option Tune
  tuneTarget  : Nat
  tuneResult  : TuneResult
  retryPeriod : Nat
  retryTimer  : Timer
  haltInput   : Bool
  tuneAtStart : Bool
deriving DecidableEq, Repr

/-- R46: the reset values of Table 3-2, for a port of the given kind. The activation threshold and
the hysteresis are those of the kind; a kind that uses neither is given Level's. -/
def Sensor.fresh (kind : SensorKind) (target : Nat) (tuneAtStart : Bool) : Sensor where
  kind := kind
  raw := 0
  filt := 0
  seeded := false
  lta := 0
  delta := 0
  active := false
  debounce := 0
  length := 3
  beta := 2
  lbeta := 7
  threshold := if kind = .touch then 120 else 2048
  hysteresis := if kind = .touch then 30 else 64
  polarity := .rising
  freezeLevel := 80
  frozen := false
  freezeTime := 2000
  freezeTimer := none
  gain := 1
  offset := 0
  tuning := none
  tuneTarget := target
  tuneResult := .none
  retryPeriod := 5000
  retryTimer := none
  haltInput := false
  tuneAtStart := tuneAtStart

/-- The battery monitor (R62 to R64). `low` is the undervoltage state, true for Low. -/
structure Battery where
  filtered   : Int
  ceiling    : Nat
  percentage : Nat
  lowCount   : Nat
  low        : Bool
deriving DecidableEq, Repr

/-! ### Voices (Tables 4-1 to 4-3) -/

inductive NoteWave
  | square | triangle | sawtooth | sine
deriving DecidableEq, Repr

/-- The pitch of a Tone: a note number, or a direct frequency in Hz (Table 4-3). -/
inductive Pitch
  | number (n : Nat) | hertz (f : Nat)
deriving DecidableEq, Repr

/-- A note record (Table 4-3), clamped. A Rest has no pitch; a Tone always has one. -/
structure Note where
  rest     : Bool
  pitch    : Option Pitch
  duration : Nat
  volume   : Nat
  wave     : NoteWave
deriving DecidableEq, Repr

/-- A voice's current sound: a note of its queue, or the continuous tone of a pitch binding. -/
inductive Sound
  | note (n : Note) | tone
deriving DecidableEq, Repr

inductive VoiceState
  | idle | waiting | attack | sustain | release
deriving DecidableEq, Repr

/-- The source of a voice input: its own (Queue for the pitch, Command for the volume scale), or a
listen entry (Table 4-1). -/
inductive VoiceSource
  | own | listen (entry : Fin 16)
deriving DecidableEq, Repr

/-- The voice record of Table 4-1. `phaseMs` is the attack or release time held when the present
phase began, which R73 makes the phase use. -/
structure Voice where
  state        : VoiceState
  queue        : List Note
  sound        : Option Sound
  noteTime     : Nat
  phaseTime    : Nat
  phaseMs      : Nat
  env          : Nat
  releaseStart : Option Nat
  acc          : Nat
  inc          : Nat
  lastWave     : Option NoteWave
  attackMs     : Nat
  releaseMs    : Nat
  pitchSource  : VoiceSource
  boundPitch   : Option Nat
  volumeSource : VoiceSource
  volumeScale  : Nat
deriving DecidableEq, Repr

/-- R68: the reset values of Table 4-1. -/
def Voice.fresh : Voice where
  state := .idle
  queue := []
  sound := none
  noteTime := 0
  phaseTime := 0
  phaseMs := 0
  env := 0
  releaseStart := none
  acc := 0
  inc := 0
  lastWave := none
  attackMs := 10
  releaseMs := 50
  pitchSource := .own
  boundPitch := none
  volumeSource := .own
  volumeScale := 100

inductive Gate
  | off | starting | on
deriving DecidableEq, Repr

/-- The station-wide voice fields of Table 4-2. -/
structure Audio where
  master     : Nat
  gate       : Gate
  startTimer : Timer
  stopTimer  : Timer
  speaker    : Int
deriving DecidableEq, Repr

/-- R68: the reset values of Table 4-2. -/
def Audio.fresh : Audio where
  master := 80
  gate := .off
  startTimer := none
  stopTimer := none
  speaker := 0

/-! ### Signals and the listen table (Tables 5-2 and 5-6) -/

inductive Policy
  | off | onChange | periodic | both
deriving DecidableEq, Repr

structure Signal where
  value         : Int
  policy        : Policy
  deadband      : Nat
  interval      : Nat
  timer         : Timer
  lastPublished : Option Int
deriving DecidableEq, Repr

/-- R85: the reset values of Table 5-2, but for signal 15's value and policy. -/
def Signal.fresh : Signal where
  value := 0
  policy := .off
  deadband := 0
  interval := 100
  timer := none
  lastPublished := none

/-- R86 and R193: signal 15 after reset: Running, no cause, withdrawn, no stage miss, clock off the
PLL, which is 64; its policy is OnChange (Table 5-2). -/
def Signal.freshStatus : Signal := { Signal.fresh with value := 64, policy := .onChange }

inductive EntryState
  | free | disabled | enabled | stale | suspended
deriving DecidableEq, Repr

/-- The destination of a listen entry (Table 5-6). -/
inductive Destination
  | motorPower (port : Fin 4) | motorSpeed (port : Fin 4) | motorPosition (port : Fin 4)
  | voicePitch (voice : Fin 3) | voiceVolume (voice : Fin 3) | goTrigger (group : Nat)
deriving DecidableEq, Repr

/-- The route of a listen entry: what it hears and where its output goes. -/
structure Route where
  source : Nat
  signal : Fin 16
  dest   : Destination
deriving DecidableEq, Repr

inductive StaleAction
  | hold | fallback
deriving DecidableEq, Repr

structure Entry where
  state       : EntryState
  route       : Option Route
  weight      : Int
  offset      : Int
  lower       : Int
  upper       : Int
  timeout     : Nat
  staleAction : StaleAction
  fallback    : Option Int
  trigger     : Option Int
  armed       : Bool
  lastInput   : Option Int
  lastOutput  : Option Int
  age         : Timer
deriving DecidableEq, Repr

/-- R93: the reset values of Table 5-6, which are also what Free gives (R105). -/
def Entry.fresh : Entry where
  state := .free
  route := none
  weight := 256
  offset := 0
  lower := -32768
  upper := 32767
  timeout := 0
  staleAction := .hold
  fallback := none
  trigger := none
  armed := true
  lastInput := none
  lastOutput := none
  age := none

/-! ### Staging (Table 6-1) -/

/-- A staging entry: its group, and the wrapped command as received; block and index are its
target (R110). -/
structure Staged where
  group : Nat
  block : Nat
  index : Nat
  code  : Nat
  args  : List Byte
deriving DecidableEq, Repr

/-! ### Halt controller (Tables 7-1 and 7-2) -/

inductive HaltState
  | running | halting | halted
deriving DecidableEq, Repr

inductive CauseKind
  | tabletHalt | busBreak | stall | overcurrent | thermal | undervoltage | clockLost | linkLost
  | sensorHalt
deriving DecidableEq, Repr

inductive CausePort
  | motor (port : Fin 4) | sensor (port : Fin 4)
deriving DecidableEq, Repr

structure Halt where
  state     : HaltState
  first     : Option CauseKind
  firstPort : Option CausePort
  further   : List CauseKind
  settled   : Vector Bool 4
  safeTimer : Timer
deriving DecidableEq, Repr

/-- R119: the reset values of Table 7-1. -/
def Halt.fresh : Halt where
  state := .running
  first := none
  firstPort := none
  further := []
  settled := Vector.replicate 4 true
  safeTimer := none

/-! ### Bus station (Table 8-3) -/

inductive FrameKind
  | go | command | reply | event | signal | announce
deriving DecidableEq, Repr

/-- The tablet command a Command frame carries: the destination and token its reply names (R158). -/
structure Origin where
  dest  : Nat
  token : Nat
deriving DecidableEq, Repr

/-- A queued frame, or the frame in transmission (Table 8-3). `stamp` is its queued time, counted in
frames that joined before it (assumption 4); `expired` says that its 200 ms have passed (R138). -/
structure Frame where
  kind    : FrameKind
  route   : Nat
  payload : List Byte
  stamp   : Nat
  origin  : Option Origin
  expired : Bool
deriving DecidableEq, Repr

inductive WithdrawnCause
  | clock | lineFault | duplicate | unnumbered
deriving DecidableEq, Repr

inductive BusReceiver
  | hunting | idle | inFrame
deriving DecidableEq, Repr

/-- The bus station record of Table 8-3. `nextStamp` is the model's own: the stamp the next frame
to join the queue takes. -/
structure Bus where
  number          : Option Nat
  serial          : BitVec 32
  queue           : List Frame
  sending         : Option Frame
  lineFaults      : Nat
  withdrawn       : List WithdrawnCause
  announcePending : Bool
  busErrorSeen    : Bool
  receiver        : BusReceiver
  breakSending    : Option Nat
  breakCount      : Nat
  nextStamp       : Nat
deriving DecidableEq, Repr

/-- R135 and R149: the reset values of Table 8-3; a strap or record value of 0 or 15 leaves the
station Unnumbered, which joins the withdrawn causes. -/
def Bus.fresh (serial : BitVec 32) (number : Nat) : Bus where
  number := if number = 0 ∨ number = 15 then none else some number
  serial := serial
  queue := []
  sending := none
  lineFaults := 0
  withdrawn := if number = 0 ∨ number = 15 then [.clock, .unnumbered] else [.clock]
  announcePending := false
  busErrorSeen := false
  receiver := .hunting
  breakSending := none
  breakCount := 0
  nextStamp := 0

/-! ### Results (Table 9-5) -/

inductive Result
  | done | staged | unknownCommand | badIndex | badArgument | badRange | badState | wrongKind
  | noEncoder | halted | busy | queueFull | stageFull | destinationTaken | causeActive | busFull
  | busTimeout
deriving DecidableEq, Repr

/-! ### Tablet link (Table 10-1) -/

inductive TabletReceiver
  | hunting | ready | inMessage
deriving DecidableEq, Repr

inductive LaneMode
  | immediate | batched | quiet
deriving DecidableEq, Repr

/-- A message for the tablet (Table 10-3), as it waits in an outbound FIFO. The content of a status
message is read only when it is sent (R168). A reply carries its result as a code: that of a Reply
frame is passed on as heard (R161). `restartReply` is the Done reply of an accepted Restart, told apart
because the reset waits until it has been sent (R163). -/
inductive OutMsg
  | status
  | reply (station token result : Nat) (data : List Byte)
  | restartReply (station token : Nat)
  | progress (idle : Bool) (voice left : Nat)
  | telemetry (station index : Nat) (value : Int)
  | notice (type first second : Nat)
deriving DecidableEq, Repr

structure OutSlot where
  msg      : OutMsg
  released : Bool
deriving DecidableEq, Repr

/-- One lane: its two FIFOs, oldest message first, with their flags, and its outbound mode. An
inbound message is kept as its body. -/
structure Lane where
  inbound  : List (List Byte)
  outbound : List OutSlot
  overrun  : Bool
  dropped  : Bool
  mode     : LaneMode
  interval : Nat
  timer    : Timer
deriving DecidableEq, Repr

def Lane.fresh : Lane where
  inbound := []
  outbound := []
  overrun := false
  dropped := false
  mode := .immediate
  interval := 100
  timer := none

/-- The hold of a watched pair of this station's own signals (R176). -/
inductive Hold
  | stopped | running (deferred : Bool)
deriving DecidableEq, Repr

structure WatchPair where
  station : Nat
  index   : Nat
  hold    : Hold
deriving DecidableEq, Repr

/-- A store of the start record under way: the token of its StoreStartRecord and the 30 bytes being
written (R171). -/
structure StoreJob where
  token : Nat
  bytes : List Byte
deriving DecidableEq, Repr

/-- The message the UART is sending: its lane, its characters from the start character to the CRC-8
(R190), read when the start character went out, and whether it is the reply of a Restart (R163). -/
structure SentMessage where
  lane    : Fin 4
  chars   : List Byte
  restart : Bool
deriving DecidableEq, Repr

structure Link where
  present     : Bool
  timer       : Timer
  timeout     : Nat
  haltOnLoss  : Bool
  receiver    : TabletReceiver
  lanes       : Vector Lane 4
  watchFull   : Bool
  badSeen     : Bool
  watch       : List WatchPair
  forwarded   : Nat
  store       : Option StoreJob
  sending     : Option SentMessage
deriving DecidableEq, Repr

/-- R165: the reset values of Table 10-1. -/
def Link.fresh (timeout : Nat) (haltOnLoss : Bool) : Link where
  present := false
  timer := none
  timeout := timeout
  haltOnLoss := haltOnLoss
  receiver := .hunting
  lanes := Vector.replicate 4 Lane.fresh
  watchFull := false
  badSeen := false
  watch := []
  forwarded := 0
  store := none
  sending := none

/-! ### Clock unit (Table 11-1) -/

inductive ClockState
  | onRCStarting | switching | onPLL | onRCFailed
deriving DecidableEq, Repr

inductive Crystal
  | stopped | starting | running
deriving DecidableEq, Repr

inductive Pll
  | off | locking | locked
deriving DecidableEq, Repr

structure Clock where
  state       : ClockState
  crystal     : Crystal
  pll         : Pll
  startTimer  : Timer
  edgeMonitor : Timer
  retry       : Option Via
deriving DecidableEq, Repr

/-- R179: the reset values of Table 11-1. -/
def Clock.fresh : Clock where
  state := .onRCStarting
  crystal := .starting
  pll := .off
  startTimer := some 20
  edgeMonitor := none
  retry := none

/-! ### Station block and start record (Tables 9-6 and 11-3) -/

/-- The reply of a pending Restart on its way out (R163): a message for the tablet, or the Reply frame with
this stamp. -/
inductive RestartReply
  | message
  | frame (stamp : Nat)
deriving DecidableEq, Repr

/-- The Station block record, with the marks that stand beside it until the next reset:
RecordInvalid and the propagate-halt flag of the start record (R184). -/
structure Station where
  resetCause     : ResetKind
  recordInvalid  : Bool
  restartPending : Option RestartReply
  propagateHalt  : Bool
deriving DecidableEq, Repr

/-- The non-volatile start record: its 32 bytes, and whether its last store was cut short, after
which it fails its check until a store completes (R185). -/
structure StartRecord where
  bytes : List Byte
  torn  : Bool
deriving DecidableEq, Repr

/-- The values a reset takes from the start record (Table 11-3). -/
structure StartFields where
  number        : Nat
  motorKinds    : Vector MotorKind 4
  sensorKinds   : Vector SensorKind 4
  tuneAtStart   : Vector Bool 4
  propagateHalt : Bool
  haltOnLoss    : Bool
  linkTimeout   : Nat
  tuneTargets   : Vector Nat 4
deriving DecidableEq, Repr

/-- The factory defaults of Table 11-3; the station number is that of the straps. -/
def StartFields.factory (straps : Nat) : StartFields where
  number := straps
  motorKinds := Vector.replicate 4 .encoded
  sensorKinds := Vector.replicate 4 .level
  tuneAtStart := Vector.replicate 4 false
  propagateHalt := true
  haltOnLoss := true
  linkTimeout := 2000
  tuneTargets := Vector.replicate 4 2000

end Sys2Proof.Machine
end

