-- ==== Sys2Proof/Machine/State.lean ====
section
/-! DEFINITION. The state of one EFP440 station with its queue of waiting commands, the reasons a
step could stop, and the machine right after reset. -/

namespace Sys2Proof.Machine

/-- Why a step could stop with a fault. -/
inductive Fault
  /-- Raised by no meaning: the manual gives every row of the table an effect in every state, and an
  event that finds nothing to act on changes nothing (assumption 5). Safe. -/
  | noEffectStated
deriving DecidableEq, Repr

/-- Why a step could be refused. -/
inductive Refusal
  /-- Raised by an arm of `exec` whose command has no meaning yet; no arm is left so. Safe. -/
  | notModelled (mnemonic : String)
deriving DecidableEq, Repr

/-- The state of the station: every record of the manual, the kinds of reset that hold the part at
the moment (R186), and the commands waiting, first in, first out. `hot` is the driver temperature
state of R16, true for Hot; `stageMiss` is the staging list's field of signal 15 (R116). -/
structure State where
  ports     : Vector Port 4
  hot       : Bool
  sensors   : Vector Sensor 4
  battery   : Battery
  voices    : Vector Voice 3
  audio     : Audio
  signals   : Vector Signal 16
  entries   : Vector Entry 16
  staging   : List Staged
  stageMiss : Bool
  halt      : Halt
  bus       : Bus
  link      : Link
  clock     : Clock
  station   : Station
  record    : StartRecord
  resetHeld : List ResetKind
  pending   : List Instr
deriving DecidableEq, Repr

/-- The state right after a power-on reset of a station whose start record has never been stored
(32 bytes of 0, which fail their CRC-16), so that every field takes its factory default and
RecordInvalid is marked (R184). The manual gives no value for the factory serial, the straps and the
first battery reading: the model names 0, 1 and 7200 mV (assumption 6). The reading seeds the
battery monitor and signal 12 (R62, R63). -/
def State.reset : State where
  ports := Vector.replicate 4 (Port.fresh .encoded)
  hot := false
  sensors := Vector.replicate 4 (Sensor.fresh .level 2000 false)
  battery := ⟨7200, 1000, 100, 0, false⟩
  voices := Vector.replicate 3 Voice.fresh
  audio := Audio.fresh
  signals := ((Vector.replicate 16 Signal.fresh).set 15 Signal.freshStatus).set 12
    { Signal.fresh with value := 7200 }
  entries := Vector.replicate 16 Entry.fresh
  staging := []
  stageMiss := false
  halt := Halt.fresh
  bus := Bus.fresh 0#32 1
  link := Link.fresh 2000 true
  clock := Clock.fresh
  station := ⟨.powerOn, true, none, true⟩
  record := ⟨List.replicate 32 0#8, false⟩
  resetHeld := []
  pending := []

end Sys2Proof.Machine
end

