-- ==== Sys2Proof/Machine/Arith.lean ====
section
/-! DEFINITION. The arithmetic of the manual (0.5.4): clamps, the two roundings, the numbers carried
in characters (R187) and the check codes (R188). -/

namespace Sys2Proof.Machine

/-- A clamp to [lo, hi] (0.5.4). -/
def clampI (lo hi x : Int) : Int := if x < lo then lo else if hi < x then hi else x

/-- A clamp of a number that is never negative. -/
def clampN (lo hi x : Nat) : Nat := if x < lo then lo else if hi < x then hi else x

/-- A clamp to ±m (0.5.4). -/
def clampAbs (m x : Int) : Int := clampI (-m) m x

/-- A clamp to the 24-bit range of motor positions (Table 0-3). -/
def clamp24 (x : Int) : Int := clampI (-8388608) 8388607 x

/-- A division rounded to nearest, a result halfway between two integers going away from zero. -/
def roundDiv (a : Int) (b : Nat) : Int :=
  if 0 ≤ a then (2 * a + b) / (2 * b) else -((2 * (-a) + b) / (2 * b))

/-- A division truncated toward zero. -/
def truncDiv (a : Int) (b : Nat) : Int := Int.tdiv a b

/-! ### Numbers in characters (R187): least significant character first -/

/-- `k` characters of a number, a negative one in two's complement; the fields of Table 12-6 that hold a
negative number without being marked signed are assumption 49. -/
def charsOf : Nat → Int → List Byte
  | 0, _ => []
  | k + 1, v => BitVec.ofInt 8 v :: charsOf k (v / 256)

/-- The unsigned number its characters carry. -/
def readU : List Byte → Nat
  | [] => 0
  | b :: bs => b.toNat + 256 * readU bs

/-- The signed number its characters carry. -/
def readS (bs : List Byte) : Int :=
  if 256 ^ bs.length ≤ 2 * readU bs then (readU bs : Int) - (256 ^ bs.length : Nat) else readU bs

/-- `k` characters from place `i` of a list, as an unsigned number. -/
def fieldU (bs : List Byte) (i k : Nat) : Nat := readU ((bs.drop i).take k)

/-- `k` characters from place `i` of a list, as a signed number. -/
def fieldS (bs : List Byte) (i k : Nat) : Int := readS ((bs.drop i).take k)

/-- The number in `width` bits of `n` from bit `lo` upward. -/
def bitsOf (n lo width : Nat) : Nat := n / 2 ^ lo % 2 ^ width

def boolNat (b : Bool) : Nat := if b then 1 else 0

/-! ### Check codes (R188): most significant bit first, no final inversion -/

def crc8Shift (c : Byte) : Byte := if c.msb then (c <<< 1) ^^^ 0x07#8 else c <<< 1

def crc8Byte (c b : Byte) : Byte := Nat.repeat crc8Shift 8 (c ^^^ b)

/-- CRC-8, polynomial x^8 + x^2 + x + 1, initial value 0xFF. -/
def crc8 (bs : List Byte) : Byte := bs.foldl crc8Byte 0xFF#8

def crc16Shift (c : BitVec 16) : BitVec 16 := if c.msb then (c <<< 1) ^^^ 0x1021#16 else c <<< 1

def crc16Byte (c : BitVec 16) (b : Byte) : BitVec 16 :=
  Nat.repeat crc16Shift 8 (c ^^^ (b.setWidth 16 <<< 8))

/-- CRC-16, polynomial 0x1021, initial value 0xFFFF. -/
def crc16 (bs : List Byte) : BitVec 16 := bs.foldl crc16Byte 0xFFFF#16

/-! ### The places of the station's blocks -/

def fourPorts : List (Fin 4) := [0, 1, 2, 3]

def threeVoices : List (Fin 3) := [0, 1, 2]

def sixteen : List (Fin 16) := [0, 1, 2, 3, 4, 5, 6, 7, 8, 9, 10, 11, 12, 13, 14, 15]

end Sys2Proof.Machine
end

