-- ==== Sys2Proof/Machine/Operands.lean ====
section
/-! DEFINITION. The codes of Table 12-1 in both directions, the table of blocks and command codes
(R155), the argument counts of Table 12-5, and the note record (R190). -/

namespace Sys2Proof.Machine

/-! ### Codes read from arguments; `none` is an unknown setting (R157, R187) -/

def readWaveform : Nat → Option Waveform
  | 0 => some .triangle | 1 => some .sawtooth | 2 => some .sine | _ => none

def readSafeAction : Nat → Option SafeAction
  | 0 => some .coast | 1 => some .brake | 2 => some .rampLowerThenCoast
  | 3 => some .rampUpperThenCoast | _ => none

def readStallPolicy : Nat → Option StallPolicy
  | 0 => some .halt | 1 => some .yield | _ => none

/-- The gain set of SetGains: true for Position, false for Speed. -/
def readGainSet : Nat → Option Bool
  | 0 => some true | 1 => some false | _ => none

def readPolarity : Nat → Option Polarity
  | 0 => some .rising | 1 => some .falling | _ => none

def readHaltInput : Nat → Option Bool
  | 0 => some false | 1 => some true | _ => none

def readNoteWave : Nat → Option NoteWave
  | 0 => some .square | 1 => some .triangle | 2 => some .sawtooth | 3 => some .sine | _ => none

def readPolicy : Nat → Option Policy
  | 0 => some .off | 1 => some .onChange | 2 => some .periodic | 3 => some .both | _ => none

def readStaleAction : Nat → Option StaleAction
  | 0 => some .hold | 1 => some .fallback | _ => none

def readLaneMode : Nat → Option LaneMode
  | 0 => some .immediate | 1 => some .batched | 2 => some .quiet | _ => none

/-- The destination of a route: port 0..3, voice 1..3 or group 1..7 by the kind (R94, Table 12-5). -/
def readDestination (kind index : Nat) : Option Destination :=
  match kind with
  | 0 => if h : index < 4 then some (.motorPower ⟨index, h⟩) else none
  | 1 => if h : index < 4 then some (.motorSpeed ⟨index, h⟩) else none
  | 2 => if h : index < 4 then some (.motorPosition ⟨index, h⟩) else none
  | 3 => if h : 1 ≤ index ∧ index ≤ 3 then some (.voicePitch ⟨index - 1, by omega⟩) else none
  | 4 => if h : 1 ≤ index ∧ index ≤ 3 then some (.voiceVolume ⟨index - 1, by omega⟩) else none
  | 5 => if 1 ≤ index ∧ index ≤ 7 then some (.goTrigger index) else none
  | _ => none

def readMotorKind : Nat → Option MotorKind
  | 0 => some .none | 1 => some .plain | 2 => some .encoded | _ => none

def readSensorKind : Nat → Option SensorKind
  | 0 => some .off | 1 => some .switch | 2 => some .level | 3 => some .touch | _ => none

/-! ### Codes written into replies, frames and notices (Table 12-1) -/

def Result.code : Result → Nat
  | .done => 0 | .staged => 1 | .unknownCommand => 2 | .badIndex => 3 | .badArgument => 4
  | .badRange => 5 | .badState => 6 | .wrongKind => 7 | .noEncoder => 8 | .halted => 9
  | .busy => 10 | .queueFull => 11 | .stageFull => 12 | .destinationTaken => 13
  | .causeActive => 14 | .busFull => 15 | .busTimeout => 16

def HaltState.code : HaltState → Nat
  | .running => 0 | .halting => 1 | .halted => 2

def CauseKind.code : CauseKind → Nat
  | .tabletHalt => 1 | .busBreak => 2 | .stall => 3 | .overcurrent => 4 | .thermal => 5
  | .undervoltage => 6 | .clockLost => 7 | .linkLost => 8 | .sensorHalt => 9

/-- The code of a halt cause field, 0 for none. -/
def causeCode : Option CauseKind → Nat
  | none => 0
  | some c => c.code

/-- The code of a cause port: none, motor A to D, sensor 1 to 4. -/
def causePortCode : Option CausePort → Nat
  | none => 0
  | some (.motor p) => 1 + p.val
  | some (.sensor p) => 5 + p.val

/-- A cause set in two characters: bit (code − 1) for each kind present. -/
def causeSet (cs : List CauseKind) : Nat := (cs.map fun c => 2 ^ (c.code - 1)).sum

def MotorKind.code : MotorKind → Nat
  | .none => 0 | .plain => 1 | .encoded => 2

def SensorKind.code : SensorKind → Nat
  | .off => 0 | .switch => 1 | .level => 2 | .touch => 3

def Mode.code : Mode → Nat
  | .coast => 0 | .brake => 1 | .power => 2 | .speed => 3 | .position => 4 | .pattern => 5
  | .safeRamp => 6

def Source.code : Source → Nat
  | .command => 0 | .pattern => 1 | .listen n => 16 + n.val

def VoiceSource.code : VoiceSource → Nat
  | .own => 0 | .listen n => 16 + n.val

def TuneResult.code : TuneResult → Nat
  | .none => 0 | .tuneDone => 1 | .lowSignal => 2 | .outOfWindow => 3

def VoiceState.code : VoiceState → Nat
  | .idle => 0 | .waiting => 1 | .attack => 2 | .sustain => 3 | .release => 4

/-- The sound kind: none, Tone note, Rest, continuous tone. -/
def soundCode : Option Sound → Nat
  | none => 0
  | some (.note n) => if n.rest then 2 else 1
  | some .tone => 3

def Gate.code : Gate → Nat
  | .off => 0 | .starting => 1 | .on => 2

def Policy.code : Policy → Nat
  | .off => 0 | .onChange => 1 | .periodic => 2 | .both => 3

def StaleAction.code : StaleAction → Nat
  | .hold => 0 | .fallback => 1

def EntryState.code : EntryState → Nat
  | .free => 0 | .disabled => 1 | .enabled => 2 | .stale => 3 | .suspended => 4

def Destination.kindCode : Destination → Nat
  | .motorPower _ => 0 | .motorSpeed _ => 1 | .motorPosition _ => 2 | .voicePitch _ => 3
  | .voiceVolume _ => 4 | .goTrigger _ => 5

def Destination.indexCode : Destination → Nat
  | .motorPower p => p.val | .motorSpeed p => p.val | .motorPosition p => p.val
  | .voicePitch v => v.val + 1 | .voiceVolume v => v.val + 1 | .goTrigger g => g

def ClockState.code : ClockState → Nat
  | .onRCStarting => 0 | .switching => 1 | .onPLL => 2 | .onRCFailed => 3

/-- The reset cause character, with RecordInvalid in bit 7 (Table 12-3). -/
def resetCauseCode (k : ResetKind) (invalid : Bool) : Nat :=
  (match k with | .powerOn => 0 | .pin => 1 | .command => 2) + 128 * boolNat invalid

def WithdrawnCause.bit : WithdrawnCause → Nat
  | .clock => 1 | .lineFault => 2 | .duplicate => 4 | .unnumbered => 8

/-- Kind codes of bus frames (Table 8-2). -/
def FrameKind.code : FrameKind → Nat
  | .go => 1 | .command => 2 | .reply => 3 | .event => 4 | .signal => 5 | .announce => 6

def readFrameKind : Nat → Option FrameKind
  | 1 => some .go | 2 => some .command | 3 => some .reply | 4 => some .event
  | 5 => some .signal | 6 => some .announce | _ => none

/-! ### Blocks and command codes (R155) -/

/-- The commands of Table 9-2. -/
inductive CommandName
  | coast | brake | setPower | setSpeed | setPosition | moveBy | setPattern | setPresets | setRamp
  | setGains | setLimits | setSafeAction | setArrival | zeroPosition | queryPort
  | setFilter | setThresholds | setPolarity | tune | setTuneRetry | setHaltInput | querySensor
  | note | clearVoice | setEnvelope | setVoiceScale | setMasterVolume | queryVoice
  | setPublish | querySignal
  | setEntryRoute | setEntryTransform | setEntryClamp | setEntryStale | setEntryTrigger
  | enable | disable | free | queryEntry
  | stage | cancelGroup | go
  | halt | resume
  | restart | queryStation | clockRetry
deriving DecidableEq, Repr

/-- R155: each block's commands, in list order from position 0. -/
def blockCommands : Nat → List CommandName
  | 1 => [.coast, .brake, .setPower, .setSpeed, .setPosition, .moveBy, .setPattern, .setPresets,
          .setRamp, .setGains, .setLimits, .setSafeAction, .setArrival, .zeroPosition, .queryPort]
  | 2 => [.setFilter, .setThresholds, .setPolarity, .tune, .setTuneRetry, .setHaltInput,
          .querySensor]
  | 3 => [.note, .clearVoice, .setEnvelope, .setVoiceScale, .setMasterVolume, .queryVoice]
  | 4 => [.setPublish, .querySignal]
  | 5 => [.setEntryRoute, .setEntryTransform, .setEntryClamp, .setEntryStale, .setEntryTrigger,
          .enable, .disable, .free, .queryEntry]
  | 6 => [.stage, .cancelGroup, .go]
  | 7 => [.halt, .resume]
  | 8 => [.restart, .queryStation, .clockRetry]
  | _ => []

/-- R155: the command that a code names in a block: upper four bits the block number, lower four a
position in the block's list. -/
def commandOf (block code : Nat) : Option CommandName :=
  if code / 16 = block then (blockCommands block)[code % 16]? else none

/-- R155: the valid indexes of a block (Table 9-2). -/
def indexOk (block index : Nat) : Bool :=
  match block with
  | 1 => index < 4
  | 2 => 1 ≤ index && index ≤ 4
  | 3 => 1 ≤ index && index ≤ 3
  | 4 => index < 16
  | 5 => index < 16
  | 6 => 1 ≤ index && index ≤ 7
  | 7 => index == 0
  | 8 => index == 0
  | _ => false

/-- R191: whether a command may have this many argument characters (Table 12-5). -/
def countOk (c : CommandName) (n : Nat) : Bool :=
  match c with
  | .coast | .brake | .queryPort | .querySensor | .clearVoice | .queryVoice | .querySignal | .enable
  | .disable | .free | .queryEntry | .cancelGroup | .go | .halt | .resume | .restart
  | .queryStation | .clockRetry => n == 0
  | .setPower | .setSpeed => n == 2
  | .setPosition | .moveBy | .zeroPosition => n == 3
  | .setPattern => n == 3
  | .setPresets => n == 6
  | .setRamp => n == 2
  | .setGains => n == 3
  | .setLimits => n == 7
  | .setSafeAction | .setArrival => n == 1
  | .setFilter => n == 3
  | .setThresholds => n == 7
  | .setPolarity | .setHaltInput => n == 1
  | .tune | .setTuneRetry => n == 2
  | .note => n == 6
  | .setEnvelope => n == 4
  | .setVoiceScale | .setMasterVolume => n == 1
  | .setPublish => n == 4
  | .setEntryRoute => n == 4
  | .setEntryTransform | .setEntryClamp => n == 4
  | .setEntryStale => n == 2 || n == 4
  | .setEntryTrigger => n == 2
  | .stage => 2 ≤ n && n ≤ 9

/-- R110: whether a command may be staged. -/
def stageable (c : CommandName) : Bool :=
  match c with
  | .stage | .cancelGroup | .go | .halt | .resume | .restart | .clockRetry | .queryPort
  | .querySensor | .queryVoice | .querySignal | .queryEntry | .queryStation => false
  | _ => true

/-- R156: the path checks, in order: UnknownCommand, BadIndex, BadArgument for the count. -/
def pathCheck (block index code count : Nat) : Except Result CommandName :=
  match commandOf block code with
  | none => .error .unknownCommand
  | some c =>
    if !indexOk block index then .error .badIndex
    else if !countOk c count then .error .badArgument
    else .ok c

/-! ### Note records (R190) -/

/-- The fields of the six bytes of a note record. -/
def readNoteArgs (bs : List Byte) : NoteArgs where
  kind := bitsOf (fieldU bs 0 1) 0 2
  wave := bitsOf (fieldU bs 0 1) 2 2
  form := bitsOf (fieldU bs 0 1) 4 1
  pitch := fieldU bs 1 2
  duration := fieldU bs 3 2
  volume := fieldU bs 5 1

/-- R69, step 2: the clamped note record, or `none` for an unknown kind or waveform or a Tone without
a pitch (pitch 0, R187). A Rest's pitch and waveform are not used. -/
def readNote (a : NoteArgs) : Option Note :=
  let duration := clampN 10 10000 a.duration
  let volume := clampN 0 100 a.volume
  match a.kind with
  | 0 =>
    match readNoteWave a.wave with
    | none => none
    | some w =>
      if a.pitch = 0 then none
      else if a.form = 0 then
        some ⟨false, some (.number (clampN 24 108 a.pitch)), duration, volume, w⟩
      else some ⟨false, some (.hertz (clampN 20 8000 a.pitch)), duration, volume, w⟩
  | 1 => some ⟨true, none, duration, volume, .square⟩
  | _ => none

/-! ### Ramp codes and the shape table (R29, R43) -/

/-- Table 2-2, position counts. -/
def positionStep : Nat → Int
  | 0 => 1 | 1 => 2 | 2 => 3 | 3 => 4 | 4 => 6 | 5 => 8 | 6 => 16 | _ => 32

/-- Table 2-2, counts per second. -/
def speedStep (code : Nat) : Int := 10 * positionStep code

/-- Table 2-3, in ms; code 0 has no period. -/
def rampPeriod : Nat → Timer
  | 0 => none | 1 => some 5 | 2 => some 10 | 3 => some 15 | 4 => some 20 | 5 => some 30
  | 6 => some 40 | 7 => some 60 | 8 => some 80 | 9 => some 120 | 10 => some 160 | 11 => some 240
  | 12 => some 320 | 13 => some 480 | 14 => some 640 | _ => some 960

/-- Table 2-8, first half. -/
def shapeHalf : Nat → Int
  | 0 => 0 | 1 => 200 | 2 => 392 | 3 => 569 | 4 => 724 | 5 => 851 | 6 => 946 | 7 => 1004
  | 8 => 1024 | 9 => 1004 | 10 => 946 | 11 => 851 | 12 => 724 | 13 => 569 | 14 => 392 | _ => 200

/-- R43: the shape table s[0..31]; s[k] = −s[k − 16] for k of 16..31. -/
def shape (k : Nat) : Int := if k % 32 < 16 then shapeHalf (k % 32) else -shapeHalf (k % 32 - 16)

/-! ### Pitch (R76) -/

/-- Table 4-5: the top octave in tenths of a hertz. -/
def topOctave : Nat → Int
  | 0 => 20930 | 1 => 22175 | 2 => 23493 | 3 => 24890 | 4 => 26370 | 5 => 27938 | 6 => 29600
  | 7 => 31360 | 8 => 33224 | 9 => 35200 | 10 => 37293 | _ => 39511

/-- R76: a pitch in tenths of a hertz. -/
def pitchTenths : Pitch → Int
  | .number n =>
    if n = 108 then 41860
    else roundDiv (topOctave (n % 12)) (2 ^ ((96 + n % 12 - n) / 12))
  | .hertz f => f * 10

/-- R76: the phase increment of a pitch. -/
def pitchIncrement (p : Pitch) : Nat := (roundDiv (pitchTenths p * 16777216) 312500).toNat

end Sys2Proof.Machine
end

