-- ==== Sys2Proof/Machine/Flags.lean ====
section
/-! DEFINITION. The status words, signals 13, 14 and 15 (R86, R193): the fields their owners write,
each into the word as it stands. -/

namespace Sys2Proof.Machine

/-- The word `w` (a signal value) with `v` written into its `width` bits from bit `lo`; every other
bit is kept. -/
def putBits (lo width v : Nat) (w : Int) : Int :=
  let mask : BitVec 16 := BitVec.ofNat 16 ((2 ^ width - 1) * 2 ^ lo)
  ((BitVec.ofInt 16 w &&& ~~~mask) ||| (BitVec.ofNat 16 (v % 2 ^ width * 2 ^ lo))).toInt

/-- The `width` bits of a signal value from bit `lo`. -/
def getBits (lo width : Nat) (w : Int) : Nat := bitsOf (BitVec.ofInt 16 w).toNat lo width

/-- Signal 14's four bits of a motor port: Arrived, PatternDone, StallYielded, EncoderLost. -/
def Port.eventBits (p : Port) : Nat :=
  boolNat p.arrived + 2 * boolNat p.patternDone + 4 * boolNat p.stallYielded
    + 8 * boolNat p.encoderLost

/-- True while the last tune result is a TuneError (R60). -/
def TuneResult.isError : TuneResult → Bool
  | .lowSignal | .outOfWindow => true
  | .none | .tuneDone => false

/-- Signal 13's three bits of a sensor port: Active, Tuning, tune error. -/
def Sensor.stateBits (p : Sensor) : Nat :=
  boolNat p.active + 2 * boolNat p.tuning.isSome + 4 * boolNat p.tuneResult.isError

/-- Signal 14 with port `p`'s bits written. -/
def motorWord (p : Fin 4) (bits : Nat) (w : Int) : Int := putBits (4 * p.val) 4 bits w

/-- Signal 13 with sensor port `p`'s bits written. -/
def sensorWord (p : Fin 4) (bits : Nat) (w : Int) : Int := putBits (3 * p.val) 3 bits w

/-- Signal 15 with the halt controller's fields written: halt state and first cause. -/
def haltWord (h : Halt) (w : Int) : Int :=
  putBits 2 4 (causeCode h.first) (putBits 0 2 h.state.code w)

/-- Signal 15 with the bus station's withdrawn field written. -/
def withdrawnWord (b : Bool) (w : Int) : Int := putBits 6 1 (boolNat b) w

/-- Signal 15 with the staging list's stage-miss field written. -/
def missWord (b : Bool) (w : Int) : Int := putBits 7 1 (boolNat b) w

/-- Signal 15 with the clock unit's clock-on-PLL field written. -/
def pllWord (b : Bool) (w : Int) : Int := putBits 8 1 (boolNat b) w

end Sys2Proof.Machine
end

