-- ==== Sys2Proof/Machine/Ops.lean ====
section
/-! DEFINITION. The named operations over the state: reading and writing one record; the outbound
FIFOs of the tablet link (R172, R174); the transmit queue (R136, R137); replies on their way back
(R160, R192). -/

namespace Sys2Proof.Machine

/-- The outcome of a command. -/
abbrev Outcome := Host.Outcome State Fault Refusal

/-- What a command's block answers: a result code and the data's fields (R160). -/
structure Answer where
  result : Result
  data   : List (List Byte)
deriving DecidableEq, Repr

/-- A command taken by its block: the state after it, and its answer, `none` while the reply is to
come later or the reset it caused leaves none to give. -/
abbrev Taken := State × Option Answer

def done (s : State) : Taken := (s, some ⟨.done, []⟩)

def doneWith (data : List (List Byte)) (s : State) : Taken := (s, some ⟨.done, data⟩)

/-- R157: a refused command changes nothing at its block. -/
def refuse (r : Result) (s : State) : Taken := (s, some ⟨r, []⟩)

/-! ### Reading and writing one record -/

def State.port (s : State) (p : Fin 4) : Port := s.ports[p]
def State.sensor (s : State) (p : Fin 4) : Sensor := s.sensors[p]
def State.voice (s : State) (v : Fin 3) : Voice := s.voices[v]
def State.signal (s : State) (i : Fin 16) : Signal := s.signals[i]
def State.entry (s : State) (n : Fin 16) : Entry := s.entries[n]
def State.lane (s : State) (l : Fin 4) : Lane := s.link.lanes[l]

def State.setPort (s : State) (p : Fin 4) (x : Port) : State := { s with ports := s.ports.set p x }
def State.setSensor (s : State) (p : Fin 4) (x : Sensor) : State :=
  { s with sensors := s.sensors.set p x }
def State.setVoice (s : State) (v : Fin 3) (x : Voice) : State :=
  { s with voices := s.voices.set v x }
def State.setSignal (s : State) (i : Fin 16) (x : Signal) : State :=
  { s with signals := s.signals.set i x }
def State.setEntry (s : State) (n : Fin 16) (x : Entry) : State :=
  { s with entries := s.entries.set n x }
def State.setAudio (s : State) (x : Audio) : State := { s with audio := x }
def State.setHalt (s : State) (x : Halt) : State := { s with halt := x }
def State.setBus (s : State) (x : Bus) : State := { s with bus := x }
def State.setLink (s : State) (x : Link) : State := { s with link := x }
def State.setClock (s : State) (x : Clock) : State := { s with clock := x }
def State.setStation (s : State) (x : Station) : State := { s with station := x }
def State.setStaging (s : State) (x : List Staged) : State := { s with staging := x }
def State.setLane (s : State) (l : Fin 4) (x : Lane) : State :=
  s.setLink { s.link with lanes := s.link.lanes.set l x }

/-- The station is Running (R119). -/
def State.isRunning (s : State) : Bool := s.halt.state == .running

/-- The station is Withdrawn (R135). -/
def State.isWithdrawn (s : State) : Bool := !s.bus.withdrawn.isEmpty

/-- An entry acts while Enabled or Stale (Table 5-5). -/
def Entry.acting (e : Entry) : Bool := e.state == .enabled || e.state == .stale

/-- Signal i's number is this station's own: a station that is unnumbered has none (R97). -/
def State.isOwn (s : State) (station : Nat) : Bool := s.bus.number == some station

/-! ### Suspension (R106) -/

/-- R106: an Enabled or Stale entry becomes Suspended and its age timer stops; any other entry is
unchanged. -/
def suspendEntry (n : Fin 16) (s : State) : State :=
  if (s.entry n).acting then
    s.setEntry n { s.entry n with state := .suspended, age := none }
  else s

/-- The suspension a port asks for when it takes its source back (R17, R106). -/
def suspendSource (src : Source) (s : State) : State :=
  match src with
  | .listen n => suspendEntry n s
  | _ => s

/-- The suspension a voice asks for when it takes an input back (R79, R80). -/
def suspendVoiceSource (src : VoiceSource) (s : State) : State :=
  match src with
  | .listen n => suspendEntry n s
  | .own => s

/-! ### Outbound FIFOs (R172, R174) -/

/-- R174: every message of a FIFO is released. -/
def releaseSlots (q : List OutSlot) : List OutSlot := q.map fun x => { x with released := true }

/-- R174: a message joins the tail, released in Immediate mode and held otherwise; a Batched FIFO
that reaches 6 messages releases them all. -/
def Lane.join (l : Lane) (m : OutMsg) : Lane :=
  let q := l.outbound ++ [⟨m, l.mode == .immediate⟩]
  { l with outbound := if l.mode = .batched ∧ 6 ≤ q.length then releaseSlots q else q }

def OutMsg.isTelemetry : OutMsg → Bool
  | .telemetry .. => true
  | _ => false

/-- R172: two messages are for the same telemetry pair. -/
def OutMsg.samePair : OutMsg → OutMsg → Bool
  | .telemetry st ix _, .telemetry st' ix' _ => st == st' && ix == ix'
  | _, _ => false

/-- R172: the telemetry message of the same pair takes the new one's value in place. -/
def mergeSlots (m : OutMsg) (q : List OutSlot) : List OutSlot :=
  q.map fun x => if m.samePair x.msg then { x with msg := m } else x

/-- The FIFO without its oldest telemetry message. -/
def dropTelemetry : List OutSlot → List OutSlot
  | [] => []
  | x :: q => if x.msg.isTelemetry then q else x :: dropTelemetry q

/-- R172: a lane taking a message: a merge, a place at the tail, or the handling of a full FIFO
(Table 10-4). -/
def Lane.take (l : Lane) (m : OutMsg) : Lane :=
  if l.outbound.any fun x => m.samePair x.msg then { l with outbound := mergeSlots m l.outbound }
  else if l.outbound.length < 6 then l.join m
  else if m.isTelemetry && l.outbound.any fun x => x.msg.isTelemetry then
    { Lane.join { l with outbound := dropTelemetry l.outbound } m with dropped := true }
  else { l with dropped := true }

/-- R172: a message for the tablet, discarded as it is formed while the link is Absent. -/
def tell (lane : Fin 4) (m : OutMsg) (s : State) : State :=
  if s.link.present then s.setLane lane ((s.lane lane).take m) else s

/-- R177: an event notice. -/
def notify (type first second : Nat) (s : State) : State := tell 3 (.notice type first second) s

/-- R169: a reply message to the tablet, named by destination and token. -/
def tabletReply (station token : Nat) (r : Result) (data : List Byte) (s : State) : State :=
  tell 1 (.reply station token r.code data) s

/-- R168: a status request. One status message at most waits in the Link outbound FIFO; a request
that finds one merges into it. -/
def statusAsk (s : State) : State :=
  if (s.lane 0).outbound.any fun x => x.msg == .status then s else tell 0 .status s

/-! ### Reports to the origin of a Command frame (R158, R169) -/

/-- R169: the bus station tells how a Command frame left the queue: the forwarded count falls by 1,
and a frame that did not complete gives BusFull or BusTimeout to the tablet. -/
def reportOrigin (o : Option Origin) (r : Option Result) (s : State) : State :=
  match o with
  | none => s
  | some o =>
    let s := s.setLink { s.link with forwarded := s.link.forwarded - 1 }
    match r with
    | none => s
    | some r => tabletReply o.dest o.token r [] s

/-! ### The transmit queue (R136, R137) -/

/-- R136: the order of the queue: lowest kind code first, then oldest first. -/
def Frame.before (f g : Frame) : Bool :=
  f.kind.code < g.kind.code || (f.kind.code == g.kind.code && f.stamp < g.stamp)

def insertFrame (f : Frame) : List Frame → List Frame
  | [] => [f]
  | g :: q => if f.before g then f :: g :: q else g :: insertFrame f q

/-- R136: an identity is a signal index, shared between Signal and Event frames, a group, or
Announce; Command and Reply frames have none. -/
def Frame.sameIdentity (f g : Frame) : Bool :=
  match f.kind, g.kind with
  | .go, .go => f.payload == g.payload
  | .announce, .announce => true
  | .signal, .signal | .signal, .event | .event, .signal | .event, .event => f.route == g.route
  | _, _ => false

/-- Table 8-5: what an evicted or refused frame leaves behind. -/
def frameLost (f : Frame) (s : State) : State :=
  match f.kind with
  | .command => reportOrigin f.origin (some .busFull) s
  | .announce => s.setBus { s.bus with announcePending := true }
  | _ => s

/-- R137: a frame joins the queue, evicting the youngest frame of the highest code when the queue
holds 8 and that code is higher; the Bool says whether it joined. -/
def joinQueue (f : Frame) (s : State) : State × Bool :=
  if s.bus.queue.length < 8 then
    (s.setBus { s.bus with queue := insertFrame f s.bus.queue }, true)
  else
    match s.bus.queue.getLast? with
    | none => (s, false)
    | some g =>
      if f.kind.code < g.kind.code then
        (frameLost g (s.setBus { s.bus with queue := insertFrame f s.bus.queue.dropLast }), true)
      else (s, false)

/-- A new frame, with the present moment as its queued time. -/
def newFrame (kind : FrameKind) (route : Nat) (payload : List Byte) (o : Option Origin)
    (s : State) : Frame := ⟨kind, route, payload, s.bus.nextStamp, o, false⟩

/-- The moment a frame's stamp was taken has passed. -/
def passStamp (s : State) : State := s.setBus { s.bus with nextStamp := s.bus.nextStamp + 1 }

/-- R136, R137: a request that adds a frame. -/
def addFrame (kind : FrameKind) (route : Nat) (payload : List Byte) (o : Option Origin)
    (s : State) : State × Bool := joinQueue (newFrame kind route payload o s) (passStamp s)

/-- The kind of a signal's frame: Signal for 0..12, Event for 13..15 (Table 8-4). -/
def signalKind (i : Fin 16) : FrameKind := if i.val < 13 then .signal else .event

/-- R88: a frame for signal `i` is in the transmit queue. -/
def State.signalQueued (s : State) (i : Fin 16) : Bool :=
  s.bus.queue.any fun f => (f.kind == .signal || f.kind == .event) && f.route == i.val

/-- R88: the queued frame of signal `i` takes a new payload in place. -/
def refreshFrames (i : Fin 16) (payload : List Byte) (q : List Frame) : List Frame :=
  q.map fun f =>
    if (f.kind == .signal || f.kind == .event) && f.route == i.val
    then { f with payload := payload } else f

/-- R136: a publish request with the present value of signal `i`: dropped while Withdrawn, merged
into a queued frame of the signal, or a new frame, dropped when the queue refuses it. -/
def publishRequest (i : Fin 16) (s : State) : State :=
  let payload := charsOf 2 (s.signal i).value
  if s.isWithdrawn then s
  else if s.signalQueued i then
    s.setBus { s.bus with queue := refreshFrames i payload s.bus.queue }
  else (addFrame (signalKind i) i.val payload none s).1

/-- R113, R136: a Go request: refused (false) while Withdrawn, merged with a queued Go of the group,
or queued. -/
def goRequest (group : Nat) (s : State) : State × Bool :=
  if s.isWithdrawn then (s, false)
  else if s.bus.queue.any fun f => f.kind == .go && f.payload == [BitVec.ofNat 8 group] then
    (s, true)
  else addFrame .go 0 [BitVec.ofNat 8 group] none s

/-- R136: a Reply request, dropped while Withdrawn or when the queue refuses it. -/
def replyRequest (dest : Nat) (payload : List Byte) (s : State) : State :=
  if s.isWithdrawn then s else (addFrame .reply dest payload none s).1

/-- R150, R136, R137: an Announce request: dropped while Withdrawn, merged into a queued Announce,
queued, or left pending when the queue is full. -/
def announceRequest (s : State) : State :=
  if s.isWithdrawn then s
  else if s.bus.queue.any fun f => f.kind == .announce then s
  else
    let payload := charsOf 4 s.bus.serial.toNat
      ++ charsOf 1 (resetCauseCode s.station.resetCause s.station.recordInvalid)
    let t := addFrame .announce 0 payload none s
    if t.2 then t.1 else t.1.setBus { t.1.bus with announcePending := true }

/-- R158, R169: a Command request for a command of the tablet: BusFull at once when refused, the
count unchanged; otherwise the count rises by 1. -/
def commandRequest (o : Origin) (blockIndex : Nat) (code : Nat) (args : List Byte) (s : State) :
    State :=
  let payload := BitVec.ofNat 8 blockIndex :: BitVec.ofNat 8 code :: BitVec.ofNat 8 o.token :: args
  if s.isWithdrawn then tabletReply o.dest o.token .busFull [] s
  else
    let t := addFrame .command o.dest payload (some o) s
    if t.2 then t.1.setLink { t.1.link with forwarded := t.1.link.forwarded + 1 }
    else tabletReply o.dest o.token .busFull [] t.1

/-! ### Replies (R160, R192) -/

/-- R192: whole fields, in order, packed into parts of at most 9 characters. -/
def packFields : List Byte → List (List Byte) → List (List Byte)
  | part, [] => [part]
  | part, f :: fs =>
    if part.length + f.length ≤ 9 then packFields (part ++ f) fs else part :: packFields f fs

/-- R192: each part led by its part character: part number from 1 in bits 7–4, count in bits 3–0. -/
def numberParts (count : Nat) : Nat → List (List Byte) → List (List Byte)
  | _, [] => []
  | k, p :: ps => (BitVec.ofNat 8 (16 * k + count) :: p) :: numberParts count (k + 1) ps

/-- R192: the data of the Reply frames of one reply: one frame without a part character for 10
characters or fewer, numbered parts otherwise. -/
def replyParts (fields : List (List Byte)) : List (List Byte) :=
  if fields.flatten.length ≤ 10 then [fields.flatten]
  else
    let parts := packFields [] fields
    numberParts parts.length 1 parts

/-- R160: the Reply requests of a reply to a bus station, in part order. -/
def busReply (dest token : Nat) (a : Answer) (s : State) : State :=
  (replyParts a.data).foldl
    (fun s data =>
      replyRequest dest (BitVec.ofNat 8 token :: BitVec.ofNat 8 a.result.code :: data) s) s

/-- R162: Done and Staged are acceptances, every other result a refusal. -/
def Result.accepted : Result → Bool
  | .done | .staged => true
  | _ => false

end Sys2Proof.Machine
end

