-- ==== Sys2Proof/Machine/RecordOps.lean ====
section
/-! DEFINITION. The start record (R184, R193), the beginning of a reset (R2, R186), and how an event
ends: the reset of a Restart whose Reply frame has left (R163). -/

namespace Sys2Proof.Machine

/-! ### The start record (R184, R188, R193) -/

/-- R188: the record that a store of 30 bytes writes: the bytes and their CRC-16, low byte first. -/
def recordOf (bytes : List Byte) : List Byte := bytes ++ charsOf 2 (crc16 bytes).toNat

/-- Table 12-8: the motor kinds of byte 1, `none` with an unknown code. -/
def readMotorKinds (b : Nat) : Option (Vector MotorKind 4) :=
  match readMotorKind (bitsOf b 0 2), readMotorKind (bitsOf b 2 2), readMotorKind (bitsOf b 4 2),
    readMotorKind (bitsOf b 6 2) with
  | some a, some b, some c, some d => some #v[a, b, c, d]
  | _, _, _, _ => none

/-- Table 12-8: the sensor kinds of byte 2. -/
def readSensorKinds (b : Nat) : Option (Vector SensorKind 4) :=
  match readSensorKind (bitsOf b 0 2), readSensorKind (bitsOf b 2 2),
    readSensorKind (bitsOf b 4 2), readSensorKind (bitsOf b 6 2) with
  | some a, some b, some c, some d => some #v[a, b, c, d]
  | _, _, _, _ => none

/-- A flag of a character. -/
def flagOf (b i : Nat) : Bool := bitsOf b i 1 == 1

/-- R184: a tune target of 0 is read as 1. -/
def readTarget (bs : List Byte) (i : Nat) : Nat := max 1 (fieldU bs i 2)

/-- R184: the check of the record: whole, and its CRC-16 as stored. -/
def StartRecord.checks (r : StartRecord) : Bool :=
  !r.torn && r.bytes.length == 32 && r.bytes == recordOf (r.bytes.take 30)

/-- R184, R193: the fields of a valid record, `none` for an invalid one. -/
def StartRecord.fields (r : StartRecord) : Option StartFields :=
  if r.checks then
    match readMotorKinds (fieldU r.bytes 1 1), readSensorKinds (fieldU r.bytes 2 1) with
    | some motors, some sensors =>
      let flags := fieldU r.bytes 3 1
      some {
        number := bitsOf (fieldU r.bytes 0 1) 0 4
        motorKinds := motors
        sensorKinds := sensors
        tuneAtStart := #v[flagOf flags 0, flagOf flags 1, flagOf flags 2, flagOf flags 3]
        propagateHalt := flagOf flags 4
        haltOnLoss := flagOf flags 5
        linkTimeout := 100 * fieldU r.bytes 4 1
        tuneTargets := #v[readTarget r.bytes 5, readTarget r.bytes 7, readTarget r.bytes 9,
                          readTarget r.bytes 11] }
    | _, _ => none
  else none

/-! ### Resets (R186) -/

/-- The reset values of every block (Tables 1-2, 2-1, 3-2, 4-1, 4-2, 5-2, 5-6, 7-1, 8-3, 9-6, 10-1,
11-1), with the fields of the start record. The record and the serial keep their contents, and the
battery monitor its filtered value until the first reading (R62). -/
def resetImage (f : StartFields) (invalid : Bool) (kind : ResetKind) (s : State) : State where
  ports := f.motorKinds.map Port.fresh
  hot := false
  sensors := Vector.ofFn fun p : Fin 4 =>
    Sensor.fresh f.sensorKinds[p] f.tuneTargets[p] f.tuneAtStart[p]
  battery := { s.battery with lowCount := 0, low := false }
  voices := Vector.replicate 3 Voice.fresh
  audio := Audio.fresh
  signals := (Vector.replicate 16 Signal.fresh).set 15 Signal.freshStatus
  entries := Vector.replicate 16 Entry.fresh
  staging := []
  stageMiss := false
  halt := Halt.fresh
  bus := Bus.fresh s.bus.serial f.number
  link := Link.fresh f.linkTimeout f.haltOnLoss
  clock := Clock.fresh
  station := ⟨kind, invalid, none, f.propagateHalt⟩
  record := s.record
  resetHeld := s.resetHeld
  pending := s.pending

/-- R184: the image with the fields of the record, or the factory defaults and the straps. -/
def readImage (kind : ResetKind) (straps : Nat) (s : State) : State :=
  match s.record.fields with
  | some f => resetImage f false kind s
  | none => resetImage (StartFields.factory straps) true kind s

/-- R2, R185, R186: a reset begins. Every block takes its reset values, a store in progress is cut
short and leaves the record torn, and the part is held. -/
def beginReset (kind : ResetKind) (s : State) : State :=
  let s := { s with
    record := { s.record with torn := s.record.torn || s.link.store.isSome }
    resetHeld := if s.resetHeld.contains kind then s.resetHeld else s.resetHeld ++ [kind] }
  readImage kind 0 s

/-! ### How an event ends (R163, R186) -/

/-- R163: the Reply frame of the pending Restart has completed, or has been dropped, evicted or timed out:
it is neither queued nor in transmission. -/
def restartFrameGone (s : State) : Bool :=
  match s.station.restartPending with
  | some (.frame stamp) => !(s.bus.sending.toList ++ s.bus.queue).any fun f => f.stamp == stamp
  | some .message | none => false

/-- R163: the pending Restart resets the part at the event at which its Reply frame has left. -/
def restartAfter (s : State) : State := if restartFrameGone s then beginReset .command s else s

/-- How an event ends whose effects leave `s`: a Restart whose Reply frame the event has made leave resets
the part then, after the event's other effects (R163, assumption 11). -/
def ends (s : State) : Outcome := .next (restartAfter s)

/-- R186: nothing but a reset's own rows reaches a part that is held in reset. -/
def State.whenAwake (s : State) (f : State → State) : Outcome :=
  if s.resetHeld = [] then ends (f s) else .next s

end Sys2Proof.Machine
end

