-- ==== Sys2Proof/Machine/VoiceOps.lean ====
section
/-! DEFINITION. The shared operations of the voices: the audio clock gate (R70, R71), the choice of
the next sound (R72), Release (R74), bindings (R79, R80) and the halt controller's requests (R81). -/

namespace Sys2Proof.Machine

/-- R84: queue low, naming the voice and the notes left. -/
def reportQueueLow (v : Fin 3) (s : State) : State :=
  tell 2 (.progress false (v.val + 1) (s.voice v).queue.length) s

/-- R84: voice idle, naming the voice. -/
def reportIdle (v : Fin 3) (s : State) : State :=
  tell 2 (.progress true (v.val + 1) (s.voice v).queue.length) s

def State.allVoicesIdle (s : State) : Bool := threeVoices.all fun v => (s.voice v).state == .idle

/-- R70: with the gate On and every voice Idle, the stop timer runs 100 ms. -/
def startStopTimer (s : State) : State :=
  if s.audio.gate = .on ∧ s.allVoicesIdle then s.setAudio { s.audio with stopTimer := some 100 }
  else s

/-- A voice with no sound: the current sound and the release start level are absent, env is 0. -/
def Voice.quiet (x : Voice) : Voice := { x with sound := none, env := 0, releaseStart := none }

/-- R72: the choice gave no sound. The voice is Idle, with the voice-idle report if it was not Idle
before; the last voice to become Idle starts the gate's stop timer (R70). -/
def becomeIdle (v : Fin 3) (s : State) : State :=
  let was := (s.voice v).state
  let s := s.setVoice v { (s.voice v).quiet with state := .idle }
  if was = .idle then s else startStopTimer (reportIdle v s)

/-- R72: the sound the table of the choice gives; none while the station is Halting or Halted
(R81). -/
def nextSound (running : Bool) (x : Voice) : Option Sound :=
  if !running then none
  else
    match x.pitchSource with
    | .listen _ => if x.boundPitch.isSome then some .tone else none
    | .own => x.queue.head?.map .note

/-- R72: the record of a voice that starts a sound: a queued note leaves the queue; times, env and
accumulator become 0; the increment and the last waveform come from a Tone; Attack, or Sustain at
once for an attack time of 0 and for a Rest. -/
def Voice.start (x : Voice) (snd : Sound) : Voice :=
  let x := { x with
    sound := some snd, noteTime := 0, phaseTime := 0, env := 0, acc := 0, releaseStart := none,
    phaseMs := x.attackMs, state := if x.attackMs = 0 then .sustain else .attack }
  match snd with
  | .tone =>
    match x.boundPitch with
    | some n => { x with inc := pitchIncrement (.number n) }
    | none => x
  | .note n =>
    let x := { x with queue := x.queue.tail }
    if n.rest then { x with state := .sustain }
    else
      match n.pitch with
      | some p => { x with inc := pitchIncrement p, lastWave := some n.wave }
      | none => x

/-- R72: a voice starts a sound; a note that leaves 2 or fewer behind gives the queue-low report. -/
def startSound (v : Fin 3) (snd : Sound) (s : State) : State :=
  let s := s.setVoice v ((s.voice v).start snd)
  match snd with
  | .note _ => if (s.voice v).queue.length ≤ 2 then reportQueueLow v s else s
  | .tone => s

/-- R70, R72: a Waiting voice leaves Waiting: it starts the sound chosen, or becomes Idle. -/
def leaveWaiting (v : Fin 3) (s : State) : State :=
  match nextSound s.isRunning (s.voice v) with
  | some snd => startSound v snd s
  | none => becomeIdle v s

/-- Table 4-4: a clock request. -/
def requestClock (v : Fin 3) (s : State) : State :=
  match s.audio.gate with
  | .off =>
    if s.clock.state = .onPLL then
      s.setAudio { s.audio with gate := .starting, startTimer := some 2 }
    else s
  | .starting => s
  | .on => leaveWaiting v (s.setAudio { s.audio with stopTimer := none })

/-- A voice enters Waiting and requests the clock (R70). -/
def enterWaiting (v : Fin 3) (s : State) : State :=
  requestClock v (s.setVoice v { (s.voice v).quiet with state := .waiting })

/-- R72: a choice point. An Idle voice given a sound enters Waiting; a voice whose sound has ended
starts the next at once while the gate is On. -/
def chooseSound (v : Fin 3) (s : State) : State :=
  match nextSound s.isRunning (s.voice v) with
  | none => becomeIdle v s
  | some snd =>
    if (s.voice v).state = .idle ∨ s.audio.gate ≠ .on then enterWaiting v s
    else startSound v snd s

/-- R72 to R75: the current sound ends and the next is chosen. -/
def endSound (v : Fin 3) (s : State) : State :=
  chooseSound v (s.setVoice v (s.voice v).quiet)

/-- R74: the voice enters Release from the given level; with a release time of 0 the sound ends at the
entry itself and R72 chooses the next, also between samples (DESIGN CHOICE, assumption 48). env takes the
level at the entry itself, also between samples (DESIGN CHOICE, assumption 46). -/
def enterRelease (v : Fin 3) (level : Nat) (s : State) : State :=
  let x := s.voice v
  if x.releaseMs = 0 then endSound v s
  else s.setVoice v { x with
    state := .release, releaseStart := some level, env := level, phaseTime := 0,
    phaseMs := x.releaseMs }

/-- R74: the level a Release begins at: 256 from Sustain, env from Attack. -/
def Voice.releaseLevel (x : Voice) : Nat := if x.state = .sustain then 256 else x.env

/-- R79: a queued note in Attack or Sustain is cut short. A Tone enters Release; a Rest, which has
no Release (R75), ends (assumption 7). -/
def cutNote (v : Fin 3) (s : State) : State :=
  let x := s.voice v
  match x.sound with
  | some (.note n) =>
    if x.state = .attack ∨ x.state = .sustain then
      if n.rest then endSound v s else enterRelease v x.releaseLevel s
    else s
  | _ => s

/-- R79: the continuous tone in Attack or Sustain enters Release. -/
def cutTone (v : Fin 3) (s : State) : State :=
  let x := s.voice v
  if x.sound = some .tone ∧ (x.state = .attack ∨ x.state = .sustain) then
    enterRelease v x.releaseLevel s
  else s

/-- R79: a pitch binding has ended: the continuous tone enters Release, and an Idle voice with notes
queued enters Waiting. -/
def bindingEnded (v : Fin 3) (s : State) : State :=
  if (s.voice v).state = .idle then
    if (s.voice v).queue.isEmpty then s else chooseSound v s
  else cutTone v s

/-- R79: the bind request of a VoicePitch entry. -/
def bindPitch (v : Fin 3) (n : Fin 16) (s : State) : State :=
  cutNote v (s.setVoice v { s.voice v with pitchSource := .listen n, boundPitch := none })

/-- R79: the value request of a VoicePitch entry, taken while the pitch source is that entry and the
station is Running. -/
def valuePitch (v : Fin 3) (n : Fin 16) (value : Int) (s : State) : State :=
  let x := s.voice v
  if x.pitchSource = .listen n ∧ s.isRunning then
    let x := { x with boundPitch := some value.toNat }
    if x.sound = some .tone then
      s.setVoice v { x with inc := pitchIncrement (.number value.toNat) }
    else if x.state = .idle then chooseSound v (s.setVoice v x)
    else s.setVoice v x
  else s

/-- R79: the release request of a VoicePitch entry. -/
def releasePitch (v : Fin 3) (n : Fin 16) (s : State) : State :=
  if (s.voice v).pitchSource = .listen n then
    bindingEnded v (s.setVoice v { s.voice v with pitchSource := .own })
  else s

/-- R80: the bind request of a VoiceVolume entry. -/
def bindVolume (v : Fin 3) (n : Fin 16) (s : State) : State :=
  s.setVoice v { s.voice v with volumeSource := .listen n }

/-- R80: the value request of a VoiceVolume entry. -/
def valueVolume (v : Fin 3) (n : Fin 16) (value : Int) (s : State) : State :=
  if (s.voice v).volumeSource = .listen n ∧ s.isRunning then
    s.setVoice v { s.voice v with volumeScale := value.toNat }
  else s

/-- R80: the release request of a VoiceVolume entry. -/
def releaseVolume (v : Fin 3) (n : Fin 16) (s : State) : State :=
  if (s.voice v).volumeSource = .listen n then
    s.setVoice v { s.voice v with volumeSource := .own }
  else s

/-- R81: the silence request at halt entry: no sound, an empty queue, Idle. -/
def silenceVoice (v : Fin 3) (s : State) : State :=
  becomeIdle v (s.setVoice v { s.voice v with queue := [] })

/-- R81, R78: every voice is silenced, and the output value is 0 while Halting or Halted. -/
def silenceAll (s : State) : State :=
  let s := threeVoices.foldl (fun s v => silenceVoice v s) s
  s.setAudio { s.audio with speaker := 0 }

/-- R81: the resume notice: a pitch-bound voice with a bound pitch chooses its continuous tone. -/
def resumeVoice (v : Fin 3) (s : State) : State :=
  let x := s.voice v
  match x.pitchSource with
  | .listen _ => if x.boundPitch.isSome ∧ x.state = .idle then chooseSound v s else s
  | .own => s

/-- R71: a voice at the loss of the audio clock. -/
def clockLossVoice (v : Fin 3) (s : State) : State :=
  let x := s.voice v
  match x.state with
  | .idle | .waiting => s
  | .attack | .sustain | .release =>
    let s := s.setVoice v x.quiet
    if (nextSound s.isRunning x).isSome then enterWaiting v s else becomeIdle v s

/-- R70, R71: the clock unit has left OnPLL: a gate that is Starting or On becomes Off with its
timers stopped, no sample is computed (R70), and each voice acts. -/
def audioClockLost (s : State) : State :=
  if s.audio.gate = .off then s
  else
    threeVoices.foldl (fun s v => clockLossVoice v s)
      (s.setAudio { s.audio with gate := .off, startTimer := none, stopTimer := none, speaker := 0 })

/-- R70, R181: the clock unit has entered OnPLL: a gate that is Off starts if any voice waits. -/
def audioClockReady (s : State) : State :=
  if s.audio.gate = .off ∧ threeVoices.any fun v => (s.voice v).state == .waiting then
    s.setAudio { s.audio with gate := .starting, startTimer := some 2 }
  else s

end Sys2Proof.Machine
end

