-- ==== Sys2Proof/Machine/PortOps.lean ====
section
/-! DEFINITION. The shared operations of one motor port and its profile generator: mode changes (R3,
R28, R30), limits (R8, R12), targets (R31, R32), patterns (R36 to R40, R44), the regulators (R9 to
R11) and the requests of the listen table and the halt controller (R18, R19, R21, R22). -/

namespace Sys2Proof.Machine

/-- The modes whose loop is closed on the position. -/
def Mode.positional : Mode → Bool
  | .position | .pattern | .safeRamp => true
  | _ => false

/-- The modes in which the step timer may run (R30). -/
def Mode.stepping : Mode → Bool
  | .speed | .position | .pattern | .safeRamp => true
  | _ => false

/-- A driven mode: every mode but Coast and Brake. -/
def Mode.driven : Mode → Bool
  | .coast | .brake => false
  | _ => true

/-- The port is in Coast or Brake (Table 7-1). -/
def Mode.settled : Mode → Bool
  | .coast | .brake => true
  | _ => false

/-! ### Limits (R8, R12) -/

/-- R8: the effective limit, the lesser of the duty limit and the supply ceiling. -/
def effLimit (ceiling : Nat) (p : Port) : Int := (min p.dutyLimit ceiling : Nat)

/-- R12: the target duty of Power mode applied to the bridge, clamped to the effective limit. -/
def Port.applyPower (ceiling : Nat) (p : Port) : Port :=
  { p with duty := clampAbs (effLimit ceiling p) p.target, bridge := .driven }

/-- R12, R24, R63: the applied duty of a driven port clamped into its effective limit at once. -/
def Port.reclamp (ceiling : Nat) (p : Port) : Port :=
  if p.mode.driven then { p with duty := clampAbs (effLimit ceiling p) p.duty } else p

/-! ### Mode changes (R3, R28, R30) -/

/-- R30: the step timer started from zero with the period of the present period code. -/
def Port.restartStep (p : Port) : Port := { p with stepTimer := rampPeriod p.periodCode }

/-- R28: the pattern fields a port loses when it leaves Pattern mode. -/
def Port.clearPattern (p : Port) : Port :=
  { p with waveform := none, startPoint := none, pointIndex := 0, startIndex := 0,
           cyclesWanted := 0, cycleCount := 0 }

/-- R3: the reference on entering mode `m`. -/
def Port.enteredReference (m : Mode) (p : Port) : Int :=
  if m = .speed then clampAbs 1500 p.speed
  else if m.positional ∧ ¬p.mode.positional then p.position
  else p.reference

/-- R3, R28, R30, R14: a port that changes to mode `m`; a port already in `m` is unchanged. A change to
Coast or Brake leaves the stall count at 0. The target of a driven mode is the caller's to set. -/
def Port.enter (m : Mode) (p : Port) : Port :=
  if p.mode = m then p
  else
    let p := if p.mode = .pattern then p.clearPattern else p
    let p := { p with
      reference := p.enteredReference m, mode := m, acc := 0, captured := none, arrived := false,
      stepTimer := if m.stepping then rampPeriod p.periodCode else none }
    match m with
    | .coast => { p with bridge := .floating, duty := 0, target := 0, stallCount := 0 }
    | .brake => { p with bridge := .shorted, duty := 0, target := 0, stallCount := 0 }
    | _ => p

/-- R31: a target of a ramped mode is set; with period code 0 the reference takes it at once. -/
def Port.aim (t : Int) (p : Port) : Port :=
  { p with target := t, reference := if p.periodCode = 0 then t else p.reference }

/-! ### Patterns (R36 to R40, R44) -/

/-- R39: point k of a Sine pattern, with the presets held. -/
def Port.sinePoint (p : Port) (k : Nat) : Int :=
  let half := (p.upper - p.lower) / 2
  p.lower + half + roundDiv (shape k * half) 1024

/-- R44: the target of a port in Pattern mode. -/
def Port.patternTarget (p : Port) : Int :=
  if p.patternDone then p.reference
  else
    match p.waveform with
    | some .triangle => if p.pointIndex = 1 then p.lower else p.upper
    | some .sawtooth => p.upper
    | some .sine => p.sinePoint (p.pointIndex + 1)
    | none => p.target

def Port.retarget (p : Port) : Port := { p with target := p.patternTarget }

/-- R40: a cycle completes: the pattern continues, a Triangle or Sawtooth from leg 0, or is done. -/
def Port.cycleComplete (p : Port) : Port :=
  let n := p.cycleCount + 1
  if p.cyclesWanted = 0 ∨ n < p.cyclesWanted then
    { p with cycleCount := if p.cyclesWanted = 0 then n % 256 else n,
             pointIndex := if p.waveform = some .sine then p.pointIndex else 0 }
  else { p with cycleCount := n, stepTimer := none, target := p.reference, patternDone := true }

/-- R37, R38: the completion test: the reference is at or above the start point. -/
def Port.completionTest (p : Port) : Port :=
  if p.startPoint.getD p.lower ≤ p.reference then p.cycleComplete else p

/-- Table 2-5: a Triangle step. -/
def Port.triangleStep (p : Port) : Port :=
  let step := positionStep p.stepCode
  match p.pointIndex with
  | 0 =>
    if p.reference < p.upper then { p with reference := min (p.reference + step) p.upper }
    else
      let r := max (p.upper - step) p.lower
      if r = p.lower then Port.completionTest { p with reference := r, pointIndex := 2 }
      else { p with reference := r, pointIndex := 1 }
  | 1 =>
    if p.lower < p.reference then
      let r := max (p.reference - step) p.lower
      if r = p.lower then Port.completionTest { p with reference := r, pointIndex := 2 }
      else { p with reference := r }
    else Port.completionTest { p with pointIndex := 2 }
  | _ =>
    if p.reference < p.startPoint.getD p.lower then
      Port.completionTest { p with reference := min (p.reference + step) p.upper }
    else p.completionTest

/-- Table 2-6: a Sawtooth step. -/
def Port.sawtoothStep (p : Port) : Port :=
  let step := positionStep p.stepCode
  match p.pointIndex with
  | 0 =>
    if p.reference < p.upper then { p with reference := min (p.reference + step) p.upper }
    else Port.completionTest { p with reference := p.lower, pointIndex := 1 }
  | _ =>
    if p.reference < p.startPoint.getD p.lower then
      Port.completionTest { p with reference := min (p.reference + step) p.upper }
    else p.completionTest

/-- R39: a Sine step. -/
def Port.sineStep (p : Port) : Port :=
  let k := (p.pointIndex + 1) % 32
  let p := { p with pointIndex := k, reference := p.sinePoint k }
  if k = p.startIndex then p.cycleComplete else p

/-- R37 to R40, R44: one step of a pattern, its target updated after it. -/
def Port.patternStep (p : Port) : Port :=
  match p.waveform with
  | some .triangle => p.triangleStep.retarget
  | some .sawtooth => p.sawtoothStep.retarget
  | some .sine => p.sineStep.retarget
  | none => p

/-- R31: the reference one step nearer the target, and not beyond it. -/
def stepToward (step target reference : Int) : Int :=
  if reference < target then min (reference + step) target
  else if target < reference then max (reference - step) target
  else reference

/-- R31: one expiry of the step timer, by the port's mode. -/
def Port.profileStep (p : Port) : Port :=
  match p.mode with
  | .speed => { p with reference := stepToward (speedStep p.stepCode) p.target p.reference }
  | .position | .safeRamp =>
    { p with reference := stepToward (positionStep p.stepCode) p.target p.reference }
  | .pattern => p.patternStep
  | _ => p

/-- R36: a pattern starts. A Triangle or a Sawtooth, which has no start index, leaves that field at its reset
value 0 (DESIGN CHOICE, assumption 44). -/
def Port.startPattern (w : Waveform) (phase cycles : Nat) (p : Port) : Port :=
  let p := p.enter .pattern
  let p := { p with waveform := some w, cyclesWanted := cycles, cycleCount := 0,
                    patternDone := false }
  let p :=
    match w with
    | .sine =>
      { p with startIndex := 4 * phase, pointIndex := 4 * phase, startPoint := none,
               reference := p.sinePoint (4 * phase) }
    | _ =>
      let r := clampI p.lower p.upper p.reference
      { p with reference := r, startPoint := some r, pointIndex := 0, startIndex := 0 }
  p.retarget.restartStep

/-! ### The regulation period (R7 to R14) -/

/-- R7: the measured speed, and the position recorded in the history. -/
def Port.measure (p : Port) : Port :=
  { p with
    speed := clampAbs 32767 ((p.position - p.history[0]) * 25)
    history := #v[p.history[1], p.history[2], p.history[3], p.history[4], p.history[5],
                  p.history[6], p.history[7], p.position] }

/-- R8, stage 3: the accumulator clamped to ±(effective limit × 256). -/
def Port.clampAcc (eff : Int) (p : Port) : Port := { p with acc := clampAbs (eff * 256) p.acc }

/-- R9 to R11: one period of a regulator with error `e`. -/
def Port.regulate (eff : Int) (kp ki : Nat) (e : Int) (p : Port) : Port :=
  let e := clampAbs 32767 e
  let cand := clampAbs (eff * 256) (p.acc + ki * e)
  let u := truncDiv (kp * e) 16 + truncDiv cand 256
  { p with
    duty := clampAbs eff u
    acc := if (eff < u ∧ 0 < e) ∨ (u < -eff ∧ e < 0) then p.acc else cand }

/-- R8, stages 4 and 5: the duty of the port's mode, applied to the bridge. -/
def Port.drive (eff : Int) (p : Port) : Port :=
  match p.mode with
  | .coast => { p with duty := 0, bridge := .floating }
  | .brake => { p with duty := 0, bridge := .shorted }
  | .power => { p with duty := clampAbs eff p.target, bridge := .driven }
  | .speed => { p.regulate eff p.spdKp p.spdKi (p.reference - p.speed) with bridge := .driven }
  | .position | .pattern | .safeRamp =>
    { p.regulate eff p.posKp p.posKi (p.reference - p.position) with bridge := .driven }

/-- R34, R21: the arrival test against the target of Position or the captured preset of SafeRamp
(which is SafeRamp's target). -/
def Port.hasArrived (p : Port) : Bool :=
  p.reference == p.target && (p.position - p.target).natAbs ≤ p.window

/-- R14: the stall condition. -/
def Port.stalling (p : Port) : Bool := 500 ≤ p.duty.natAbs && p.speed.natAbs < 50

/-! ### Requests to the ports -/

/-- The port's report of its mode to the halt controller (R21, R119): its settled flag. -/
def settleFlag (p : Fin 4) (s : State) : State :=
  s.setHalt { s.halt with settled := s.halt.settled.set p (s.port p).mode.settled }

/-- A port is written and its mode reported. -/
def putPort (p : Fin 4) (x : Port) (s : State) : State := settleFlag p (s.setPort p x)

/-- R3, R21: a port changes mode and reports it. -/
def changeMode (p : Fin 4) (m : Mode) (s : State) : State := putPort p ((s.port p).enter m) s

/-- R18: the value request of a listen entry: taken while the source is that entry and the station
is Running, and written as the target in the mode the binding set. -/
def valuePort (p : Fin 4) (n : Fin 16) (v : Int) (s : State) : State :=
  let x := s.port p
  if x.source = .listen n ∧ s.isRunning then
    match x.mode with
    | .power => s.setPort p (Port.applyPower s.battery.ceiling { x with target := v })
    | .speed | .position => s.setPort p (x.aim v)
    | _ => s
  else s

/-- R21, Table 1-5: the mode a safe-action request gives a port, `none` where it stays. A Plain port, or
one whose encoder is lost, that is in Brake with a ramp safe action stays in Brake: the row of the table
is taken before the sentence that carries the ramp out as Coast there (DESIGN CHOICE, assumption 43). -/
def Port.safeMode (x : Port) : Option Mode :=
  if x.kind = .none then none
  else
    match x.safeAction with
    | .coast => some .coast
    | .brake => some .brake
    | .rampLowerThenCoast | .rampUpperThenCoast =>
      match x.mode with
      | .coast | .brake => none
      | .power => some .coast
      | _ => if x.kind = .plain ∨ x.encoderLost then some .coast else some .safeRamp

/-- R21: the preset a SafeRamp captures. -/
def Port.rampPreset (x : Port) : Int :=
  if x.safeAction = .rampUpperThenCoast then x.upper else x.lower

/-- R21, R42: a port enters SafeRamp: the captured preset becomes its target and the step timer is
restarted. -/
def Port.enterSafeRamp (x : Port) : Port :=
  let y := x.enter .safeRamp
  (Port.aim x.rampPreset { y with captured := some x.rampPreset }).restartStep

/-- R21: a port on a safe-action request. -/
def Port.safe (x : Port) : Port :=
  match x.safeMode with
  | none => x
  | some .safeRamp => x.enterSafeRamp
  | some m => x.enter m

/-- R21: at halt entry a port whose source was Pattern gets source Command. -/
def Port.dropPattern (x : Port) : Port :=
  if x.source = .pattern then { x with source := .command } else x

/-- R22: the resume request. -/
def Port.resume (x : Port) : Port :=
  if x.kind = .none then x else { x.enter .coast with acc := 0, source := .command }

end Sys2Proof.Machine
end

