-- ==== Sys2Proof/Machine/SignalOps.lean ====
section
/-! DEFINITION. The signal table and the listen table at work: an update and its three users (R87), the
publish condition (R88), values taken by listen entries (R97 to R102), the own pairs of the watch
list (R176), and the writes of the status words (R86, R116). -/

namespace Sys2Proof.Machine

/-! ### Publishing (R88) -/

/-- R88: the publish condition of signal `i`, measured from the last published value. -/
def Signal.mustPublish (i : Fin 16) (x : Signal) : Bool :=
  match x.lastPublished with
  | none => true
  | some l =>
    if i.val < 13 then max x.deadband 1 ≤ (x.value - l).natAbs
    else x.value != l

def Policy.onChange? : Policy → Bool
  | .onChange | .both => true
  | _ => false

def Policy.periodic? : Policy → Bool
  | .periodic | .both => true
  | _ => false

/-- R88, R90, R91: the publish condition is tested, and a publish request made when it holds. -/
def testPublish (i : Fin 16) (s : State) : State :=
  if (s.signal i).policy.onChange? && (s.signal i).mustPublish i then publishRequest i s else s

/-- R88: an update offered to the publish policy. While a frame of the signal is queued every update
goes to the bus station, whatever the policy. -/
def publishUpdate (i : Fin 16) (s : State) : State :=
  if s.signalQueued i then publishRequest i s else testPublish i s

/-! ### The watch list (R176) -/

/-- R176: the own pair of signal `i` in the watch list takes an update of value `v`. -/
def watchOwn (i : Fin 16) (v : Int) (s : State) : State :=
  match s.link.watch.find? fun w => s.isOwn w.station && w.index == i.val with
  | none => s
  | some w =>
    let held := fun h => s.link.watch.map fun x =>
      if x.station = w.station ∧ x.index = w.index then { x with hold := h } else x
    match w.hold with
    | .stopped =>
      tell 3 (.telemetry w.station w.index v)
        (s.setLink { s.link with watch := held (.running false) })
    | .running _ => s.setLink { s.link with watch := held (.running true) }

/-- R176: a heard frame of a listed pair forms telemetry. -/
def watchHeard (station index : Nat) (v : Int) (s : State) : State :=
  if s.link.watch.any fun w => w.station == station && w.index == index then
    tell 3 (.telemetry station index v) s
  else s

/-! ### The transform (R99) -/

/-- Table 5-7: the clamp of a destination. -/
def Destination.clamp (d : Destination) (x : Int) : Int :=
  match d with
  | .motorPower _ => clampI (-1000) 1000 x
  | .motorSpeed _ => clampI (-1500) 1500 x
  | .motorPosition _ => clampI (-32768) 32767 x
  | .voicePitch _ => clampI 24 108 x
  | .voiceVolume _ => clampI 0 100 x
  | .goTrigger _ => clampI (-32768) 32767 x

/-- R99: scaled, offset, clamped by the entry, clamped by the destination. -/
def Entry.transform (e : Entry) (d : Destination) (v : Int) : Int :=
  d.clamp (clampI e.lower e.upper (e.offset + roundDiv (v * e.weight) 256))

/-! ### Outputs (R100, R101)

An output answers whether the bus station refused a trigger's Go request. The refusal sets stage miss
(R113, R116), which may write signal 15; that write is an update of its own, and follows the value that
brought it about (R97: the order of the entries does not matter; assumption 30). -/

/-- R101: a GoTrigger compares an output with its level; the Bool says that its Go request was
refused. -/
def goTrigger (n : Fin 16) (group : Nat) (out : Int) (s : State) : State × Bool :=
  let e := s.entry n
  if e.trigger.getD 0 ≤ out then
    if e.armed then
      let s := s.setEntry n { e with armed := false }
      if s.isRunning then
        let t := goRequest group s
        (t.1, !t.2)
      else (s, false)
    else (s, false)
  else (s.setEntry n { e with armed := true }, false)

/-- R100, R101: an output goes to its destination. -/
def sendOutput (n : Fin 16) (d : Destination) (out : Int) (s : State) : State × Bool :=
  match d with
  | .motorPower p | .motorSpeed p | .motorPosition p => (valuePort p n out s, false)
  | .voicePitch v => (valuePitch v n out s, false)
  | .voiceVolume v => (valueVolume v n out s, false)
  | .goTrigger g => goTrigger n g out s

/-- R98: the record of an entry that takes a value: last input, last output, age timer, Enabled. -/
def Entry.takeValue (e : Entry) (v out : Int) : Entry :=
  { e with
    lastInput := some v, lastOutput := some out, state := .enabled,
    age := if e.timeout = 0 then e.age else some e.timeout }

/-- R98: an entry takes a value. -/
def takeValue (n : Fin 16) (v : Int) (s : State) : State × Bool :=
  let e := s.entry n
  match e.route with
  | none => (s, false)
  | some r =>
    let out := e.transform r.dest v
    sendOutput n r.dest out (s.setEntry n (e.takeValue v out))

/-- R97: entry `n` acts and has this route. -/
def State.listens (s : State) (source : Nat) (i n : Fin 16) : Bool :=
  (s.entry n).acting && (s.entry n).route.any fun r => r.source == source && r.signal == i

/-- R97: an acting entry with this route takes the value. The number beside the state counts the Go
requests refused. -/
def offerEntry (source : Nat) (i : Fin 16) (v : Int) (t : State × Nat) (n : Fin 16) : State × Nat :=
  if t.1.listens source i n then
    let u := takeValue n v t.1
    (u.1, t.2 + if u.2 then 1 else 0)
  else t

/-- R97: a value reaches every matching entry. -/
def offerValue (source : Nat) (i : Fin 16) (v : Int) (s : State) : State × Nat :=
  sixteen.foldl (offerEntry source i v) (s, 0)

/-- R97: an update reaches the entries whose source is this station; an unnumbered station has no
number that an entry's source can equal. -/
def offerOwn (i : Fin 16) (v : Int) (s : State) : State × Nat :=
  match s.bus.number with
  | some me => offerValue me i v s
  | none => (s, 0)

/-- R113: stage miss is set by `miss` for each Go request refused. -/
def afterMisses (miss : State → State) (t : State × Nat) : State := Nat.repeat miss t.2 t.1

/-- R87: the new value is stored, and offered to the local listen entries, the publish policy and
the watch list; then stage miss is set for the Go requests refused meanwhile (assumption 30). -/
def updateWith (miss : State → State) (i : Fin 16) (v : Int) (s : State) : State :=
  let t := offerOwn i v (s.setSignal i { s.signal i with value := v })
  afterMisses miss (watchOwn i v (publishUpdate i t.1), t.2)

/-! ### Stage miss and the status words (R86, R116) -/

/-- R116, R177: a setting that finds stage miss already set makes no write, and forms a notice. -/
def missAgain (s : State) : State := notify 5 0 0 s

/-- R116: stage miss is set: written to signal 15 when it was clear, with a notice in any case. While
signal 15 is being written stage miss is set, so a trigger refused then finds it so. Signal 15, with its
own telemetry, comes before the notice (DESIGN CHOICE, assumption 13). -/
def setStageMiss (s : State) : State :=
  if s.stageMiss then missAgain s
  else
    let s := { s with stageMiss := true }
    missAgain (updateWith missAgain 15 (missWord true (s.signal 15).value) s)

/-- R87: a producer's write of a signal. -/
def updateSignal (i : Fin 16) (v : Int) (s : State) : State := updateWith setStageMiss i v s

/-- R116: stage miss is cleared, written only when it was set. -/
def clearStageMiss (s : State) : State :=
  if s.stageMiss then
    let s := { s with stageMiss := false }
    updateSignal 15 (missWord false (s.signal 15).value) s
  else s

/-- R86, R131: the halt controller writes its fields of signal 15. -/
def writeHaltWord (s : State) : State := updateSignal 15 (haltWord s.halt (s.signal 15).value) s

/-- R86, R152, R153: the bus station writes its field of signal 15. -/
def writeWithdrawn (b : Bool) (s : State) : State :=
  updateSignal 15 (withdrawnWord b (s.signal 15).value) s

/-- R86, R181, R182: the clock unit writes its field of signal 15. -/
def writePll (b : Bool) (s : State) : State := updateSignal 15 (pllWord b (s.signal 15).value) s

/-- R26, R86: a motor port writes its four bits of signal 14. -/
def writeMotorBits (p : Fin 4) (s : State) : State :=
  updateSignal 14 (motorWord p (s.port p).eventBits (s.signal 14).value) s

/-- R67, R86: a sensor port writes its three bits of signal 13. -/
def writeSensorBits (p : Fin 4) (s : State) : State :=
  updateSignal 13 (sensorWord p (s.sensor p).stateBits (s.signal 13).value) s

/-- R26: the port writes its bits of signal 14 at the event itself when PatternDone, StallYielded or
EncoderLost differs from `was`; a change of Arrived alone waits for the regulation period. -/
def noteEvents (p : Fin 4) (was : Port) (s : State) : State :=
  let x := s.port p
  if x.patternDone = was.patternDone ∧ x.stallYielded = was.stallYielded
      ∧ x.encoderLost = was.encoderLost then s
  else writeMotorBits p s

/-! ### Binding (R19, R103, R104) -/

/-- R19: the bind request of a motor entry: the matching mode, with a target that holds the port
still, unless the port is in it already; source Listen(n), StallYielded and PatternDone clear. -/
def bindPort (p : Fin 4) (n : Fin 16) (m : Mode) (s : State) : State :=
  let x := s.port p
  let y := { x with source := .listen n, stallYielded := false, patternDone := false }
  let z :=
    if x.mode = m then y
    else
      match m with
      | .power => Port.applyPower s.battery.ceiling { y.enter .power with target := 0 }
      | .speed => (y.enter .speed).aim (clampAbs 1500 x.speed)
      | _ => (y.enter .position).aim x.position
  noteEvents p x (putPort p z s)

/-- Enable binds an entry's destination (R103). -/
def bindDestination (n : Fin 16) (d : Destination) (s : State) : State :=
  match d with
  | .motorPower p => bindPort p n .power s
  | .motorSpeed p => bindPort p n .speed s
  | .motorPosition p => bindPort p n .position s
  | .voicePitch v => bindPitch v n s
  | .voiceVolume v => bindVolume v n s
  | .goTrigger _ => s

/-- R125: Halting becomes Halted when all four port-settled flags are true; the safe timer stops and
signal 15 is written. -/
def testHalted (s : State) : State :=
  if s.halt.state = .halting ∧ fourPorts.all fun p => s.halt.settled[p] then
    writeHaltWord (s.setHalt { s.halt with state := .halted, safeTimer := none })
  else s

/-- R19: the release request of a motor entry: Coast with source Command, unless the port's source
is no longer that entry. The port's report may end Halting (R104, R125). -/
def releasePort (p : Fin 4) (n : Fin 16) (s : State) : State :=
  let x := s.port p
  if x.source = .listen n then
    testHalted (putPort p { x.enter .coast with source := .command } s)
  else s

/-- Disable and Free release an acting entry's destination (R104, R105). -/
def releaseDestination (n : Fin 16) (d : Destination) (s : State) : State :=
  match d with
  | .motorPower p | .motorSpeed p | .motorPosition p => releasePort p n s
  | .voicePitch v => releasePitch v n s
  | .voiceVolume v => releaseVolume v n s
  | .goTrigger _ => s

end Sys2Proof.Machine
end

