-- ==== Sys2Proof/Machine/BusOps.lean ====
section
/-! DEFINITION. The shared operations of the bus station: frames in characters (R134, R144, R189), a
frame abandoned (R140), breaks (R148), Withdrawn (R152, R153). -/

namespace Sys2Proof.Machine

/-! ### Frames in characters (R134, R188, R189) -/

/-- R134, R189: the characters of a frame, header to check character; an unnumbered station, which
sends none, is given source 0. -/
def encodeFrame (number : Option Nat) (f : Frame) : List Byte :=
  let body := BitVec.ofNat 8 (16 * f.kind.code + number.getD 0)
    :: BitVec.ofNat 8 (16 * f.route + f.payload.length) :: f.payload
  body ++ [crc8 body]

/-- A frame as heard: kind, source station, route field and payload. -/
structure Heard where
  kind    : FrameKind
  source  : Nat
  route   : Nat
  payload : List Byte
deriving DecidableEq, Repr

/-- R144, steps 3 and 4: length and route field in the ranges of Table 8-2, and a Go's group. -/
def rangesOk (k : FrameKind) (route : Nat) (payload : List Byte) : Bool :=
  let n := payload.length
  match k with
  | .go => route == 0 && n == 1 && 1 ≤ readU payload && readU payload ≤ 7
  | .command => route ≤ 14 && 3 ≤ n && n ≤ 12
  | .reply => 1 ≤ route && route ≤ 14 && 2 ≤ n && n ≤ 12
  | .event | .signal => route < 16 && n == 2
  | .announce => route == 0 && n == 5

/-- R143, R144: the frame its characters give, `none` where a check fails. -/
def readFrame (chars : List Byte) : Option Heard :=
  let c0 := fieldU chars 0 1
  let c1 := fieldU chars 1 1
  let n := c1 % 16
  let payload := (chars.drop 2).take n
  if n ≤ 12 ∧ chars.length = n + 3 ∧ chars[n + 2]? = some (crc8 (chars.take (n + 2))) then
    match readFrameKind (c0 / 16) with
    | none => none
    | some k =>
      if rangesOk k (c1 / 16) payload then some ⟨k, c0 % 16, c1 / 16, payload⟩ else none
  else none

/-! ### A frame abandoned (R140) -/

/-- R140, R138: what a frame dropped for good gives: BusFull or BusTimeout to a Command's origin. -/
def frameDropped (r : Result) (f : Frame) (s : State) : State :=
  match f.kind with
  | .command => reportOrigin f.origin (some r) s
  | _ => s

/-- R140, case 1: the frame in transmission of a station that is Withdrawn, or becomes so at this event, is
dropped. -/
def dropSending (s : State) : State :=
  match s.bus.sending with
  | none => s
  | some f => frameDropped .busFull f (s.setBus { s.bus with sending := none })

/-- R140: the frame in transmission is abandoned and taken by the first case that applies. -/
def abandonFrame (s : State) : State :=
  match s.bus.sending with
  | none => s
  | some f =>
    if s.isWithdrawn then dropSending s
    else
      let s := s.setBus { s.bus with sending := none }
      if f.kind = .go ∧ ¬s.isRunning then s
      else if s.bus.queue.any fun g => f.sameIdentity g then s
      else if f.expired then frameDropped .busTimeout f s
      else
        let t := joinQueue f s
        if t.2 then t.1 else frameLost f t.1

/-- R148: a break request: the frame in transmission is abandoned and the line driven dominant, or
the request is absorbed into the break being sent. -/
def startBreak (s : State) : State :=
  match s.bus.breakSending with
  | some _ => s
  | none =>
    let s := abandonFrame s
    s.setBus { s.bus with breakSending := some 0 }

/-- R124: the Go frames leave the queue, of every group. -/
def removeGoFrames (s : State) : State :=
  s.setBus { s.bus with queue := s.bus.queue.filter fun f => f.kind != .go }

/-! ### Withdrawn (R152, R153) -/

def WithdrawnCause.all : List WithdrawnCause := [.clock, .lineFault, .duplicate, .unnumbered]

/-- The set of withdrawn causes with one more, in the order of Table 8-3. -/
def addWithdrawn (c : WithdrawnCause) (cs : List WithdrawnCause) : List WithdrawnCause :=
  WithdrawnCause.all.filter fun d => d == c || cs.contains d

/-- R152: a cause joins the set. One that joins an empty set withdraws the station: the frame in
transmission and every queued frame are dropped, each Command with BusFull, and signal 15 is
written. The frame in transmission goes first, then the queued frames from the head (DESIGN CHOICE,
assumption 13). -/
def withdraw (c : WithdrawnCause) (s : State) : State :=
  let was := s.isWithdrawn
  let s := s.setBus { s.bus with withdrawn := addWithdrawn c s.bus.withdrawn }
  if was then s
  else
    let s := dropSending s
    let q := s.bus.queue
    let s := s.setBus { s.bus with queue := [], announcePending := false, lineFaults := 0 }
    writeWithdrawn true (q.foldl (fun s f => frameDropped .busFull f s) s)

/-- R153: the Clock cause leaves the set; when that empties it the station leaves Withdrawn: signal
15 is written and an Announce request made. -/
def clearClockCause (s : State) : State :=
  let was := s.isWithdrawn
  let s := s.setBus { s.bus with withdrawn := s.bus.withdrawn.filter fun d => d != .clock }
  if was ∧ ¬s.isWithdrawn then announceRequest (writeWithdrawn false s) else s

end Sys2Proof.Machine
end

