-- ==== Sys2Proof/Machine/HaltOps.lean ====
section
/-! DEFINITION. The shared operations of the halt controller: causes (R120), halt entry (R121 to
R124), Halted (R125), further causes (R127), Resume (R129, R130). -/

namespace Sys2Proof.Machine

def CauseKind.all : List CauseKind :=
  [.tabletHalt, .busBreak, .stall, .overcurrent, .thermal, .undervoltage, .clockLost, .linkLost,
   .sensorHalt]

/-- R127: the further-cause set with one more kind, in the order of Table 7-2. -/
def addCause (c : CauseKind) (cs : List CauseKind) : List CauseKind :=
  CauseKind.all.filter fun d => d == c || cs.contains d

/-- R61: a SensorHalt condition holds on a sensor port. -/
def sensorPresent (p : Fin 4) (s : State) : Bool := (s.sensor p).active && (s.sensor p).haltInput

/-- R120: a recorded kind is present; for a SensorHalt in the set, on any sensor port. -/
def causePresent (c : CauseKind) (s : State) : Bool :=
  match c with
  | .thermal => s.hot
  | .undervoltage => s.battery.low
  | .clockLost => s.clock.state != .onPLL
  | .sensorHalt => fourPorts.any fun p => sensorPresent p s
  | _ => false

/-- R120: the first cause is present; for SensorHalt, on the port named in the record. -/
def firstPresent (s : State) : Bool :=
  match s.halt.first with
  | none => false
  | some .sensorHalt =>
    match s.halt.firstPort with
    | some (.sensor p) => sensorPresent p s
    | _ => false
  | some c => causePresent c s

/-- R129: the recorded kinds that are present. -/
def presentCauses (s : State) : List CauseKind :=
  CauseKind.all.filter fun c =>
    (s.halt.first == some c && firstPresent s) || (s.halt.further.contains c && causePresent c s)

/-- R123, R127: whether a cause's override coasts a port. -/
def coastedBy (c : CauseKind) (at_ : Option CausePort) (p : Fin 4) : Bool :=
  match c with
  | .stall | .overcurrent => at_ == some (.motor p)
  | .undervoltage => true
  | _ => false

/-- R123, R21: what a port does at halt entry: a coast request or its safe action, and a Pattern
source becomes Command. -/
def haltPort (c : CauseKind) (at_ : Option CausePort) (s : State) (p : Fin 4) : State :=
  let x := s.port p
  putPort p (if coastedBy c at_ p then x.enter .coast else x.safe).dropPattern s

/-- R121, steps 1 and 2: the halt record, Halting, and the safe timer. -/
def recordFirst (c : CauseKind) (at_ : Option CausePort) (s : State) : State :=
  s.setHalt { s.halt with state := .halting, first := some c, firstPort := at_, further := [],
                          safeTimer := some 3000 }

/-- R122: the break of a halt entry. -/
def haltBreak (c : CauseKind) (s : State) : State :=
  if s.station.propagateHalt ∧ c ≠ .busBreak then startBreak s else s

/-- R121: a cause that reaches the controller while Running starts a halt. -/
def haltEntry (c : CauseKind) (at_ : Option CausePort) (s : State) : State :=
  let s := haltBreak c (recordFirst c at_ s)
  let s := fourPorts.foldl (haltPort c at_) s
  let s := removeGoFrames ((silenceAll s).setStaging [])
  testHalted (notify 0 c.code (causePortCode at_) (writeHaltWord s))

/-- R21, R125: a coast request to a port, and its report. -/
def coastPort (p : Fin 4) (s : State) : State := testHalted (changeMode p .coast s)

/-- R127: a cause that reaches the controller while Halting or Halted. -/
def furtherCause (c : CauseKind) (at_ : Option CausePort) (s : State) : State :=
  let s :=
    if s.halt.first = some c then s
    else s.setHalt { s.halt with further := addCause c s.halt.further }
  fourPorts.foldl (fun s p => if coastedBy c at_ p then coastPort p s else s) s

/-- R121, R127: a cause handed to the halt controller. -/
def giveCause (c : CauseKind) (at_ : Option CausePort) (s : State) : State :=
  if s.isRunning then haltEntry c at_ s else furtherCause c at_ s

/-- R130, step 3: the entries with a motor destination are suspended. -/
def suspendMotorEntry (s : State) (n : Fin 16) : State :=
  match (s.entry n).route with
  | some ⟨_, _, .motorPower _⟩ | some ⟨_, _, .motorSpeed _⟩ | some ⟨_, _, .motorPosition _⟩ =>
    suspendEntry n s
  | _ => s

/-- R130: an accepted Resume. The voices act in the order 1, 2, 3 (DESIGN CHOICE, assumption 13). -/
def resumeStation (s : State) : State :=
  let s := s.setHalt { s.halt with
    state := .running, first := none, firstPort := none, further := [], safeTimer := none }
  let s := fourPorts.foldl (fun s p => putPort p (s.port p).resume s) s
  let s := sixteen.foldl suspendMotorEntry s
  let s := threeVoices.foldl (fun s v => resumeVoice v s) s
  notify 1 0 0 (writeHaltWord s)

end Sys2Proof.Machine
end

