-- ==== Sys2Proof/Machine/BlockOps.lean ====
section
/-! DEFINITION. A command at its block: the check of its index (R156, step 2) and the way its answer
goes back by its path (R157, R160, R116). -/

namespace Sys2Proof.Machine

/-! ### The index of a command (Table 9-2) -/

def atPort (index : Nat) (op : Fin 4 → State → Taken) (s : State) : Taken :=
  if h : index < 4 then op ⟨index, h⟩ s else refuse .badIndex s

def atSensor (index : Nat) (op : Fin 4 → State → Taken) (s : State) : Taken :=
  if h : 1 ≤ index ∧ index ≤ 4 then op ⟨index - 1, by omega⟩ s else refuse .badIndex s

def atVoice (index : Nat) (op : Fin 3 → State → Taken) (s : State) : Taken :=
  if h : 1 ≤ index ∧ index ≤ 3 then op ⟨index - 1, by omega⟩ s else refuse .badIndex s

/-- A signal or a listen entry, by its number. -/
def atSixteen (index : Nat) (op : Fin 16 → State → Taken) (s : State) : Taken :=
  if h : index < 16 then op ⟨index, h⟩ s else refuse .badIndex s

def atGroup (index : Nat) (op : Nat → State → Taken) (s : State) : Taken :=
  if 1 ≤ index ∧ index ≤ 7 then op index s else refuse .badIndex s

/-- A station-wide block: index 0 alone. -/
def atStation (index : Nat) (op : State → Taken) (s : State) : Taken :=
  if index = 0 then op s else refuse .badIndex s

/-! ### The answer of a command -/

/-- R158, R160, R116: an answer goes back by the command's path. A tablet command gets one reply
message; a Command frame gets its Reply requests; a broadcast gets nothing; a staged command gets
nothing, and its refusal sets stage miss. -/
def answered (via : Via) (t : Taken) : State :=
  match t.2 with
  | none => t.1
  | some a =>
    match via with
    | .tablet dest token => tabletReply dest token a.result a.data.flatten t.1
    | .bus source token => busReply source token a t.1
    | .broadcast => t.1
    | .staged => if a.result.accepted then t.1 else setStageMiss t.1

end Sys2Proof.Machine
end

