-- ==== Sys2Proof/Machine/HaltBlock.lean ====
section
/-! DEFINITION. The commands of the Halt block (R128, R129, R131) and the safe timer (R126). -/

namespace Sys2Proof.Machine

/-- R131, Table 12-6: the halt record in the data of the Halt reply. -/
def Halt.report (h : Halt) : List (List Byte) :=
  [charsOf 1 (causeCode h.first), charsOf 1 (causePortCode h.firstPort),
   charsOf 2 (causeSet h.further)]

/-- R128. -/
def haltHalt (s : State) : Taken :=
  let s := giveCause .tabletHalt none s
  doneWith s.halt.report s

/-- R129, Table 7-3. -/
def haltResume (s : State) : Taken :=
  match s.halt.state with
  | .running => done s
  | .halting => refuse .busy s
  | .halted =>
    if (presentCauses s).isEmpty then done (resumeStation s)
    else (s, some ⟨.causeActive, [charsOf 2 (causeSet (presentCauses s))]⟩)

def execHalt (via : Via) (index : Nat) (s : State) : Outcome :=
  s.whenAwake fun s => answered via (atStation index haltHalt s)

def execResume (via : Via) (index : Nat) (s : State) : Outcome :=
  s.whenAwake fun s => answered via (atStation index haltResume s)

/-- R126: the safe timer expires: every port that has not settled coasts. -/
def execSafeTimerExpiry (s : State) : Outcome :=
  s.whenAwake fun s =>
    if s.halt.safeTimer.isSome ∧ s.halt.state = .halting then
      fourPorts.foldl (fun s p => if s.halt.settled[p] then s else coastPort p s)
        (s.setHalt { s.halt with safeTimer := none })
    else s

end Sys2Proof.Machine
end

