-- ==== Sys2Proof/Machine/SignalBlock.lean ====
section
/-! DEFINITION. The commands of the Signal block (R91, R92) and the interval timers (R89). -/

namespace Sys2Proof.Machine

/-- R91: SetPublish; the interval argument counts units of 10 ms. -/
def signalSetPublish (policy deadband interval : Nat) (i : Fin 16) (s : State) : Taken :=
  match readPolicy policy with
  | none => refuse .badArgument s
  | some pol =>
    let ms := clampN 10 2550 (10 * interval)
    done (testPublish i (s.setSignal i { s.signal i with
      policy := pol, deadband := clampN 0 1000 deadband, interval := ms,
      timer := if pol.periodic? then some ms else none }))

/-- A field of a query reply that may be absent: its value, or the free value of assumption 1. -/
def shown (f : AbsentField) (v : Option Int) : Int := v.getD (Config.absentValue f)

/-- R92, Table 12-6; the interval is shown in units of 10 ms. The value and the last published value, which
the table does not mark signed, go in two's complement (DEDUCED, assumption 49). -/
def Signal.report (x : Signal) : List (List Byte) :=
  [charsOf 2 x.value, charsOf 1 x.policy.code, charsOf 2 x.deadband,
   charsOf 1 (x.interval / 10 : Nat), charsOf 2 (shown .lastPublished x.lastPublished),
   charsOf 1 (boolNat x.lastPublished.isSome)]

def signalQuery (i : Fin 16) (s : State) : Taken := doneWith (s.signal i).report s

/-! ### The commands and the event -/

def execSetPublish (via : Via) (index policy deadband interval : Nat) (s : State) : Outcome :=
  s.whenAwake fun s => answered via (atSixteen index (signalSetPublish policy deadband interval) s)

def execQuerySignal (via : Via) (index : Nat) (s : State) : Outcome :=
  s.whenAwake fun s => answered via (atSixteen index signalQuery s)

/-- R89: an interval timer expires: a publish request, and the timer starts again. -/
def execPublishIntervalExpiry (i : Fin 16) (s : State) : Outcome :=
  s.whenAwake fun s =>
    if (s.signal i).timer.isSome then
      publishRequest i (s.setSignal i { s.signal i with timer := some (s.signal i).interval })
    else s

end Sys2Proof.Machine
end

