-- ==== Sys2Proof/Machine/Listen.lean ====
section
/-! DEFINITION. The commands of the Listen block (R94 to R96, R103 to R105, R107) and the age timers
(R102). -/

namespace Sys2Proof.Machine

def Destination.isTrigger : Destination → Bool
  | .goTrigger _ => true
  | _ => false

/-- The motor port a destination drives. -/
def Destination.motorPort : Destination → Option (Fin 4)
  | .motorPower p | .motorSpeed p | .motorPosition p => some p
  | .voicePitch _ | .voiceVolume _ | .goTrigger _ => none

/-! ### Configuration (R94 to R96) -/

/-- R94: the route of a SetEntryRoute, `none` for a source, index or destination out of range. -/
def readRoute (source signal destKind destIndex : Nat) : Option Route :=
  match readDestination destKind destIndex with
  | none => none
  | some d =>
    if h : 1 ≤ source ∧ source ≤ 14 ∧ signal < 16 then some ⟨source, ⟨signal, h.2.2⟩, d⟩ else none

/-- R94: a Free entry with a new route. -/
def Entry.routed (r : Route) (e : Entry) : Entry :=
  if r.dest.isTrigger then
    { e with state := .disabled, route := some r, trigger := some 0, armed := true }
  else { e with state := .disabled, route := some r }

/-- R94: a Disabled or Suspended entry with its route replaced. -/
def Entry.rerouted (r : Route) (e : Entry) : Entry :=
  let was := match e.route with | some old => old.dest.isTrigger | none => false
  let e := { e with route := some r, lastInput := none, lastOutput := none }
  if r.dest.isTrigger then if was then e else { e with trigger := some 0, armed := true }
  else { e with trigger := none }

/-- R94: SetEntryRoute. An invalid route for an acting entry gives BadArgument, not BadState (DEDUCED,
assumption 20). -/
def listenSetRoute (source signal destKind destIndex : Nat) (n : Fin 16) (s : State) : Taken :=
  match readRoute source signal destKind destIndex with
  | none => refuse .badArgument s
  | some r =>
    let e := s.entry n
    match e.state with
    | .free => done (s.setEntry n (e.routed r))
    | .disabled | .suspended => done (s.setEntry n (e.rerouted r))
    | .enabled | .stale => refuse .badState s

/-- R95, R96: BadState on a Free entry. -/
def unlessFree (n : Fin 16) (op : Entry → State → Taken) (s : State) : Taken :=
  if (s.entry n).state = .free then refuse .badState s else op (s.entry n) s

def clamp16 (x : Int) : Int := clampI (-32768) 32767 x

def listenSetTransform (weight offset : Int) (n : Fin 16) : State → Taken :=
  unlessFree n fun e s =>
    done (s.setEntry n { e with weight := clamp16 weight, offset := clamp16 offset })

def listenSetClamp (lower upper : Int) (n : Fin 16) : State → Taken :=
  unlessFree n fun e s =>
    let l := clamp16 lower
    let u := clamp16 upper
    if e.acting ∧ u < l then refuse .badRange s
    else done (s.setEntry n { e with lower := l, upper := u })

/-- R96; the timeout argument counts units of 10 ms. -/
def listenSetStale (timeout action : Nat) (fallback : Option Int) (n : Fin 16) : State → Taken :=
  unlessFree n fun e s =>
    let e := { e with timeout := clampN 0 2550 (10 * timeout) }
    match readStaleAction action, fallback with
    | some .hold, _ => done (s.setEntry n { e with staleAction := .hold, fallback := none })
    | some .fallback, some v =>
      done (s.setEntry n { e with staleAction := .fallback, fallback := some (clamp16 v) })
    | some .fallback, none => refuse .badArgument s
    | none, _ => refuse .badArgument s

def listenSetTrigger (level : Int) (n : Fin 16) : State → Taken :=
  unlessFree n fun e s =>
    match e.route with
    | some ⟨_, _, .goTrigger _⟩ => done (s.setEntry n { e with trigger := some (clamp16 level) })
    | _ => refuse .badArgument s

/-! ### Enable, Disable, Free (R103 to R105) -/

/-- R103: two destinations that may not act together. -/
def Destination.conflicts (d d' : Destination) : Bool :=
  match d, d' with
  | .goTrigger _, _ => false
  | .voicePitch v, .voicePitch v' => v == v'
  | .voiceVolume v, .voiceVolume v' => v == v'
  | _, _ => d.motorPort.isSome && d.motorPort == d'.motorPort

/-- R103: another acting entry owns the destination. -/
def destinationTaken (n : Fin 16) (d : Destination) (s : State) : Bool :=
  sixteen.any fun m =>
    m != n && (s.entry m).acting
      && match (s.entry m).route with
         | some r => d.conflicts r.dest
         | none => false

/-- R103: the port of a MotorSpeed or MotorPosition destination lacks its encoder. -/
def destinationLacksEncoder (d : Destination) (s : State) : Bool :=
  match d with
  | .motorSpeed p | .motorPosition p => (s.port p).kind == .plain || (s.port p).encoderLost
  | _ => false

/-- R103: the first check of Enable that fails. -/
def enableRefusal (n : Fin 16) (e : Entry) (d : Destination) (s : State) : Option Result :=
  if e.upper < e.lower then some .badRange
  else if d.motorPort.isSome ∧ ¬s.isRunning then some .halted
  else if d.motorPort.any fun p => (s.port p).kind == .none then some .wrongKind
  else if destinationLacksEncoder d s then some .noEncoder
  else if destinationTaken n d s then some .destinationTaken
  else none

/-- R103: the record of an entry that becomes Enabled. -/
def Entry.enabled (e : Entry) : Entry :=
  { e with state := .enabled, armed := true, age := if e.timeout = 0 then none else some e.timeout }

def listenEnable (n : Fin 16) (s : State) : Taken :=
  let e := s.entry n
  match e.state, e.route with
  | .free, _ => refuse .badState s
  | .enabled, _ | .stale, _ => done s
  | .disabled, some r | .suspended, some r =>
    match enableRefusal n e r.dest s with
    | some refusal => refuse refusal s
    | none => done (bindDestination n r.dest (s.setEntry n e.enabled))
  | .disabled, none | .suspended, none => refuse .badState s

/-- R104: an acting entry releases its destination. -/
def releaseEntry (n : Fin 16) (e : Entry) (s : State) : State :=
  match e.route with
  | some r => if e.acting then releaseDestination n r.dest s else s
  | none => s

def listenDisable (n : Fin 16) : State → Taken :=
  unlessFree n fun e s =>
    done (releaseEntry n e (s.setEntry n { e with state := .disabled, age := none }))

def listenFree (n : Fin 16) (s : State) : Taken :=
  let e := s.entry n
  if e.state = .free then done s else done (releaseEntry n e (s.setEntry n Entry.fresh))

/-! ### QueryEntry (R107, Table 12-6) -/

def Entry.queryFlags (e : Entry) : Nat :=
  boolNat e.armed + 2 * boolNat e.age.isSome + 4 * boolNat e.route.isSome
    + 8 * boolNat e.fallback.isSome + 16 * boolNat e.trigger.isSome
    + 32 * boolNat e.lastInput.isSome + 64 * boolNat e.lastOutput.isSome

/-- A number of a route, `none` while the route is absent. -/
def Entry.routeField (f : Route → Nat) (e : Entry) : Option Int := e.route.map fun r => (f r : Int)

/-- R107, Table 12-6; the stale timeout is shown in units of 10 ms. The weight, the offset, the clamps, the
fallback, the trigger level, the last input and the last output, which the table does not mark signed, go in
two's complement (DEDUCED, assumption 49). -/
def Entry.report (e : Entry) : List (List Byte) :=
  [charsOf 1 e.state.code,
   charsOf 1 (shown .sourceStation (e.routeField fun r => r.source)),
   charsOf 1 (shown .signalIndex (e.routeField fun r => r.signal.val)),
   charsOf 1 (shown .destinationKind (e.routeField fun r => r.dest.kindCode)),
   charsOf 1 (shown .destinationIndex (e.routeField fun r => r.dest.indexCode)),
   charsOf 2 e.weight, charsOf 2 e.offset, charsOf 2 e.lower, charsOf 2 e.upper,
   charsOf 1 (e.timeout / 10 : Nat), charsOf 1 e.staleAction.code,
   charsOf 2 (shown .fallback e.fallback), charsOf 2 (shown .triggerLevel e.trigger),
   charsOf 1 e.queryFlags, charsOf 2 (shown .lastInput e.lastInput),
   charsOf 2 (shown .lastOutput e.lastOutput)]

def listenQuery (n : Fin 16) (s : State) : Taken := doneWith (s.entry n).report s

/-! ### The commands and the event -/

def execSetEntryRoute (via : Via) (index source signal destKind destIndex : Nat) (s : State) :
    Outcome :=
  s.whenAwake fun s =>
    answered via (atSixteen index (listenSetRoute source signal destKind destIndex) s)

def execSetEntryTransform (via : Via) (index : Nat) (weight offset : Int) (s : State) : Outcome :=
  s.whenAwake fun s => answered via (atSixteen index (listenSetTransform weight offset) s)

def execSetEntryClamp (via : Via) (index : Nat) (lower upper : Int) (s : State) : Outcome :=
  s.whenAwake fun s => answered via (atSixteen index (listenSetClamp lower upper) s)

def execSetEntryStale (via : Via) (index timeout action : Nat) (fallback : Option Int) (s : State) :
    Outcome :=
  s.whenAwake fun s => answered via (atSixteen index (listenSetStale timeout action fallback) s)

def execSetEntryTrigger (via : Via) (index : Nat) (level : Int) (s : State) : Outcome :=
  s.whenAwake fun s => answered via (atSixteen index (listenSetTrigger level) s)

def execEnable (via : Via) (index : Nat) (s : State) : Outcome :=
  s.whenAwake fun s => answered via (atSixteen index listenEnable s)

def execDisable (via : Via) (index : Nat) (s : State) : Outcome :=
  s.whenAwake fun s => answered via (atSixteen index listenDisable s)

def execFree (via : Via) (index : Nat) (s : State) : Outcome :=
  s.whenAwake fun s => answered via (atSixteen index listenFree s)

def execQueryEntry (via : Via) (index : Nat) (s : State) : Outcome :=
  s.whenAwake fun s => answered via (atSixteen index listenQuery s)

/-- R102: an entry that goes Stale writes its fallback through the destination clamp alone; a trigger's
refused Go request sets stage miss (R113). -/
def writeFallback (n : Fin 16) (d : Destination) (v : Int) (s : State) : State :=
  let out := d.clamp v
  let t := sendOutput n d out (s.setEntry n { s.entry n with lastOutput := some out })
  if t.2 then setStageMiss t.1 else t.1

/-- R102: an age timer expires: the entry is Stale, with its stale action. -/
def execAgeTimerExpiry (n : Fin 16) (s : State) : Outcome :=
  s.whenAwake fun s =>
    let e := s.entry n
    if e.age.isSome then
      let s := s.setEntry n { e with state := .stale, age := none }
      match e.staleAction, e.fallback, e.route with
      | .fallback, some v, some r => writeFallback n r.dest v s
      | _, _, _ => s
    else s

end Sys2Proof.Machine
end

