-- ==== Sys2Proof/Machine/Motor.lean ====
section
/-! DEFINITION. The commands of the Motor block (R17, R23 to R27, R33, R35, R36). -/

namespace Sys2Proof.Machine

/-! ### The checks of R23, steps 1 to 3 -/

/-- What a motor command asks of the encoder: nothing; an encoder at hand (SetSpeed, SetPosition,
MoveBy, SetPattern); an encoder, lost or not (ZeroPosition). -/
inductive EncoderNeed
  | no | working | any
deriving DecidableEq, Repr

/-- R23, step 2: the port cannot give the encoder that the command needs. -/
def Port.lacksEncoder (need : EncoderNeed) (x : Port) : Bool :=
  match need with
  | .no => false
  | .working => x.kind == .plain || x.encoderLost
  | .any => x.kind == .plain

/-- R23, steps 1 to 3: the first check that fails. -/
def motorRefusal (need : EncoderNeed) (motion : Bool) (p : Fin 4) (s : State) : Option Result :=
  if (s.port p).kind = .none then some .wrongKind
  else if (s.port p).lacksEncoder need then some .noEncoder
  else if motion && !s.isRunning then some .halted
  else none

/-- R23: a command that passes steps 1 to 3 is carried out. -/
def motorTaken (need : EncoderNeed) (motion : Bool) (p : Fin 4) (op : State → Taken) (s : State) :
    Taken :=
  match motorRefusal need motion p s with
  | some r => refuse r s
  | none => op s

/-! ### Direct motion commands (R17, Table 1-6) -/

/-- R17, R23: an accepted direct motion command: the source, the binding suspended, StallYielded and
PatternDone cleared, and the mode and target of the command. -/
def directMotion (p : Fin 4) (src : Source) (move : Port → Port) (s : State) : State :=
  let x := s.port p
  let y := move { x with source := src, stallYielded := false, patternDone := false }
  noteEvents p x (putPort p y (suspendSource x.source s))

def motorCoast (p : Fin 4) : State → Taken :=
  motorTaken .no true p fun s =>
    done (directMotion p .command (fun x => { x.enter .coast with target := 0 }) s)

def motorBrake (p : Fin 4) : State → Taken :=
  motorTaken .no true p fun s =>
    done (directMotion p .command (fun x => { x.enter .brake with target := 0 }) s)

def motorSetPower (duty : Int) (p : Fin 4) : State → Taken :=
  motorTaken .no true p fun s =>
    done (directMotion p .command
      (fun x => Port.applyPower s.battery.ceiling
        { x.enter .power with target := clampAbs 1000 duty }) s)

def motorSetSpeed (speed : Int) (p : Fin 4) : State → Taken :=
  motorTaken .working true p fun s =>
    done (directMotion p .command
      (fun x => ((x.enter .speed).aim (clampAbs 1500 speed)).restartStep) s)

def motorSetPosition (position : Int) (p : Fin 4) : State → Taken :=
  motorTaken .working true p fun s =>
    done (directMotion p .command
      (fun x => ((x.enter .position).aim (clamp24 position)).restartStep) s)

/-- Table 1-6: MoveBy offsets the target in Position mode, the position counter in any other. -/
def Port.moveTarget (delta : Int) (x : Port) : Int :=
  clamp24 ((if x.mode = .position then x.target else x.position) + clamp24 delta)

def motorMoveBy (delta : Int) (p : Fin 4) : State → Taken :=
  motorTaken .working true p fun s =>
    done (directMotion p .command
      (fun x => ((x.enter .position).aim (x.moveTarget delta)).restartStep) s)

def motorSetPattern (waveform phase cycles : Nat) (p : Fin 4) : State → Taken :=
  motorTaken .working true p fun s =>
    match readWaveform waveform with
    | none => refuse .badArgument s
    | some w =>
      if (s.port p).periodCode = 0 then refuse .badArgument s
      else
        done (directMotion p .pattern (Port.startPattern w (clampN 0 7 phase) (clampN 0 255 cycles)) s)

/-! ### Configuration commands (Table 1-7) -/

/-- A configuration command: the port record is changed, and nothing else. -/
def configure (p : Fin 4) (f : Port → Port) (s : State) : Taken := done (s.setPort p (f (s.port p)))

/-- R35: the presets are replaced; a pattern's reference and start point are clamped into them. -/
def Port.withPresets (l u : Int) (x : Port) : Port :=
  let y := { x with lower := l, upper := u }
  if x.mode = .pattern then
    Port.retarget { y with
      reference := clampI l u x.reference, startPoint := x.startPoint.map (clampI l u) }
  else y

def motorSetPresets (lower upper : Int) (p : Fin 4) : State → Taken :=
  motorTaken .no false p fun s =>
    if clamp24 lower < clamp24 upper then
      configure p (Port.withPresets (clamp24 lower) (clamp24 upper)) s
    else refuse .badRange s

/-- Table 2-4: the effect of SetRamp on a running profile. -/
def Port.withRamp (step period : Nat) (x : Port) : Port :=
  let y := { x with stepCode := step, periodCode := period }
  match x.mode with
  | .coast | .brake | .power => y
  | .speed | .position | .safeRamp =>
    if period = 0 then { y with stepTimer := none, reference := x.target }
    else if period = x.periodCode then y
    else y.restartStep
  | .pattern =>
    if x.patternDone then y
    else if period = 0 then { y with stepTimer := none }
    else if period = x.periodCode then y
    else y.restartStep

def motorSetRamp (step period : Nat) (p : Fin 4) : State → Taken :=
  motorTaken .no false p fun s =>
    configure p (Port.withRamp (clampN 0 7 step) (clampN 0 15 period)) s

def motorSetGains (set kp ki : Nat) (p : Fin 4) : State → Taken :=
  motorTaken .no false p fun s =>
    let kp := clampN 0 255 kp
    let ki := clampN 0 255 ki
    match readGainSet set with
    | none => refuse .badArgument s
    | some true => configure p (fun x => { x with posKp := kp, posKi := ki }) s
    | some false => configure p (fun x => { x with spdKp := kp, spdKi := ki }) s

def motorSetLimits (duty current stall policy : Nat) (p : Fin 4) : State → Taken :=
  motorTaken .no false p fun s =>
    match readStallPolicy policy with
    | none => refuse .badArgument s
    | some pol =>
      configure p (fun x => Port.reclamp s.battery.ceiling { x with
        dutyLimit := clampN 0 1000 duty, currentLimit := clampN 100 2500 current,
        stallTime := clampN 100 2000 stall, stallPolicy := pol,
        overCount := 0, stallCount := 0 }) s

def motorSetSafeAction (action : Nat) (p : Fin 4) : State → Taken :=
  motorTaken .no false p fun s =>
    match readSafeAction action with
    | none => refuse .badArgument s
    | some a => configure p (fun x => { x with safeAction := a }) s

def motorSetArrival (window : Nat) (p : Fin 4) : State → Taken :=
  motorTaken .no false p fun s => configure p (fun x => { x with window := clampN 0 255 window }) s

/-- R25: the changes of ZeroPosition. -/
def Port.zeroed (v : Int) (x : Port) : Port :=
  { x with
    position := v, history := Vector.replicate 8 v, target := v, reference := v,
    positionLimit := false, encoderLost := false, illegal := [] }

def motorZeroPosition (value : Int) (p : Fin 4) : State → Taken :=
  motorTaken .any false p fun s =>
    let x := s.port p
    if x.mode.settled then done (noteEvents p x (s.setPort p (x.zeroed (clamp24 value))))
    else refuse .badState s

/-! ### QueryPort (R27, Table 12-6) -/

def Port.queryFlags (hot : Bool) (x : Port) : Nat :=
  boolNat x.positionLimit + 2 * boolNat x.encoderLost + 4 * boolNat x.stallYielded
    + 8 * boolNat x.arrived + 16 * boolNat x.patternDone + 32 * boolNat hot

/-- R27, Table 12-6: the reply of QueryPort. Target, reference, position, speed and duty, which the table
does not mark signed, go in two's complement (DEDUCED, assumption 49). -/
def Port.report (hot : Bool) (x : Port) : List (List Byte) :=
  [charsOf 1 x.kind.code, charsOf 1 x.mode.code, charsOf 1 x.source.code, charsOf 3 x.target,
   charsOf 3 x.reference, charsOf 3 x.position, charsOf 2 x.speed, charsOf 2 x.duty,
   charsOf 2 x.current, charsOf 1 (x.queryFlags hot)]

def motorQueryPort (p : Fin 4) : State → Taken :=
  motorTaken .no false p fun s => doneWith ((s.port p).report s.hot) s

/-! ### The commands -/

def execCoast (via : Via) (index : Nat) (s : State) : Outcome :=
  s.whenAwake fun s => answered via (atPort index motorCoast s)

def execBrake (via : Via) (index : Nat) (s : State) : Outcome :=
  s.whenAwake fun s => answered via (atPort index motorBrake s)

def execSetPower (via : Via) (index : Nat) (duty : Int) (s : State) : Outcome :=
  s.whenAwake fun s => answered via (atPort index (motorSetPower duty) s)

def execSetSpeed (via : Via) (index : Nat) (speed : Int) (s : State) : Outcome :=
  s.whenAwake fun s => answered via (atPort index (motorSetSpeed speed) s)

def execSetPosition (via : Via) (index : Nat) (position : Int) (s : State) : Outcome :=
  s.whenAwake fun s => answered via (atPort index (motorSetPosition position) s)

def execMoveBy (via : Via) (index : Nat) (delta : Int) (s : State) : Outcome :=
  s.whenAwake fun s => answered via (atPort index (motorMoveBy delta) s)

def execSetPattern (via : Via) (index waveform phase cycles : Nat) (s : State) : Outcome :=
  s.whenAwake fun s => answered via (atPort index (motorSetPattern waveform phase cycles) s)

def execSetPresets (via : Via) (index : Nat) (lower upper : Int) (s : State) : Outcome :=
  s.whenAwake fun s => answered via (atPort index (motorSetPresets lower upper) s)

def execSetRamp (via : Via) (index step period : Nat) (s : State) : Outcome :=
  s.whenAwake fun s => answered via (atPort index (motorSetRamp step period) s)

def execSetGains (via : Via) (index set kp ki : Nat) (s : State) : Outcome :=
  s.whenAwake fun s => answered via (atPort index (motorSetGains set kp ki) s)

def execSetLimits (via : Via) (index duty current stall policy : Nat) (s : State) : Outcome :=
  s.whenAwake fun s => answered via (atPort index (motorSetLimits duty current stall policy) s)

def execSetSafeAction (via : Via) (index action : Nat) (s : State) : Outcome :=
  s.whenAwake fun s => answered via (atPort index (motorSetSafeAction action) s)

def execSetArrival (via : Via) (index window : Nat) (s : State) : Outcome :=
  s.whenAwake fun s => answered via (atPort index (motorSetArrival window) s)

def execZeroPosition (via : Via) (index : Nat) (value : Int) (s : State) : Outcome :=
  s.whenAwake fun s => answered via (atPort index (motorZeroPosition value) s)

def execQueryPort (via : Via) (index : Nat) (s : State) : Outcome :=
  s.whenAwake fun s => answered via (atPort index motorQueryPort s)

end Sys2Proof.Machine
end

