-- ==== Sys2Proof/Machine/SensorOps.lean ====
section
/-! DEFINITION. The shared operations of the sensor ports and the battery monitor: activation and
debouncing (R48, R61), the samples of each kind (R49 to R55), tunes (R56 to R60) and the reading of
the battery (R62 to R64). -/

namespace Sys2Proof.Machine

/-- The signal of a sensor port: 0 to 3 for ports 1 to 4. -/
def sensorSignal (p : Fin 4) : Fin 16 := p.castLE (by decide)

/-! ### Activation (R48, R61) -/

/-- R48, R67, R177: an activation or a release: the Active bit is written, a notice formed, and an
activation with the halt input on gives SensorHalt (R61), in this order (DESIGN CHOICE,
assumption 13). -/
def setActive (p : Fin 4) (a : Bool) (s : State) : State :=
  let s := s.setSensor p { s.sensor p with active := a }
  let s := notify (if a then 2 else 3) (p.val + 1) 0 (writeSensorBits p s)
  if a && (s.sensor p).haltInput then giveCause .sensorHalt (some (.sensor p)) s else s

/-- R48, Table 3-3: one sample that meets (or does not) the activation and release conditions. -/
def debounce (p : Fin 4) (activation release : Bool) (s : State) : State :=
  let x := s.sensor p
  if !(if x.active then release else activation) then s.setSensor p { x with debounce := 0 }
  else if x.debounce + 1 < x.length then s.setSensor p { x with debounce := x.debounce + 1 }
  else setActive p (!x.active) (s.setSensor p { x with debounce := 0 })

/-! ### Samples by kind -/

/-- R50, R53: a value moved toward another by the division rounded to nearest. -/
def filterStep (shift : Nat) (old new : Int) : Int := old + roundDiv (new - old) (2 ^ shift)

/-- R49: a Switch port's sample. A change of Active is reported before the port's own signal (DESIGN CHOICE,
assumption 13). -/
def switchSample (p : Fin 4) (raw : Nat) (s : State) : State :=
  let raw := min raw 1
  let s := s.setSensor p { s.sensor p with raw := raw, seeded := true }
  let s := debounce p (raw == 1) (raw == 0) s
  updateSignal (sensorSignal p) (boolNat (s.sensor p).active) s

/-- R51: the activation and release conditions of a Level port. -/
def Sensor.levelConditions (x : Sensor) : Bool × Bool :=
  match x.polarity with
  | .rising => (decide (x.threshold ≤ x.filt), decide (x.filt < x.threshold - x.hysteresis))
  | .falling => (decide (x.filt ≤ x.threshold), decide (x.threshold + x.hysteresis < x.filt))

/-- R47, R50, R51: a Level port's sample. A change of Active is reported before the port's own signal (DESIGN
CHOICE, assumption 13). -/
def levelSample (p : Fin 4) (raw : Nat) (s : State) : State :=
  let x := s.sensor p
  let raw := min raw 4095
  let s :=
    if x.seeded then
      let y := { x with raw := raw, filt := filterStep x.beta x.filt raw }
      debounce p y.levelConditions.1 y.levelConditions.2 (s.setSensor p y)
    else s.setSensor p { x with raw := raw, filt := raw, seeded := true }
  updateSignal (sensorSignal p) (s.sensor p).filt s

/-- R53, stages 1 to 3: filt, LTA and delta. -/
def Sensor.touchFilter (raw : Nat) (x : Sensor) : Sensor :=
  let filt := filterStep x.beta x.filt raw
  let lta := if x.frozen || x.active then x.lta else filterStep x.lbeta x.lta filt
  { x with raw := raw, filt := filt, lta := lta, delta := lta - filt }

/-- A timer started with a duration, of which 0 means that it does not run. -/
def timerOf (ms : Nat) : Timer := if ms = 0 then none else some ms

/-- R54: the freeze check, stage 4. -/
def Sensor.freezeCheck (x : Sensor) : Sensor :=
  if x.freezeLevel ≤ x.delta.natAbs then
    if x.frozen then x else { x with frozen := true, freezeTimer := timerOf x.freezeTime }
  else { x with frozen := false, freezeTimer := none }

/-- R67: a Touch port's signal. -/
def writeDelta (p : Fin 4) (s : State) : State :=
  updateSignal (sensorSignal p) (clampI (-32768) 32767 (s.sensor p).delta) s

/-- R47, R53, R55: the sample of a Touch port that is not tuning. -/
def touchSample (p : Fin 4) (raw : Nat) (s : State) : State :=
  let x := s.sensor p
  if x.seeded then
    let y := (x.touchFilter raw).freezeCheck
    writeDelta p (debounce p (decide (y.threshold ≤ y.delta))
      (decide (y.delta < y.threshold - y.hysteresis)) (s.setSensor p y))
  else
    writeDelta p (s.setSensor p { x with
      raw := raw, filt := raw, lta := raw, delta := 0, seeded := true })

/-! ### Tunes (R56 to R60) -/

/-- R56: a tune starts. -/
def startTune (p : Fin 4) (s : State) : State :=
  let s := if (s.sensor p).active then setActive p false s else s
  writeSensorBits p (s.setSensor p { s.sensor p with
    frozen := false, freezeTimer := none, debounce := 0, retryTimer := none,
    tuning := some ⟨.gain, 0, 0⟩, gain := 1, offset := 0 })

/-- R60, R177: a tune ends with a result; after a TuneError the retry timer starts. Signal 13 is written
before the notice is formed (DESIGN CHOICE, assumption 13). -/
def endTune (p : Fin 4) (r : TuneResult) (s : State) : State :=
  let x := s.sensor p
  let s := s.setSensor p { x with
    tuneResult := r, tuning := none,
    retryTimer := if r.isError then timerOf x.retryPeriod else none }
  notify 4 (p.val + 1) r.code (writeSensorBits p s)

/-- The port with the next measurement of its tune. Its trial gain and offset stand in the record, and are
shown, from the end of the measurement before it (DESIGN CHOICE, assumption 45). -/
def Sensor.nextTrial (phase : TunePhase) (gain offset : Nat) (x : Sensor) : Sensor :=
  { x with tuning := some ⟨phase, 0, 0⟩, gain := gain, offset := offset }

/-- R58, R59: a measurement has given the count `a`; the next trial is held from here on (assumption 45). -/
def tuneMeasured (p : Fin 4) (phase : TunePhase) (a : Nat) (s : State) : State :=
  let x := s.sensor p
  match phase with
  | .gain =>
    if x.tuneTarget ≤ a then s.setSensor p (x.nextTrial (.offset 32 0) x.gain 32)
    else if 8 ≤ x.gain then endTune p .lowSignal s
    else s.setSensor p (x.nextTrial .gain (x.gain + 1) 0)
  | .offset bit kept =>
    let kept := if x.tuneTarget ≤ a then kept + bit else kept
    if bit / 2 = 0 then s.setSensor p (x.nextTrial .final x.gain kept)
    else s.setSensor p (x.nextTrial (.offset (bit / 2) kept) x.gain (kept + bit / 2))
  | .final =>
    if a ≤ x.tuneTarget + x.tuneTarget / 16 then
      endTune p .tuneDone (s.setSensor p { x with filt := a, lta := a, delta := 0 })
    else endTune p .outOfWindow (s.setSensor p { x with filt := a })

/-- R57: a reading goes to the running tune: the first two samples of a measurement are discarded,
the last four summed. -/
def tuneSample (p : Fin 4) (t : Tune) (raw : Nat) (s : State) : State :=
  let sum := if t.count < 2 then t.sum else t.sum + raw
  let s := s.setSensor p { s.sensor p with raw := raw, tuning := some ⟨t.phase, t.count + 1, sum⟩ }
  if t.count + 1 < 6 then s else tuneMeasured p t.phase (sum / 4) s

/-- R47, R52, R56, R57: a Touch port's sample. The first sample after reset uses up the flag for
tuning at start. -/
def touchReading (p : Fin 4) (raw : Nat) (s : State) : State :=
  let raw := min raw 65535
  let x := s.sensor p
  let s := s.setSensor p { x with tuneAtStart := false }
  let s := if x.tuneAtStart && x.tuning.isNone then startTune p s else s
  match (s.sensor p).tuning with
  | some t => tuneSample p t raw s
  | none => touchSample p raw s

/-! ### The battery monitor (R62 to R64) -/

/-- Table 3-8: the supply ceiling, per mille. -/
def supplyCeiling (v : Int) : Nat :=
  if 7200 ≤ v then 1000 else if v < 6000 then 400 else 400 + ((v - 6000).toNat * 600) / 1200

/-- Table 3-8: the supply percentage. -/
def supplyPercentage (v : Int) : Nat :=
  if 7200 ≤ v then 100 else if v < 6000 then 40 else 40 + ((v - 6000).toNat * 60) / 1200

/-- R12, R63: every driven port is re-clamped when a reading lowers the ceiling. -/
def reclampPorts (was : Nat) (s : State) : State :=
  if s.battery.ceiling < was then
    fourPorts.foldl (fun s p => s.setPort p ((s.port p).reclamp s.battery.ceiling)) s
  else s

/-- R64: the undervoltage check after a reading. -/
def undervoltageCheck (s : State) : State :=
  let b := s.battery
  if b.low then
    if b.filtered < 6000 then s else { s with battery := { b with low := false } }
  else if b.filtered < 5600 then
    if b.lowCount + 1 < 2 then { s with battery := { b with lowCount := b.lowCount + 1 } }
    else giveCause .undervoltage none { s with battery := { b with lowCount := 0, low := true } }
  else { s with battery := { b with lowCount := 0 } }

/-- R62, steps 1 to 4: the filtered value becomes `v`. -/
def batteryTakes (v : Int) (s : State) : State :=
  let was := s.battery.ceiling
  let s := { s with battery := { s.battery with
    filtered := v, ceiling := supplyCeiling v, percentage := supplyPercentage v } }
  updateSignal 12 (min v 32767) (undervoltageCheck (reclampPorts was s))

end Sys2Proof.Machine
end

