-- ==== Sys2Proof/Machine/Sensor.lean ====
section
/-! DEFINITION. The commands of the Sensor block (R61, R65, R66) and the events of the sensor ports
and the battery monitor. -/

namespace Sys2Proof.Machine

/-- R45, R65: a sensor command is carried out on a port of a kind that accepts it. -/
def sensorTaken (kinds : List SensorKind) (p : Fin 4) (op : Sensor → State → Taken) (s : State) :
    Taken :=
  if kinds.contains (s.sensor p).kind then op (s.sensor p) s else refuse .wrongKind s

def measuringKinds : List SensorKind := [.switch, .level, .touch]

def sensorSetFilter (beta lbeta n : Nat) (p : Fin 4) : State → Taken :=
  sensorTaken measuringKinds p fun x s =>
    done (s.setSensor p { x with
      beta := clampN 0 6 beta, lbeta := clampN 4 10 lbeta, length := clampN 1 8 n, debounce := 0 })

/-- A running timer restarts with a new duration, and 0 stops it (R60, R65). -/
def restartTimer (ms : Nat) (t : Timer) : Timer := if t.isSome then timerOf ms else none

/-- R65: the activation threshold and the hysteresis, clamped by the port's kind. -/
def thresholdsOf (kind : SensorKind) (activation hysteresis : Nat) : Int × Int :=
  match kind with
  | .touch => (clampN 1 32767 activation, clampN 0 32767 hysteresis)
  | _ => (clampN 0 4095 activation, clampN 0 4095 hysteresis)

def sensorSetThresholds (activation hysteresis freeze timeout : Nat) (p : Fin 4) :
    State → Taken :=
  sensorTaken [.level, .touch] p fun x s =>
    let th := thresholdsOf x.kind activation hysteresis
    let ms := clampN 0 25500 (100 * timeout)
    done (s.setSensor p { x with
      threshold := th.1, hysteresis := th.2, freezeLevel := clampN 1 32767 freeze,
      freezeTime := ms, freezeTimer := restartTimer ms x.freezeTimer, debounce := 0 })

def sensorSetPolarity (polarity : Nat) (p : Fin 4) : State → Taken :=
  sensorTaken [.level] p fun x s =>
    match readPolarity polarity with
    | none => refuse .badArgument s
    | some pol =>
      let s := s.setSensor p { x with polarity := pol, debounce := 0 }
      done (if x.active then setActive p false s else s)

def sensorTune (target : Nat) (p : Fin 4) : State → Taken :=
  sensorTaken [.touch] p fun x s =>
    if x.tuning.isSome then refuse .busy s
    else done (startTune p (s.setSensor p { x with tuneTarget := clampN 1 65535 target }))

def sensorSetTuneRetry (period : Nat) (p : Fin 4) : State → Taken :=
  sensorTaken [.touch] p fun x s =>
    let ms := clampN 0 60000 (100 * period)
    done (s.setSensor p { x with retryPeriod := ms, retryTimer := restartTimer ms x.retryTimer })

def sensorSetHaltInput (setting : Nat) (p : Fin 4) : State → Taken :=
  sensorTaken measuringKinds p fun x s =>
    match readHaltInput setting with
    | none => refuse .badArgument s
    | some on =>
      let t := s.setSensor p { x with haltInput := on }
      done (if on && !x.haltInput && x.active then giveCause .sensorHalt (some (.sensor p)) t else t)

/-- R66: Tuning while tuning, otherwise Active, otherwise Frozen, otherwise Idle. -/
def Sensor.stateCode (x : Sensor) : Nat :=
  if x.tuning.isSome then 3 else if x.active then 1 else if x.frozen then 2 else 0

/-- R49, R66: the filtered value reported. -/
def Sensor.reportedFilt (x : Sensor) : Int :=
  if x.kind = .switch then boolNat x.active else x.filt

def Sensor.report (x : Sensor) : List (List Byte) :=
  let touch := x.kind = .touch
  [charsOf 1 x.kind.code, charsOf 2 x.raw, charsOf 2 x.reportedFilt,
   charsOf 2 (if touch then x.lta else 0), charsOf 3 (if touch then x.delta else 0),
   charsOf 1 x.stateCode, charsOf 1 x.tuneResult.code, charsOf 1 x.gain, charsOf 1 x.offset,
   charsOf 1 (boolNat x.haltInput)]

def sensorQuery (p : Fin 4) : State → Taken :=
  sensorTaken measuringKinds p fun x s => doneWith x.report s

/-! ### The commands -/

def execSetFilter (via : Via) (index beta lbeta n : Nat) (s : State) : Outcome :=
  s.whenAwake fun s => answered via (atSensor index (sensorSetFilter beta lbeta n) s)

def execSetThresholds (via : Via) (index activation hysteresis freeze timeout : Nat) (s : State) :
    Outcome :=
  s.whenAwake fun s =>
    answered via (atSensor index (sensorSetThresholds activation hysteresis freeze timeout) s)

def execSetPolarity (via : Via) (index polarity : Nat) (s : State) : Outcome :=
  s.whenAwake fun s => answered via (atSensor index (sensorSetPolarity polarity) s)

def execTune (via : Via) (index target : Nat) (s : State) : Outcome :=
  s.whenAwake fun s => answered via (atSensor index (sensorTune target) s)

def execSetTuneRetry (via : Via) (index period : Nat) (s : State) : Outcome :=
  s.whenAwake fun s => answered via (atSensor index (sensorSetTuneRetry period) s)

def execSetHaltInput (via : Via) (index setting : Nat) (s : State) : Outcome :=
  s.whenAwake fun s => answered via (atSensor index (sensorSetHaltInput setting) s)

def execQuerySensor (via : Via) (index : Nat) (s : State) : Outcome :=
  s.whenAwake fun s => answered via (atSensor index sensorQuery s)

/-! ### The events -/

/-- R47: the sample period of a port ends with a reading. -/
def execSensorSample (p : Fin 4) (raw : Nat) (s : State) : Outcome :=
  s.whenAwake fun s =>
    match (s.sensor p).kind with
    | .off => s
    | .switch => switchSample p raw s
    | .level => levelSample p raw s
    | .touch => touchReading p raw s

/-- R54: the freeze timer expires. -/
def execFreezeTimeout (p : Fin 4) (s : State) : Outcome :=
  s.whenAwake fun s =>
    let x := s.sensor p
    if x.freezeTimer.isSome then
      writeDelta p (s.setSensor p { x with
        lta := x.filt, delta := 0, frozen := false, freezeTimer := none })
    else s

/-- R60: the retry timer expires and a tune starts with the target the port holds. -/
def execTuneRetryExpiry (p : Fin 4) (s : State) : Outcome :=
  s.whenAwake fun s => if (s.sensor p).retryTimer.isSome then startTune p s else s

/-- R62: a battery reading after the seeding one. -/
def execBatteryReading (millivolts : Nat) (s : State) : Outcome :=
  s.whenAwake fun s => batteryTakes (filterStep 2 s.battery.filtered millivolts) s

end Sys2Proof.Machine
end

