-- ==== Sys2Proof/Machine/Staging.lean ====
section
/-! DEFINITION. The commands of the Staging block (R109 to R113). -/

namespace Sys2Proof.Machine

/-- R109, step 2: the wrapped command may be staged. -/
def wrappedOk (block windex code count : Nat) : Bool :=
  match pathCheck block windex code count with
  | .ok c => stageable c
  | .error _ => false

/-- R108: two entries with the same group and the same target. -/
def Staged.sameTarget (x y : Staged) : Bool :=
  x.group == y.group && x.block == y.block && x.index == y.index

/-- R111: the reply data of Staged: position from 1, and fill. -/
def stagedData (position : Nat) (list : List Staged) : List (List Byte) :=
  [charsOf 1 position, charsOf 1 list.length]

/-- R111: an entry placed in the list. -/
def placeStaged (x : Staged) (s : State) : Taken :=
  match s.staging.findIdx? x.sameTarget with
  | some k =>
    let list := s.staging.set k x
    (s.setStaging list, some ⟨.staged, stagedData (k + 1) list⟩)
  | none =>
    if 8 ≤ s.staging.length then refuse .stageFull s
    else
      let list := s.staging ++ [x]
      (s.setStaging list, some ⟨.staged, stagedData list.length list⟩)

def stagingStage (block windex code : Nat) (args : List Byte) (group : Nat) (s : State) : Taken :=
  if !s.isRunning then refuse .halted s
  else if !wrappedOk block windex code args.length then refuse .badArgument s
  else placeStaged ⟨group, block, windex, code, args⟩ s

/-- R112: CancelGroup replies with the number of entries removed. -/
def stagingCancel (group : Nat) (s : State) : Taken :=
  let rest := s.staging.filter fun x => x.group != group
  doneWith [charsOf 1 ((s.staging.length - rest.length : Nat) : Int)] (s.setStaging rest)

/-- R113: Go. -/
def stagingGo (group : Nat) (s : State) : Taken :=
  if !s.isRunning then refuse .halted s
  else
    let t := goRequest group s
    if t.2 then done t.1 else refuse .busFull (setStageMiss t.1)

def execStage (via : Via) (index block windex code : Nat) (args : List Byte) (s : State) :
    Outcome :=
  s.whenAwake fun s => answered via (atGroup index (stagingStage block windex code args) s)

def execCancelGroup (via : Via) (index : Nat) (s : State) : Outcome :=
  s.whenAwake fun s => answered via (atGroup index stagingCancel s)

def execGo (via : Via) (index : Nat) (s : State) : Outcome :=
  s.whenAwake fun s => answered via (atGroup index stagingGo s)

end Sys2Proof.Machine
end

