-- ==== Sys2Proof/Machine/ResetOps.lean ====
section
/-! DEFINITION. The end of a reset (R62, R186) and the rows of the resets. -/

namespace Sys2Proof.Machine

/-- R62, R186: the last reset that holds the part ends: the reset cause is its kind, the start record
and the straps are read, and the battery monitor takes its seeding reading. -/
def finishReset (kind : ResetKind) (straps millivolts : Nat) (s : State) : State :=
  let s := readImage kind straps { s with resetHeld := [] }
  batteryTakes millivolts { s with battery := ⟨millivolts, 1000, 100, 0, false⟩ }

/-! ### The rows -/

/-- R186: VBAT has fallen below 4.4 V for more than 10 µs, or rises for the first time. -/
def execPowerOnReset (s : State) : Outcome := .next (beginReset .powerOn s)

/-- R186: RESETn is low for 1 µs or more. -/
def execResetPin (s : State) : Outcome := .next (beginReset .pin s)

/-- R163: 50 ms have passed since the reply of the pending Restart was formed (assumption 11): the part is
reset. -/
def execRestartReset (s : State) : Outcome :=
  s.whenAwake fun s => if s.station.restartPending.isSome then beginReset .command s else s

/-- R186: a reset that holds the part ends; the part leaves reset with the one that ends last. -/
def execResetEnd (kind : ResetKind) (straps : Fin 16) (millivolts : Nat) (s : State) : Outcome :=
  if s.resetHeld.contains kind then
    let held := s.resetHeld.filter fun k => k != kind
    if held = [] then .next (finishReset kind straps.val millivolts s)
    else .next { s with resetHeld := held }
  else .next s

end Sys2Proof.Machine
end

