-- ==== Sys2Proof/Machine/StationBlock.lean ====
section
/-! DEFINITION. The commands of the Station block (R163, R164, R183). -/

namespace Sys2Proof.Machine

/-- R163: a Restart becomes pending with its reply. -/
def awaitRestart (r : RestartReply) (s : State) : State :=
  s.setStation { s.station with restartPending := some r }

/-- R163. A Restart that has no reply to send, being broadcast on the bus or Withdrawn, resets at once. The
Done reply is formed here, to be known again on its way out: a message for the tablet, or the next frame to
join the transmit queue (R160). A Reply frame that a full queue refuses has been dropped, and the reset
comes as the event ends. -/
def stationRestart (via : Via) (s : State) : Taken :=
  if s.station.restartPending.isSome then refuse .busy s
  else
    match via with
    | .tablet dest token => (tell 1 (.restartReply dest token) (awaitRestart .message s), none)
    | .bus source token =>
      if s.isWithdrawn then (beginReset .command s, none)
      else
        (busReply source token ⟨.done, []⟩ (awaitRestart (.frame s.bus.nextStamp) s), none)
    | .broadcast | .staged => (beginReset .command s, none)

/-- The withdrawn causes in a character (Table 12-6). -/
def withdrawnCode (cs : List WithdrawnCause) : Nat := (cs.map WithdrawnCause.bit).sum

/-- R164, Table 12-6. -/
def stationReport (s : State) : List (List Byte) :=
  [charsOf 1 (s.bus.number.getD 15 : Nat), charsOf 4 s.bus.serial.toNat,
   charsOf 1 (resetCauseCode s.station.resetCause s.station.recordInvalid),
   charsOf 1 s.clock.state.code, charsOf 1 (withdrawnCode s.bus.withdrawn),
   charsOf 1 ((boolNat s.bus.busErrorSeen + 2 * boolNat s.link.present : Nat) : Int)]

/-- R164: forming the reply clears BusErrorSeen; a broadcast forms none. -/
def stationQuery (via : Via) (s : State) : Taken :=
  match via with
  | .broadcast => done s
  | _ => doneWith (stationReport s) (s.setBus { s.bus with busErrorSeen := false })

/-- R183. -/
def stationClockRetry (via : Via) (s : State) : Taken :=
  match s.clock.state with
  | .onPLL => done s
  | .onRCStarting | .switching => refuse .busy s
  | .onRCFailed => (s.setClock { Clock.fresh with retry := some via }, none)

def execRestart (via : Via) (index : Nat) (s : State) : Outcome :=
  s.whenAwake fun s => answered via (atStation index (stationRestart via) s)

def execQueryStation (via : Via) (index : Nat) (s : State) : Outcome :=
  s.whenAwake fun s => answered via (atStation index (stationQuery via) s)

def execClockRetry (via : Via) (index : Nat) (s : State) : Outcome :=
  s.whenAwake fun s => answered via (atStation index (stationClockRetry via) s)

end Sys2Proof.Machine
end

