-- ==== Sys2Proof/Machine/SampleOps.lean ====
section
/-! DEFINITION. The audio samples of the voices: envelope and duration (R73 to R75), wave values
(R77) and the mix (R78). -/

namespace Sys2Proof.Machine

/-- The states in which a voice computes samples (R70, R73). -/
def VoiceState.sounding : VoiceState → Bool
  | .attack | .sustain | .release => true
  | .idle | .waiting => false

/-- The current sound is a Rest. -/
def Voice.resting (x : Voice) : Bool :=
  match x.sound with
  | some (.note n) => n.rest
  | _ => false

/-- R73: the phase time has reached the phase's length. -/
def Voice.phaseOver (x : Voice) : Bool := 1000 * x.phaseMs ≤ x.phaseTime

/-- R74, R75: the note time has reached the duration of the current note. -/
def Voice.noteOver (x : Voice) : Bool :=
  match x.sound with
  | some (.note n) => 1000 * n.duration ≤ x.noteTime
  | _ => false

/-- R73, R75: env for a sample, its times advanced. -/
def Voice.setEnv (x : Voice) : Voice :=
  match x.state with
  | .attack =>
    if x.phaseOver then { x with env := 256, state := .sustain }
    else { x with env := 256 * x.phaseTime / (1000 * x.phaseMs) }
  | .sustain => { x with env := if x.resting then 0 else 256 }
  | .release =>
    let level := x.releaseStart.getD 0
    if x.phaseOver then { x with env := 0 }
    else { x with env := level - level * x.phaseTime / (1000 * x.phaseMs) }
  | .idle | .waiting => x

/-- R73 to R75: what ends at a sample whose env is set: the Release and the sound with it, the
duration of a Tone note, a Rest. -/
def voiceEnds (v : Fin 3) (s : State) : State :=
  let x := s.voice v
  match x.state with
  | .release => if x.phaseOver then endSound v s else s
  | .attack | .sustain =>
    if x.noteOver then
      if x.resting then endSound v s else enterRelease v x.releaseLevel s
    else s
  | .idle | .waiting => s

/-- R73, R77: the record of a voice at a sample: times, accumulator, env. -/
def Voice.advance (x : Voice) : Voice :=
  Voice.setEnv { x with
    noteTime := x.noteTime + 32, phaseTime := x.phaseTime + 32,
    acc := (x.acc + x.inc) % 16777216 }

/-- R73 to R75: a voice at a sample. A sound that begins at this sample first advances at the
next. -/
def voiceSample (v : Fin 3) (s : State) : State :=
  if (s.voice v).state.sounding then voiceEnds v (s.setVoice v (s.voice v).advance) else s

/-- Table 4-7. -/
def waveValue (w : NoteWave) (acc : Nat) : Int :=
  let u : Int := (acc / 8192 : Nat)
  match w with
  | .square => if u < 1024 then 1023 else -1024
  | .sawtooth => u - 1024
  | .triangle => if u < 1024 then 2 * u - 1024 else 3071 - 2 * u
  | .sine => shape (acc / 524288)

/-- R77: the wave value of a voice; the continuous tone uses the last waveform, or Square. -/
def Voice.wave (x : Voice) : Int :=
  match x.sound with
  | some (.note n) => if n.rest then 0 else waveValue n.wave x.acc
  | some .tone => waveValue (x.lastWave.getD .square) x.acc
  | none => 0

/-- R78, step 1: the volume of the current sound. -/
def Voice.volume (x : Voice) : Nat :=
  match x.sound with
  | some (.note n) => n.volume
  | _ => 100

/-- R78, step 1: the level of a voice. -/
def Voice.level (x : Voice) : Int :=
  if x.state.sounding then
    truncDiv (x.wave * x.volume * x.volumeScale * x.env) 2560000
  else 0

/-- R78, step 3: the effective master volume. -/
def State.effectiveMaster (s : State) : Nat := min s.audio.master s.battery.percentage

/-- R78: the speaker output value of a sample. -/
def State.mix (s : State) : Int :=
  let sum := (threeVoices.map fun v => (s.voice v).level).sum
  if s.isRunning then clampAbs 127 (truncDiv (sum * s.effectiveMaster) 1600) else 0

/-- The first sample time at or after `us`: a multiple of 32 µs. -/
def sampleTime (us : Nat) : Nat := (us + 31) / 32 * 32

/-- The voice with `d` µs more on its clocks. -/
def Voice.later (d : Nat) (x : Voice) : Voice :=
  { x with noteTime := x.noteTime + d, phaseTime := x.phaseTime + d }

/-- The voice at the sample that ends its phase: its times alone, with the phase accumulator as it stands
(DESIGN CHOICE, assumption 47). -/
def Voice.atPhaseEnd (x : Voice) : Voice := x.later (sampleTime (1000 * x.phaseMs) - x.phaseTime)

/-- The voice at the sample that ends its note: its times alone, with the phase accumulator as it stands
(DESIGN CHOICE, assumption 47). -/
def Voice.atNoteEnd (x : Voice) : Voice :=
  match x.sound with
  | some (.note n) => x.later (sampleTime (1000 * n.duration) - x.noteTime)
  | _ => x

end Sys2Proof.Machine
end

