-- ==== Sys2Proof/Machine/VoiceBlock.lean ====
section
/-! DEFINITION. The commands of the Voice block (R69, R82, R83) and the events of the voices and the
audio clock gate. -/

namespace Sys2Proof.Machine

/-- R69: a Note reaches a voice. -/
def voiceNote (a : NoteArgs) (v : Fin 3) (s : State) : Taken :=
  if !s.isRunning then refuse .halted s
  else
    match readNote a with
    | none => refuse .badArgument s
    | some n =>
      let x := s.voice v
      if 8 ≤ x.queue.length then refuse .queueFull s
      else
        let s := suspendVoiceSource x.pitchSource
          (s.setVoice v { x with queue := x.queue ++ [n], pitchSource := .own })
        done (bindingEnded v s)

/-- R82: ClearVoice. -/
def voiceClear (v : Fin 3) (s : State) : Taken :=
  let x := s.voice v
  let s := suspendVoiceSource x.pitchSource (s.setVoice v { x with queue := [], pitchSource := .own })
  done (becomeIdle v s)

def voiceSetEnvelope (attack release : Nat) (v : Fin 3) (s : State) : Taken :=
  done (s.setVoice v { s.voice v with
    attackMs := clampN 0 500 attack, releaseMs := clampN 0 1000 release })

/-- R80: SetVoiceScale. -/
def voiceSetScale (scale : Nat) (v : Fin 3) (s : State) : Taken :=
  let x := s.voice v
  done (suspendVoiceSource x.volumeSource
    (s.setVoice v { x with volumeScale := clampN 0 100 scale, volumeSource := .own }))

def voiceSetMaster (volume : Nat) (_ : Fin 3) (s : State) : Taken :=
  done (s.setAudio { s.audio with master := clampN 0 100 volume })

/-- R83, Table 12-6. -/
def voiceReport (x : Voice) (s : State) : List (List Byte) :=
  [charsOf 1 x.state.code, charsOf 1 x.queue.length, charsOf 1 (soundCode x.sound),
   charsOf 1 x.pitchSource.code, charsOf 1 (x.boundPitch.getD 0), charsOf 1 x.volumeSource.code,
   charsOf 1 x.volumeScale, charsOf 2 x.attackMs, charsOf 2 x.releaseMs, charsOf 2 x.env,
   charsOf 3 x.inc, charsOf 1 s.audio.master, charsOf 1 s.effectiveMaster,
   charsOf 1 s.audio.gate.code]

def voiceQuery (v : Fin 3) (s : State) : Taken := doneWith (voiceReport (s.voice v) s) s

/-! ### The commands -/

def execNote (via : Via) (index : Nat) (record : NoteArgs) (s : State) : Outcome :=
  s.whenAwake fun s => answered via (atVoice index (voiceNote record) s)

def execClearVoice (via : Via) (index : Nat) (s : State) : Outcome :=
  s.whenAwake fun s => answered via (atVoice index voiceClear s)

def execSetEnvelope (via : Via) (index attack release : Nat) (s : State) : Outcome :=
  s.whenAwake fun s => answered via (atVoice index (voiceSetEnvelope attack release) s)

def execSetVoiceScale (via : Via) (index scale : Nat) (s : State) : Outcome :=
  s.whenAwake fun s => answered via (atVoice index (voiceSetScale scale) s)

def execSetMasterVolume (via : Via) (index volume : Nat) (s : State) : Outcome :=
  s.whenAwake fun s => answered via (atVoice index (voiceSetMaster volume) s)

def execQueryVoice (via : Via) (index : Nat) (s : State) : Outcome :=
  s.whenAwake fun s => answered via (atVoice index voiceQuery s)

/-! ### The events -/

/-- R70, R73, R77, R78: one audio sample period, while the gate is On. The voices act in the order 1, 2, 3
(DESIGN CHOICE, assumption 13). -/
def execAudioSample (s : State) : Outcome :=
  s.whenAwake fun s =>
    if s.audio.gate = .on then
      let s := threeVoices.foldl (fun s v => voiceSample v s) s
      s.setAudio { s.audio with speaker := s.mix }
    else s

/-- R73: the sample at which an Attack reaches its attack time: env is 256 and the voice enters
Sustain. This row and the three that follow advance no phase accumulator and leave the speaker's output to
AUDIO_SAMPLE (DESIGN CHOICE, assumption 47). -/
def execAttackEnd (v : Fin 3) (s : State) : Outcome :=
  s.whenAwake fun s =>
    let x := s.voice v
    if s.audio.gate = .on ∧ x.state = .attack then s.setVoice v x.atPhaseEnd.setEnv else s

/-- R74: the sample at which a Tone note reaches its duration: it enters Release from whatever state
it is in. -/
def execNoteDurationEnd (v : Fin 3) (s : State) : Outcome :=
  s.whenAwake fun s =>
    let x := s.voice v
    match x.sound with
    | some (.note n) =>
      if s.audio.gate = .on ∧ ¬n.rest ∧ (x.state = .attack ∨ x.state = .sustain) then
        let y := x.atNoteEnd.setEnv
        enterRelease v y.releaseLevel (s.setVoice v y)
      else s
    | _ => s

/-- R73: the sample at which a Release reaches its release time: env is 0, the sound has ended and
R72 chooses the next. -/
def execReleaseEnd (v : Fin 3) (s : State) : Outcome :=
  s.whenAwake fun s =>
    let x := s.voice v
    if s.audio.gate = .on ∧ x.state = .release then endSound v (s.setVoice v x.atPhaseEnd.setEnv)
    else s

/-- R75: the sample at which a Rest reaches its duration, and R72 chooses the next sound. -/
def execRestEnd (v : Fin 3) (s : State) : Outcome :=
  s.whenAwake fun s =>
    let x := s.voice v
    if s.audio.gate = .on ∧ x.resting ∧ x.state = .sustain then
      endSound v (s.setVoice v x.atNoteEnd)
    else s

/-- Table 4-4: the gate's start timer expires: the gate is On and every Waiting voice leaves Waiting, in
the order 1, 2, 3 (DESIGN CHOICE, assumption 13). A gate that releases no voice starts its stop timer
(R82). -/
def execGateStartExpiry (s : State) : Outcome :=
  s.whenAwake fun s =>
    if s.audio.gate = .starting ∧ s.audio.startTimer.isSome then
      let s := s.setAudio { s.audio with gate := .on, startTimer := none }
      startStopTimer (threeVoices.foldl
        (fun s v => if (s.voice v).state = .waiting then leaveWaiting v s else s) s)
    else s

/-- Table 4-4: the gate's stop timer expires: the gate is Off, and no sample is computed. -/
def execGateStopExpiry (s : State) : Outcome :=
  s.whenAwake fun s =>
    if s.audio.gate = .on ∧ s.audio.stopTimer.isSome then
      s.setAudio { s.audio with gate := .off, stopTimer := none, speaker := 0 }
    else s

end Sys2Proof.Machine
end

