-- ==== Sys2Proof/Machine/Path.lean ====
section
/-! DEFINITION. The command path: a command given by its characters (R154, R191) reaches its block
(R156), and the commands staged for a group reach theirs (R114, R115). -/

namespace Sys2Proof.Machine

/-- R191, Table 12-5: a command that passed the path checks, its arguments read from their
characters, reaches its block. -/
def runCommand (via : Via) (c : CommandName) (index : Nat) (a : List Byte) : State → Taken :=
  let u := fun i => fieldU a i 1
  let u2 := fun i => fieldU a i 2
  match c with
  | .coast => atPort index motorCoast
  | .brake => atPort index motorBrake
  | .setPower => atPort index (motorSetPower (fieldS a 0 2))
  | .setSpeed => atPort index (motorSetSpeed (fieldS a 0 2))
  | .setPosition => atPort index (motorSetPosition (fieldS a 0 3))
  | .moveBy => atPort index (motorMoveBy (fieldS a 0 3))
  | .setPattern => atPort index (motorSetPattern (u 0) (u 1) (u 2))
  | .setPresets => atPort index (motorSetPresets (fieldS a 0 3) (fieldS a 3 3))
  | .setRamp => atPort index (motorSetRamp (u 0) (u 1))
  | .setGains => atPort index (motorSetGains (u 0) (u 1) (u 2))
  | .setLimits => atPort index (motorSetLimits (u2 0) (u2 2) (u2 4) (u 6))
  | .setSafeAction => atPort index (motorSetSafeAction (u 0))
  | .setArrival => atPort index (motorSetArrival (u 0))
  | .zeroPosition => atPort index (motorZeroPosition (fieldS a 0 3))
  | .queryPort => atPort index motorQueryPort
  | .setFilter => atSensor index (sensorSetFilter (u 0) (u 1) (u 2))
  | .setThresholds => atSensor index (sensorSetThresholds (u2 0) (u2 2) (u2 4) (u 6))
  | .setPolarity => atSensor index (sensorSetPolarity (u 0))
  | .tune => atSensor index (sensorTune (u2 0))
  | .setTuneRetry => atSensor index (sensorSetTuneRetry (u2 0))
  | .setHaltInput => atSensor index (sensorSetHaltInput (u 0))
  | .querySensor => atSensor index sensorQuery
  | .note => atVoice index (voiceNote (readNoteArgs a))
  | .clearVoice => atVoice index voiceClear
  | .setEnvelope => atVoice index (voiceSetEnvelope (u2 0) (u2 2))
  | .setVoiceScale => atVoice index (voiceSetScale (u 0))
  | .setMasterVolume => atVoice index (voiceSetMaster (u 0))
  | .queryVoice => atVoice index voiceQuery
  | .setPublish => atSixteen index (signalSetPublish (u 0) (u2 1) (u 3))
  | .querySignal => atSixteen index signalQuery
  | .setEntryRoute => atSixteen index (listenSetRoute (u 0) (u 1) (u 2) (u 3))
  | .setEntryTransform => atSixteen index (listenSetTransform (fieldS a 0 2) (fieldS a 2 2))
  | .setEntryClamp => atSixteen index (listenSetClamp (fieldS a 0 2) (fieldS a 2 2))
  | .setEntryStale =>
    atSixteen index
      (listenSetStale (u 0) (u 1) (if a.length = 4 then some (fieldS a 2 2) else none))
  | .setEntryTrigger => atSixteen index (listenSetTrigger (fieldS a 0 2))
  | .enable => atSixteen index listenEnable
  | .disable => atSixteen index listenDisable
  | .free => atSixteen index listenFree
  | .queryEntry => atSixteen index listenQuery
  | .stage => atGroup index (stagingStage (u 0 / 16) (u 0 % 16) (u 1) (a.drop 2))
  | .cancelGroup => atGroup index stagingCancel
  | .go => atGroup index stagingGo
  | .halt => atStation index haltHalt
  | .resume => atStation index haltResume
  | .restart => atStation index (stationRestart via)
  | .queryStation => atStation index (stationQuery via)
  | .clockRetry => atStation index (stationClockRetry via)

/-- R156: a command meets the path checks and then its block. -/
def pathTaken (via : Via) (block index code : Nat) (args : List Byte) (s : State) : Taken :=
  match pathCheck block index code args.length with
  | .error r => refuse r s
  | .ok c => runCommand via c index args s

/-- R156 to R160: a command is carried out and its answer goes back by its path. -/
def carryOut (via : Via) (block index code : Nat) (args : List Byte) (s : State) : State :=
  answered via (pathTaken via block index code args s)

/-- R115: a staged command is handed over. -/
def applyStaged (s : State) (x : Staged) : State :=
  carryOut .staged x.block x.index x.code x.args s

/-- R114: a Go frame for a group completes: at a Running station stage miss is cleared, and the
group's entries leave the list and are handed over, oldest first. -/
def goApplied (group : Nat) (s : State) : State :=
  if s.isRunning then
    let s := clearStageMiss s
    let mine := s.staging.filter fun x => x.group == group
    mine.foldl applyStaged (s.setStaging (s.staging.filter fun x => x.group != group))
  else s

end Sys2Proof.Machine
end

