-- ==== Sys2Proof/Machine/LinkOps.lean ====
section
/-! DEFINITION. The shared operations of the tablet link: the messages of the lanes (R168, R171,
R175), the draining of the inbound FIFOs (R167, R169, R170), message bodies (R190). -/

namespace Sys2Proof.Machine

/-- R166, R167: BadMessageSeen is set. -/
def markBad (s : State) : State := s.setLink { s.link with badSeen := true }

/-- R167: the head of an inbound FIFO is removed; a removal from 6 messages to 5 makes a status
request while lane 0 is in Immediate mode. -/
def removeHead (l : Fin 4) (s : State) : State :=
  let x := s.lane l
  let s := s.setLane l { x with inbound := x.inbound.tail }
  if x.inbound.length = 6 ∧ (s.lane 0).mode = .immediate then statusAsk s else s

/-- R174: every message of an outbound FIFO is released. -/
def releaseLane (l : Fin 4) (s : State) : State :=
  s.setLane l { s.lane l with outbound := releaseSlots (s.lane l).outbound }

/-! ### Lane 0 (R168, R174) -/

/-- R168: a status request is made, and the status message released. -/
def linkStatusRequest (s : State) : State :=
  let s := statusAsk s
  s.setLane 0 { s.lane 0 with
    outbound := (s.lane 0).outbound.map fun x =>
      if x.msg = .status then { x with released := true } else x }

/-- R174: a lane takes a mode. -/
def Lane.withMode (m : LaneMode) (interval : Nat) (l : Lane) : Lane :=
  match m with
  | .immediate => { l with mode := m, outbound := releaseSlots l.outbound, timer := none }
  | .batched => { l with mode := m, interval := interval, timer := some interval }
  | .quiet => { l with mode := m, timer := none }

/-- R168: SetLaneMode; the interval counts units of 10 ms. -/
def linkSetLaneMode (lane mode interval : Nat) (s : State) : State :=
  if h : lane < 4 then
    match readLaneMode mode with
    | none => markBad s
    | some m =>
      s.setLane ⟨lane, h⟩ ((s.lane ⟨lane, h⟩).withMode m (clampN 10 2550 (10 * interval)))
  else markBad s

def linkPullLane (lane : Nat) (s : State) : State :=
  if h : lane < 4 then releaseLane ⟨lane, h⟩ s else markBad s

/-- R168, R190: a message of lane 0 by its body. -/
def takeLinkMessage (body : List Byte) (s : State) : State :=
  match body.map BitVec.toNat with
  | [0] => linkStatusRequest s
  | [1, lane, mode, interval] => linkSetLaneMode lane mode interval s
  | [2, lane] => linkPullLane lane s
  | _ => markBad s

/-! ### Lane 3 (R175) -/

def WatchPair.is (station index : Nat) (w : WatchPair) : Bool :=
  w.station == station && w.index == index

def linkWatchAdd (station index : Nat) (s : State) : State :=
  let st := clampN 1 14 station
  let ix := clampN 0 15 index
  if s.link.watch.any (WatchPair.is st ix) then s
  else if s.link.watch.length < 8 then
    s.setLink { s.link with watch := s.link.watch ++ [⟨st, ix, .stopped⟩] }
  else s.setLink { s.link with watchFull := true }

def linkWatchRemove (station index : Nat) (s : State) : State :=
  s.setLink { s.link with watch := s.link.watch.filter fun w => !w.is station index }

def linkWatchClear (s : State) : State := s.setLink { s.link with watch := [] }

/-- R175, R190: a message of lane 3 by its body. -/
def takeWatchMessage (body : List Byte) (s : State) : State :=
  match body.map BitVec.toNat with
  | [0, station, index] => linkWatchAdd station index s
  | [1, station, index] => linkWatchRemove station index s
  | [2] => linkWatchClear s
  | _ => markBad s

/-! ### StoreStartRecord (R171, R185) -/

/-- The number a reply of this station names; an unnumbered one names 15. -/
def State.ownName (s : State) : Nat := s.bus.number.getD 15

/-- R171: StoreStartRecord at the head of the Command lane. -/
def linkStore (token : Nat) (bytes : List Byte) (s : State) : State :=
  if bytes.length ≠ 30 then markBad s
  else if s.link.store.isSome then tabletReply s.ownName token .busy [] s
  else s.setLink { s.link with store := some ⟨token, bytes⟩ }

/-! ### The Command and Sound lanes (R169, R170) -/

/-- R158: a destination that is this station. -/
def State.isLocal (s : State) (dest : Nat) : Bool := dest == 15 || s.isOwn dest

/-- R169: a command at the head of the Command lane; `none` while it waits. -/
def takeCommand (dest blockIndex code token : Nat) (args : List Byte) (s : State) : Option State :=
  if s.isLocal dest then
    some (carryOut (.tablet dest token) (blockIndex / 16) (blockIndex % 16) code args
      (removeHead 1 s))
  else if s.link.forwarded < 2 then
    some (commandRequest ⟨dest, token⟩ blockIndex code args (removeHead 1 s))
  else none

/-- R169, R171, R190: the head of the Command lane by its body; `none` while it waits. -/
def takeCommandHead (body : List Byte) (s : State) : Option State :=
  let b := fun i => fieldU body i 1
  if b 0 / 16 = 0 ∧ 4 ≤ body.length ∧ body.length ≤ 13 then
    takeCommand (b 0 % 16) (b 1) (b 2) (b 3) (body.drop 4) s
  else if b 0 / 16 = 1 ∧ body.length = 32 then
    some (linkStore (b 1) (body.drop 2) (removeHead 1 s))
  else some (markBad (removeHead 1 s))

/-- R170: the queue of a voice named by its index holds 8 notes. -/
def voiceFull (voice : Nat) (s : State) : Bool :=
  if h : 1 ≤ voice ∧ voice ≤ 3 then 8 ≤ (s.voice ⟨voice - 1, by omega⟩).queue.length else false

/-- The index outside 1..3 with a place in their row 0, 4, 5, …, 15. -/
def badVoiceIndex (k : Fin 13) : Nat := if k = 0 then 0 else k.val + 3

/-- R170: the block-and-index character of a remote Note. A voice that the four bits of the index cannot
hold is no voice of the destination, which refuses it with BadIndex: it gives the bits a free value among
the indexes outside 1..3 (assumption 2). -/
def noteTarget (voice : Nat) : Nat :=
  48 + if voice < 16 then voice else badVoiceIndex (Config.voiceNibble voice)

/-- R170, R190: the head of the Sound lane by its body; `none` while it waits. -/
def takeSoundHead (body : List Byte) (s : State) : Option State :=
  let dest := fieldU body 0 1 % 16
  let voice := fieldU body 1 1
  let token := fieldU body 2 1
  let record := body.drop 3
  if body.length ≠ 9 then some (markBad (removeHead 2 s))
  else if s.isLocal dest then
    if voiceFull voice s then none
    else some (carryOut (.tablet dest token) 3 voice 48 record (removeHead 2 s))
  else if s.link.forwarded < 2 then
    some (commandRequest ⟨dest, token⟩ (noteTarget voice) 48 record (removeHead 2 s))
  else none

/-- One lane's head, by the lane's own rule; `none` while it waits. -/
def takeHead (l : Fin 4) (body : List Byte) (s : State) : Option State :=
  match l with
  | 0 => some (takeLinkMessage body (removeHead 0 s))
  | 1 => takeCommandHead body s
  | 2 => takeSoundHead body s
  | 3 => some (takeWatchMessage body (removeHead 3 s))

/-- R167: a lane is drained from its head until a head waits, at most `fuel` messages. -/
def drain (l : Fin 4) : Nat → State → State
  | 0, s => s
  | fuel + 1, s =>
    match (s.lane l).inbound with
    | [] => s
    | body :: _ =>
      match takeHead l body s with
      | none => s
      | some s => drain l fuel s

/-- R167: a lane is drained as far as its rule allows. -/
def drainLane (l : Fin 4) (s : State) : State := drain l (s.lane l).inbound.length s

/-- R169: the waiting heads, the Command lane's first. -/
def takeHeads (s : State) : State := drainLane 2 (drainLane 1 s)

/-! ### Inbound messages (R166, R167, R190) -/

/-- R178: the link timer starts with the link timeout; a timeout of 0 leaves it stopped. -/
def State.linkPresent (s : State) : State :=
  s.setLink { s.link with
    present := true, timer := if s.link.timeout = 0 then none else some s.link.timeout }

/-- R167: a valid message joins its lane's inbound FIFO, which is then drained. -/
def receiveMessage (l : Fin 4) (body : List Byte) (s : State) : State :=
  let s := s.linkPresent
  let x := s.lane l
  if x.inbound.length < 6 then
    drainLane l (s.setLane l { x with inbound := x.inbound ++ [body] })
  else s.setLane l { x with overrun := true }

/-- R166, R188, R190: the lane and body of a message whose characters pass every check. -/
def readMessage (chars : List Byte) : Option (Fin 4 × List Byte) :=
  let header := fieldU chars 1 1
  let n := header % 64
  let body := (chars.drop 2).take n
  if h : chars[0]? = some 0x7E#8 ∧ n ≤ 32 ∧ chars.length = n + 3
      ∧ chars[n + 2]? = some (crc8 ((chars.drop 1).take (n + 1))) ∧ header / 64 < 4 then
    some (⟨header / 64, h.2.2.2.2⟩, body)
  else none

/-! ### Outbound messages (R168, R190) -/

/-- The number a list of four flags carries, bit 0 first. -/
def flagBits (fs : List Bool) : Nat := fs.foldr (fun b n => boolNat b + 2 * n) 0

/-- R168, R190: the body of a status message. -/
def statusBody (k : Link) : List Byte :=
  let lanes := k.lanes.toList
  let fills := lanes.foldr (fun l n => l.inbound.length + 8 * n) 0
  charsOf 2 ((fills + 4096 * flagBits (lanes.map Lane.overrun) : Nat) : Int)
    ++ charsOf 1 ((flagBits (lanes.map Lane.dropped) + 16 * boolNat k.watchFull
      + 32 * boolNat k.badSeen : Nat) : Int)
    ++ charsOf 1 k.forwarded

/-- R190: the body of an outbound message, read when its start character is sent. -/
def OutMsg.body (k : Link) : OutMsg → List Byte
  | .status => statusBody k
  | .reply station token result data =>
    charsOf 1 station ++ charsOf 1 token ++ charsOf 1 result ++ data
  | .restartReply station token =>
    charsOf 1 station ++ charsOf 1 token ++ charsOf 1 Result.done.code
  | .progress idle voice left => charsOf 1 (boolNat idle) ++ charsOf 1 voice ++ charsOf 1 left
  | .telemetry station index value =>
    charsOf 1 0 ++ charsOf 1 station ++ charsOf 1 index ++ charsOf 2 value
  | .notice type first second => charsOf 1 1 ++ charsOf 1 type ++ charsOf 1 first ++ charsOf 1 second

/-- R168: the flags a status message reports are cleared as it is read. -/
def clearFlags (s : State) : State :=
  s.setLink { s.link with
    lanes := s.link.lanes.map fun l => { l with overrun := false, dropped := false }
    watchFull := false
    badSeen := false }

/-- The oldest released message of a FIFO. -/
def firstReleased (q : List OutSlot) : Option OutMsg := (q.find? OutSlot.released).map OutSlot.msg

/-- The FIFO without its oldest released message. -/
def dropReleased : List OutSlot → List OutSlot
  | [] => []
  | x :: q => if x.released then q else x :: dropReleased q

/-- R188, R190: the characters of a message: the start character, a header of lane and body length, the
body, and the CRC-8 of header and body. -/
def frameMessage (l : Fin 4) (body : List Byte) : List Byte :=
  let checked := BitVec.ofNat 8 (64 * l.val + body.length) :: body
  0x7E#8 :: checked ++ [crc8 checked]

/-- The message is the reply of a Restart (R163). -/
def OutMsg.isRestartReply : OutMsg → Bool
  | .restartReply .. => true
  | .status | .reply .. | .progress .. | .telemetry .. | .notice .. => false

/-- R173: the transmission of a message of lane `l` begins. -/
def beginMessage (l : Fin 4) (m : OutMsg) (s : State) : State :=
  let body := m.body s.link
  let s := s.setLane l { s.lane l with outbound := dropReleased (s.lane l).outbound }
  let s := if m = .status then clearFlags s else s
  s.setLink { s.link with sending := some ⟨l, frameMessage l body, m.isRestartReply⟩ }

/-- R173: the lowest-numbered lane of a list that has a released message, and that message. -/
def nextMessage (s : State) : List (Fin 4) → Option (Fin 4 × OutMsg)
  | [] => none
  | l :: ls =>
    match firstReleased (s.lane l).outbound with
    | some m => some (l, m)
    | none => nextMessage s ls

/-! ### Link loss (R178) -/

/-- R178, step 5: the modes in which a motor is driven. -/
def Mode.motorDriven : Mode → Bool
  | .power | .speed | .position | .pattern => true
  | .coast | .brake | .safeRamp => false

/-- R178: the link becomes Absent. -/
def loseLink (s : State) : State :=
  let s := s.setLink { s.link with
    present := false, timer := none, lanes := Vector.replicate 4 Lane.fresh, watch := [],
    watchFull := false, badSeen := false }
  if s.link.haltOnLoss ∧ fourPorts.any fun p => (s.port p).mode.motorDriven then
    giveCause .linkLost none s
  else s

end Sys2Proof.Machine
end

