-- ==== Sys2Proof/Machine/BusEvents.lean ====
section
/-! DEFINITION. The events of the bus station: the line (R133, R143), frames sent and abandoned
(R138 to R142), frames completed and dispatched (R144 to R146), breaks (R147, R148), Announce
(R137, R151). -/

namespace Sys2Proof.Machine

/-- R169: heads that wait are taken when a report has lowered the forwarded count below `was`. -/
def forwardAfter (was : Nat) (s : State) : State :=
  if s.link.forwarded < was then takeHeads s else s

/-- The bus receiver takes a state, and the line has been recessive. -/
def setBusReceiver (r : BusReceiver) (s : State) : State :=
  s.setBus { s.bus with receiver := r, breakCount := 0 }

/-- R143, R144: a frame is discarded with an error. -/
def markBusError (s : State) : State := s.setBus { s.bus with busErrorSeen := true }

/-! ### The line (R133, R143) -/

/-- R133, R143: 11 recessive bit times; a frame in progress is truncated. -/
def execBusLineIdle (s : State) : Outcome :=
  s.whenAwake fun s =>
    if s.bus.breakSending.isSome then s
    else
      match s.bus.receiver with
      | .hunting | .idle => setBusReceiver .idle s
      | .inFrame => setBusReceiver .idle (markBusError s)

/-- R139, R143: another station's start bit on an idle line. -/
def execBusStartEdge (s : State) : Outcome :=
  s.whenAwake fun s =>
    if s.bus.receiver = .idle ∧ s.bus.breakSending = none then setBusReceiver .inFrame s else s

/-- Table 8-10, R144: a frame being received is discarded. -/
def execFrameReceptionError (why : ReceptionError) (s : State) : Outcome :=
  s.whenAwake fun s =>
    if s.bus.receiver = .inFrame then
      match why with
      | .framingBreak => s.setBus { s.bus with receiver := .hunting }
      | .earlyGap => setBusReceiver .idle (markBusError s)
      | .markBit | .payloadLength | .framingShort | .check =>
        s.setBus { s.bus with receiver := .hunting, busErrorSeen := true }
    else s

/-! ### Sending (R137 to R142) -/

/-- R139: on an idle line the head of the queue becomes the frame in transmission. -/
def execBusFrameStart (s : State) : Outcome :=
  s.whenAwake fun s =>
    if s.bus.receiver = .idle ∧ ¬s.isWithdrawn ∧ s.bus.breakSending = none
        ∧ s.bus.sending = none then
      match s.bus.queue with
      | [] => s
      | f :: rest => s.setBus { s.bus with queue := rest, sending := some f, receiver := .inFrame }
    else s

/-- R137: a pending Announce joins the queue. -/
def execAnnouncePendingJoin (s : State) : Outcome :=
  s.whenAwake fun s =>
    if s.bus.announcePending ∧ s.bus.queue.length < 8 ∧ ¬s.isWithdrawn then
      announceRequest (s.setBus { s.bus with announcePending := false })
    else s

/-- R138: the kinds that time out. -/
def FrameKind.expires : FrameKind → Bool
  | .command | .reply => true
  | .go | .event | .signal | .announce => false

/-- R138: 200 ms have passed since a Command or Reply frame first joined the queue. One in the queue
is removed; one in transmission is marked for its return (R140). -/
def execQueueTimeout (slot : QueueSlot) (s : State) : Outcome :=
  s.whenAwake fun s =>
    match slot with
    | .queued place =>
      match s.bus.queue[place]? with
      | some f =>
        if f.kind.expires then
          forwardAfter s.link.forwarded
            (frameDropped .busTimeout f
              (s.setBus { s.bus with queue := s.bus.queue.eraseIdx place }))
        else s
      | none => s
    | .sending =>
      match s.bus.sending with
      | some f =>
        if f.kind.expires then s.setBus { s.bus with sending := some { f with expired := true } }
        else s
      | none => s

/-- R141: the station reads dominant after sending recessive. -/
def execArbitrationLost (s : State) : Outcome :=
  s.whenAwake fun s =>
    if s.bus.sending.isSome then forwardAfter s.link.forwarded (abandonFrame s) else s

/-- R142: the station reads recessive after sending dominant. At the sixteenth fault in a row the
station withdraws, which drops the frame (R140). -/
def lineFault (s : State) : State :=
  let n := s.bus.lineFaults + 1
  let s := s.setBus { s.bus with lineFaults := n }
  if n < 16 then abandonFrame s else withdraw .lineFault s

def execLineFault (s : State) : Outcome :=
  s.whenAwake fun s =>
    if s.bus.sending.isSome then forwardAfter s.link.forwarded (lineFault s) else s

/-! ### Completed frames (R144 to R146, R151, R159, R161) -/

/-- R90: this station's own frame of signal `i` has completed with a value. -/
def ownPublished (i : Fin 16) (v : Int) (s : State) : State :=
  testPublish i (s.setSignal i { s.signal i with lastPublished := some v })

/-- R151: another station's Announce under this station's number. -/
def duplicateCheck (serial : Nat) (s : State) : State :=
  if s.bus.serial.toNat < serial then announceRequest s
  else if serial < s.bus.serial.toNat then withdraw .duplicate s
  else s

/-- R158, R159: the path of a completed Command frame: this station's own broadcast answers its
tablet, another's is not answered, and an addressed one answers its source. -/
def commandVia (own : Option Origin) (h : Heard) : Via :=
  if h.route = 0 then
    match own with
    | some o => .tablet o.dest o.token
    | none => .broadcast
  else .bus h.source (fieldU h.payload 2 1)

/-- R159: a completed Command frame for this station or for every station is carried out. -/
def commandFrame (own : Option Origin) (h : Heard) (s : State) : State :=
  if h.route = 0 ∨ s.isOwn h.route then
    let target := fieldU h.payload 0 1
    carryOut (commandVia own h) (target / 16) (target % 16) (fieldU h.payload 1 1)
      (h.payload.drop 3) s
  else s

/-- R161: a Reply frame for this station is passed to the tablet, its result as heard. -/
def replyFrame (h : Heard) (s : State) : State :=
  if s.isOwn h.route then
    tell 1 (.reply h.source (fieldU h.payload 0 1) (fieldU h.payload 1 1) (h.payload.drop 2)) s
  else s

/-- R97, R176: a Signal or Event frame of another station reaches the listen table and the watch list;
then stage miss is set for the Go requests refused meanwhile (assumption 30). -/
def signalFrame (i : Fin 16) (h : Heard) (s : State) : State :=
  let v := readS h.payload
  let t := offerValue h.source i v s
  afterMisses setStageMiss (watchHeard h.source i.val v t.1, t.2)

/-- R145, R146: a completed frame is dispatched; `own` is the frame in transmission when the frame
is this station's own. -/
def dispatchFrame (own : Option Frame) (h : Heard) (s : State) : State :=
  match h.kind with
  | .go => goApplied (readU h.payload) s
  | .command => commandFrame (own.bind Frame.origin) h s
  | .reply => replyFrame h s
  | .event | .signal =>
    if hi : h.route < 16 then
      match own with
      | some _ => ownPublished ⟨h.route, hi⟩ (readS h.payload) s
      | none => signalFrame ⟨h.route, hi⟩ h s
    else s
  | .announce =>
    match own with
    | some _ => s
    | none => if s.isOwn h.source then duplicateCheck (fieldU h.payload 0 4) s else s

/-- R145: the frame in transmission, when the characters heard are its own. -/
def ownFrame (chars : List Byte) (s : State) : Option Frame :=
  s.bus.sending.filter fun f => encodeFrame s.bus.number f == chars

/-- R145: this station's own frame leaves transmission, the line-fault count is cleared, and a
Command's origin is told. -/
def ownCompleted (f : Frame) (s : State) : State :=
  reportOrigin f.origin none (s.setBus { s.bus with sending := none, lineFaults := 0 })

/-- R144: the stop bit of the check character: the checks, and the frame completes or is
discarded. -/
def execFrameCompletion (chars : List Byte) (s : State) : Outcome :=
  s.whenAwake fun s =>
    if s.bus.receiver = .inFrame ∧ s.bus.breakSending = none then
      let was := s.link.forwarded
      let s := setBusReceiver .hunting s
      match readFrame chars with
      | none => markBusError s
      | some h =>
        match ownFrame chars s with
        | some f => forwardAfter was (dispatchFrame (some f) h (ownCompleted f s))
        | none => forwardAfter was (dispatchFrame none h s)
    else s

/-! ### Breaks (R147, R148) -/

/-- R147: the count of dominant bit times that the station does not drive reaches 22. The row is the
moment itself, so it comes once for each dominant run, also after a recessive gap too short for any other
row to show (assumption 27). -/
def execBreakDetected (s : State) : Outcome :=
  s.whenAwake fun s =>
    if s.bus.breakSending = none then
      giveCause .busBreak none (s.setBus { s.bus with breakCount := 22, receiver := .hunting })
    else s

/-- R148: this station's own break has lasted its 24 bit times. -/
def execBreakEnd (s : State) : Outcome :=
  s.whenAwake fun s =>
    if s.bus.breakSending.isSome then
      s.setBus { s.bus with breakSending := none, breakCount := 0, receiver := .hunting }
    else s

end Sys2Proof.Machine
end

