-- ==== Sys2Proof/Machine/ClockEvents.lean ====
section
/-! DEFINITION. The events of the clock unit: the two-speed start (R180, R181, R183) and the fail-safe
monitor (R182). -/

namespace Sys2Proof.Machine

/-- R183: a retry ends: retry pending becomes false and the Done reply is formed. -/
def finishRetry (s : State) : State :=
  match s.clock.retry with
  | some via => answered via (done (s.setClock { s.clock with retry := none }))
  | none => s

/-- The clock unit in OnRC-Failed: crystal Stopped, PLL Off, its timers stopped. -/
def Clock.failed (c : Clock) : Clock :=
  { c with state := .onRCFailed, crystal := .stopped, pll := .off, startTimer := none,
           edgeMonitor := none }

/-- R180: a start ends in OnRC-Failed, with ClockLost. -/
def startFailed (s : State) : State :=
  finishRetry (giveCause .clockLost none (s.setClock s.clock.failed))

/-- R182: the crystal or the lock is lost while OnPLL. The station becomes Withdrawn at this event, so the
frame in transmission is dropped, whichever of the breaks and the withdrawal comes first (R140 case 1,
R148). ClockLost comes before the withdrawal (DESIGN CHOICE, assumption 13). -/
def clockFailed (s : State) : State :=
  let s := giveCause .clockLost none (dropSending (s.setClock s.clock.failed))
  let s := withdraw .clock s
  let s := if s.station.propagateHalt then startBreak s else s
  writePll false (audioClockLost s)

/-- Table 11-2: crystal oscillation is detected. -/
def execCrystalDetected (s : State) : Outcome :=
  s.whenAwake fun s =>
    if s.clock.state = .onRCStarting ∧ s.clock.crystal = .starting then
      s.setClock { s.clock with crystal := .running, pll := .locking, startTimer := some 10 }
    else s

/-- Table 11-2: the start timer expires. -/
def execClockStartTimerExpiry (s : State) : Outcome :=
  s.whenAwake fun s =>
    if s.clock.state = .onRCStarting ∧ s.clock.startTimer.isSome then startFailed s else s

/-- Table 11-2: the PLL reports lock. -/
def execPllLock (s : State) : Outcome :=
  s.whenAwake fun s =>
    if s.clock.state = .onRCStarting ∧ s.clock.pll = .locking then
      s.setClock { s.clock with state := .switching, pll := .locked, startTimer := none }
    else s

/-- R181: the switch to the PLL completes. -/
def execSwitchComplete (s : State) : Outcome :=
  s.whenAwake fun s =>
    if s.clock.state = .switching then
      let s := s.setClock { s.clock with state := .onPLL, edgeMonitor := some 1 }
      finishRetry (writePll true (audioClockReady (clearClockCause s)))
    else s

/-- Table 11-2: lock lost, or no crystal edge for 1 ms, while Switching. -/
def execSwitchAbandoned (s : State) : Outcome :=
  s.whenAwake fun s => if s.clock.state = .switching then startFailed s else s

/-- R182: no crystal edge for 1 ms while OnPLL. -/
def execEdgeMonitorExpiry (s : State) : Outcome :=
  s.whenAwake fun s =>
    if s.clock.state = .onPLL ∧ s.clock.edgeMonitor.isSome then
      forwardAfter s.link.forwarded (clockFailed s)
    else s

/-- R182: the PLL loses lock while OnPLL. -/
def execPllLockLost (s : State) : Outcome :=
  s.whenAwake fun s =>
    if s.clock.state = .onPLL then forwardAfter s.link.forwarded (clockFailed s) else s

end Sys2Proof.Machine
end

