-- ==== Sys2Proof/Machine/LinkBlock.lean ====
section
/-! DEFINITION. The messages of the tablet link at the head of their lane, and the link's events. -/

namespace Sys2Proof.Machine

/-! ### Messages (R168, R171, R175) -/

def execStatusRequest (s : State) : Outcome := s.whenAwake linkStatusRequest

def execSetLaneMode (lane mode interval : Nat) (s : State) : Outcome :=
  s.whenAwake (linkSetLaneMode lane mode interval)

def execPullLane (lane : Nat) (s : State) : Outcome := s.whenAwake (linkPullLane lane)

def execStoreStartRecord (token : Nat) (bytes : List Byte) (s : State) : Outcome :=
  s.whenAwake (linkStore token bytes)

def execWatchAdd (station index : Nat) (s : State) : Outcome :=
  s.whenAwake (linkWatchAdd station index)

def execWatchRemove (station index : Nat) (s : State) : Outcome :=
  s.whenAwake (linkWatchRemove station index)

def execWatchClear (s : State) : Outcome := s.whenAwake linkWatchClear

/-! ### The receiver (R166) -/

/-- The receiver takes a state. -/
def setReceiver (r : TabletReceiver) (s : State) : State := s.setLink { s.link with receiver := r }

/-- R166, R167: a message that passes every check at its CRC character; characters that do not are a
bad message. A Hunting receiver hears none. -/
def execTabletMessageValid (chars : List Byte) (s : State) : Outcome :=
  s.whenAwake fun s =>
    if s.link.receiver = .hunting then s
    else
      match readMessage chars with
      | some (l, body) => receiveMessage l body (setReceiver .ready s)
      | none => setReceiver .hunting (markBad s)

/-- Table 10-2: a bad message; one cut short by a gap leaves the receiver Ready. -/
def execTabletMessageBad (why : BadMessage) (s : State) : Outcome :=
  s.whenAwake fun s =>
    if s.link.receiver = .hunting then s
    else setReceiver (if why = .shortBody then .ready else .hunting) (markBad s)

/-- Table 10-2: a gap of more than 2 ms. -/
def execTabletRxQuietGap (midMessage : Bool) (s : State) : Outcome :=
  s.whenAwake fun s =>
    match s.link.receiver with
    | .hunting => setReceiver .ready s
    | .ready => if midMessage then markBad s else s
    | .inMessage => setReceiver .ready (markBad s)

/-- Table 10-2: a character that begins no message, or one with a framing error. -/
def execTabletRxStrayCharacter (framing : Bool) (s : State) : Outcome :=
  s.whenAwake fun s =>
    match s.link.receiver with
    | .hunting => if framing then markBad s else s
    | .ready => setReceiver .hunting (markBad s)
    | .inMessage => if framing then setReceiver .hunting (markBad s) else s

/-! ### Lanes, transmitter, timers -/

/-- R169: a report has lowered the forwarded count: waiting heads are taken. -/
def execForwardWaitingHead (s : State) : Outcome := s.whenAwake takeHeads

/-- R170: a voice's queue has dropped below 8 notes: a local Note waiting for it is handed over. -/
def execSoundLaneNoteRelease (s : State) : Outcome := s.whenAwake (drainLane 2)

/-- R171, R185: the write of the start record ends. -/
def execStoreWriteDone (s : State) : Outcome :=
  s.whenAwake fun s =>
    match s.link.store with
    | none => s
    | some job =>
      let s := { s with record := ⟨recordOf job.bytes, false⟩ }
      tabletReply s.ownName job.token .done [] (s.setLink { s.link with store := none })

/-- R173: the free transmitter takes the oldest released message of the lowest-numbered lane. -/
def execUartMessageStart (s : State) : Outcome :=
  s.whenAwake fun s =>
    if s.link.sending.isSome then s
    else
      match nextMessage s fourPorts with
      | some (l, m) => beginMessage l m s
      | none => s

/-- R173, R163: the message in transmission has been sent whole. If it is the reply of the pending Restart,
the reset takes place. -/
def execUartMessageSent (s : State) : Outcome :=
  s.whenAwake fun s =>
    let t := s.setLink { s.link with sending := none }
    if s.link.sending.any SentMessage.restart ∧ s.station.restartPending = some .message then
      beginReset .command t
    else t

/-- R174: a lane's interval timer expires: its messages are released and the timer restarts. -/
def execLaneIntervalExpiry (lane : Fin 4) (s : State) : Outcome :=
  s.whenAwake fun s =>
    if (s.lane lane).timer.isSome then
      let s := releaseLane lane s
      s.setLane lane { s.lane lane with timer := some (s.lane lane).interval }
    else s

/-- R176: the hold of an own pair expires. -/
def execWatchHoldExpiry (place : Nat) (s : State) : Outcome :=
  s.whenAwake fun s =>
    match s.link.watch[place]? with
    | some ⟨station, index, .running deferred⟩ =>
      let hold := if deferred then Hold.running false else Hold.stopped
      let t := s.setLink { s.link with watch := s.link.watch.set place ⟨station, index, hold⟩ }
      if h : deferred ∧ index < 16 then
        tell 3 (.telemetry station index (s.signal ⟨index, h.2⟩).value) t
      else t
    | _ => s

/-- R178: the link timer expires. -/
def execLinkTimeout (s : State) : Outcome :=
  s.whenAwake fun s => if s.link.timer.isSome then loseLink s else s

end Sys2Proof.Machine
end

