-- ==== Sys2Proof/Machine/MotorEvents.lean ====
section
/-! DEFINITION. The events of the motor ports: the regulation period (R8, R13 to R15, R26), the
encoder (R4 to R6), the driver temperature (R16) and the step timer (R30, R31). -/

namespace Sys2Proof.Machine

/-! ### The regulation period -/

/-- R8, stage 1: an Encoded port measures its speed. -/
def measureStage (p : Fin 4) (s : State) : State :=
  if (s.port p).kind = .encoded then s.setPort p (s.port p).measure else s

/-- R13, stage 2: the current is sensed; the fourth sample in a row above the limit gives
Overcurrent. -/
def currentStage (p : Fin 4) (current : Nat) (s : State) : State :=
  let x := { s.port p with current := min current 3000 }
  if x.currentLimit < x.current then
    if x.overCount + 1 < 4 then s.setPort p { x with overCount := x.overCount + 1 }
    else giveCause .overcurrent (some (.motor p)) (s.setPort p { x with overCount := 0 })
  else s.setPort p { x with overCount := 0 }

/-- R8, stages 3 to 5: the effective limit, the duty, the bridge. -/
def driveStage (p : Fin 4) (s : State) : State :=
  let eff := effLimit s.battery.ceiling (s.port p)
  s.setPort p (((s.port p).clampAcc eff).drive eff)

/-- R34, stage 6: Arrived in Position; a SafeRamp that has arrived ends in Coast (R21). -/
def arrivalStage (p : Fin 4) (s : State) : State :=
  let x := s.port p
  if x.kind = .encoded ∧ ¬x.encoderLost then
    match x.mode with
    | .position => s.setPort p { x with arrived := x.hasArrived }
    | .safeRamp => if x.hasArrived then coastPort p s else s
    | _ => s
  else s

/-- R6, R15: a port takes itself back: its source, if Listen or Pattern, becomes Command. -/
def Port.ownSource (x : Port) : Port := { x with source := .command }

/-- R15: a port that has stalled. Where a yield ends the last SafeRamp of a Halting station, signal 14
(StallYielded) is written before signal 15 (Halted) (DESIGN CHOICE, assumption 13). -/
def stalled (p : Fin 4) (s : State) : State :=
  let x := s.port p
  match x.stallPolicy with
  | .halt => giveCause .stall (some (.motor p)) s
  | .yield =>
    let y := { (x.enter .coast).ownSource with stallYielded := true }
    testHalted (noteEvents p x (putPort p y (suspendSource x.source s)))

/-- R14, stage 7: the stall check. -/
def stallStage (p : Fin 4) (s : State) : State :=
  let x := s.port p
  if x.kind = .encoded ∧ ¬x.encoderLost then
    if x.stalling then
      if (x.stallCount + 1) * 5 < x.stallTime then
        s.setPort p { x with stallCount := x.stallCount + 1 }
      else stalled p (s.setPort p { x with stallCount := 0 })
    else s.setPort p { x with stallCount := 0 }
  else s

/-- The position signal of a motor port, 4 to 7. -/
def positionSignal (p : Fin 4) : Fin 16 := ⟨4 + p.val, by omega⟩

/-- The speed signal of a motor port, 8 to 11. -/
def speedSignal (p : Fin 4) : Fin 16 := ⟨8 + p.val, by omega⟩

/-- R26, stage 8: the position and speed signals, and the port's bits of signal 14 where they differ
from those last written, in this order (DESIGN CHOICE, assumption 13). -/
def signalStage (p : Fin 4) (s : State) : State :=
  let x := s.port p
  let encoded := x.kind = .encoded
  let s := updateSignal (positionSignal p) (if encoded then clampAbs 32767 x.position else 0) s
  let s := updateSignal (speedSignal p) (if encoded then x.speed else 0) s
  if getBits (4 * p.val) 4 (s.signal 14).value = (s.port p).eventBits then s else writeMotorBits p s

/-- R8: a port's regulation period ends; a port of kind None has none. -/
def execRegulationPeriod (p : Fin 4) (current : Nat) (s : State) : Outcome :=
  s.whenAwake fun s =>
    if (s.port p).kind = .none then s
    else signalStage p (stallStage p (arrivalStage p (driveStage p (currentStage p current
      (measureStage p s)))))

/-! ### The encoder -/

/-- R4: a valid transition; an end of the range holds the counter and sets PositionLimit. -/
def Port.count (forward : Bool) (x : Port) : Port :=
  let next := if forward then x.position + 1 else x.position - 1
  if clamp24 next = next then { x with position := next }
  else { x with position := clamp24 next, positionLimit := true }

def execEncoderTransition (p : Fin 4) (forward : Bool) (s : State) : Outcome :=
  s.whenAwake fun s =>
    if (s.port p).kind = .encoded then s.setPort p ((s.port p).count forward) else s

/-- R6: four illegal transitions within 100 ms. Signal 14 (EncoderLost) is written before a Halted in
signal 15 (DESIGN CHOICE, assumption 13). -/
def encoderLost (p : Fin 4) (s : State) : State :=
  let x := s.port p
  let y := { x with encoderLost := true, illegal := [] }
  match x.mode with
  | .coast | .brake | .power => noteEvents p x (s.setPort p y)
  | _ =>
    testHalted (noteEvents p x (putPort p (y.enter .coast).ownSource (suspendSource x.source s)))

/-- R5: an illegal transition at a time in µs. -/
def execEncoderIllegalTransition (p : Fin 4) (at_ : Nat) (s : State) : Outcome :=
  s.whenAwake fun s =>
    let x := s.port p
    if x.kind = .encoded then
      match x.illegal with
      | t :: rest =>
        if x.illegal.length < 3 then s.setPort p { x with illegal := x.illegal ++ [at_] }
        else if at_ < t + 100000 then encoderLost p s
        else s.setPort p { x with illegal := rest ++ [at_] }
      | [] => s.setPort p { x with illegal := [at_] }
    else s

/-! ### Driver temperature and step timer -/

/-- R16: a sample of the driver temperature, in °C. -/
def execTemperatureSample (celsius : Int) (s : State) : Outcome :=
  s.whenAwake fun s =>
    if s.hot then if celsius < 110 then { s with hot := false } else s
    else if 125 ≤ celsius then giveCause .thermal none { s with hot := true }
    else s

/-- R30, R31: a port's step timer expires: one step. -/
def execProfileStep (p : Fin 4) (s : State) : Outcome :=
  s.whenAwake fun s =>
    let x := s.port p
    if x.stepTimer.isSome then noteEvents p x (s.setPort p x.profileStep) else s

end Sys2Proof.Machine
end

