-- ==== Sys2Proof/Machine/Dispatch.lean ====
section
/-! DEFINITION. The dispatch: one arm per row of the opcode table, each a direct call of the row's
meaning. -/

namespace Sys2Proof.Machine

/-- What a command does to everything but the queue. -/
def exec (i : Instr) (s : State) : Host.Outcome State Fault Refusal :=
  match i with
  | .coast via index => Sys2Proof.Machine.execCoast via index s
  | .brake via index => Sys2Proof.Machine.execBrake via index s
  | .setPower via index duty => Sys2Proof.Machine.execSetPower via index duty s
  | .setSpeed via index speed => Sys2Proof.Machine.execSetSpeed via index speed s
  | .setPosition via index position => Sys2Proof.Machine.execSetPosition via index position s
  | .moveBy via index delta => Sys2Proof.Machine.execMoveBy via index delta s
  | .setPattern via index waveform phase cycles => Sys2Proof.Machine.execSetPattern via index waveform phase cycles s
  | .setPresets via index lower upper => Sys2Proof.Machine.execSetPresets via index lower upper s
  | .setRamp via index step period => Sys2Proof.Machine.execSetRamp via index step period s
  | .setGains via index set kp ki => Sys2Proof.Machine.execSetGains via index set kp ki s
  | .setLimits via index duty current stall policy => Sys2Proof.Machine.execSetLimits via index duty current stall policy s
  | .setSafeAction via index action => Sys2Proof.Machine.execSetSafeAction via index action s
  | .setArrival via index window => Sys2Proof.Machine.execSetArrival via index window s
  | .zeroPosition via index value => Sys2Proof.Machine.execZeroPosition via index value s
  | .queryPort via index => Sys2Proof.Machine.execQueryPort via index s
  | .setFilter via index beta lbeta n => Sys2Proof.Machine.execSetFilter via index beta lbeta n s
  | .setThresholds via index activation hysteresis freeze timeout => Sys2Proof.Machine.execSetThresholds via index activation hysteresis freeze timeout s
  | .setPolarity via index polarity => Sys2Proof.Machine.execSetPolarity via index polarity s
  | .tune via index target => Sys2Proof.Machine.execTune via index target s
  | .setTuneRetry via index period => Sys2Proof.Machine.execSetTuneRetry via index period s
  | .setHaltInput via index setting => Sys2Proof.Machine.execSetHaltInput via index setting s
  | .querySensor via index => Sys2Proof.Machine.execQuerySensor via index s
  | .note via index record => Sys2Proof.Machine.execNote via index record s
  | .clearVoice via index => Sys2Proof.Machine.execClearVoice via index s
  | .setEnvelope via index attack release => Sys2Proof.Machine.execSetEnvelope via index attack release s
  | .setVoiceScale via index scale => Sys2Proof.Machine.execSetVoiceScale via index scale s
  | .setMasterVolume via index volume => Sys2Proof.Machine.execSetMasterVolume via index volume s
  | .queryVoice via index => Sys2Proof.Machine.execQueryVoice via index s
  | .setPublish via index policy deadband interval => Sys2Proof.Machine.execSetPublish via index policy deadband interval s
  | .querySignal via index => Sys2Proof.Machine.execQuerySignal via index s
  | .setEntryRoute via index source signal destKind destIndex => Sys2Proof.Machine.execSetEntryRoute via index source signal destKind destIndex s
  | .setEntryTransform via index weight offset => Sys2Proof.Machine.execSetEntryTransform via index weight offset s
  | .setEntryClamp via index lower upper => Sys2Proof.Machine.execSetEntryClamp via index lower upper s
  | .setEntryStale via index timeout action fallback => Sys2Proof.Machine.execSetEntryStale via index timeout action fallback s
  | .setEntryTrigger via index level => Sys2Proof.Machine.execSetEntryTrigger via index level s
  | .enable via index => Sys2Proof.Machine.execEnable via index s
  | .disable via index => Sys2Proof.Machine.execDisable via index s
  | .free via index => Sys2Proof.Machine.execFree via index s
  | .queryEntry via index => Sys2Proof.Machine.execQueryEntry via index s
  | .stage via index block windex code args => Sys2Proof.Machine.execStage via index block windex code args s
  | .cancelGroup via index => Sys2Proof.Machine.execCancelGroup via index s
  | .go via index => Sys2Proof.Machine.execGo via index s
  | .halt via index => Sys2Proof.Machine.execHalt via index s
  | .resume via index => Sys2Proof.Machine.execResume via index s
  | .restart via index => Sys2Proof.Machine.execRestart via index s
  | .queryStation via index => Sys2Proof.Machine.execQueryStation via index s
  | .clockRetry via index => Sys2Proof.Machine.execClockRetry via index s
  | .statusRequest => Sys2Proof.Machine.execStatusRequest s
  | .setLaneMode lane mode interval => Sys2Proof.Machine.execSetLaneMode lane mode interval s
  | .pullLane lane => Sys2Proof.Machine.execPullLane lane s
  | .storeStartRecord token bytes => Sys2Proof.Machine.execStoreStartRecord token bytes s
  | .watchAdd station index => Sys2Proof.Machine.execWatchAdd station index s
  | .watchRemove station index => Sys2Proof.Machine.execWatchRemove station index s
  | .watchClear => Sys2Proof.Machine.execWatchClear s
  | .tabletMessageValid chars => Sys2Proof.Machine.execTabletMessageValid chars s
  | .tabletMessageBad why => Sys2Proof.Machine.execTabletMessageBad why s
  | .tabletRxQuietGap midMessage => Sys2Proof.Machine.execTabletRxQuietGap midMessage s
  | .forwardWaitingHead => Sys2Proof.Machine.execForwardWaitingHead s
  | .soundLaneNoteRelease => Sys2Proof.Machine.execSoundLaneNoteRelease s
  | .storeWriteDone => Sys2Proof.Machine.execStoreWriteDone s
  | .uartMessageStart => Sys2Proof.Machine.execUartMessageStart s
  | .uartMessageSent => Sys2Proof.Machine.execUartMessageSent s
  | .laneIntervalExpiry lane => Sys2Proof.Machine.execLaneIntervalExpiry lane s
  | .watchHoldExpiry place => Sys2Proof.Machine.execWatchHoldExpiry place s
  | .linkTimeout => Sys2Proof.Machine.execLinkTimeout s
  | .regulationPeriod port current => Sys2Proof.Machine.execRegulationPeriod port current s
  | .encoderTransition port forward => Sys2Proof.Machine.execEncoderTransition port forward s
  | .encoderIllegalTransition port at_ => Sys2Proof.Machine.execEncoderIllegalTransition port at_ s
  | .temperatureSample celsius => Sys2Proof.Machine.execTemperatureSample celsius s
  | .profileStep port => Sys2Proof.Machine.execProfileStep port s
  | .sensorSample port raw => Sys2Proof.Machine.execSensorSample port raw s
  | .freezeTimeout port => Sys2Proof.Machine.execFreezeTimeout port s
  | .tuneRetryExpiry port => Sys2Proof.Machine.execTuneRetryExpiry port s
  | .batteryReading millivolts => Sys2Proof.Machine.execBatteryReading millivolts s
  | .audioSample => Sys2Proof.Machine.execAudioSample s
  | .attackEnd voice => Sys2Proof.Machine.execAttackEnd voice s
  | .noteDurationEnd voice => Sys2Proof.Machine.execNoteDurationEnd voice s
  | .releaseEnd voice => Sys2Proof.Machine.execReleaseEnd voice s
  | .restEnd voice => Sys2Proof.Machine.execRestEnd voice s
  | .gateStartExpiry => Sys2Proof.Machine.execGateStartExpiry s
  | .gateStopExpiry => Sys2Proof.Machine.execGateStopExpiry s
  | .publishIntervalExpiry signal => Sys2Proof.Machine.execPublishIntervalExpiry signal s
  | .ageTimerExpiry entry => Sys2Proof.Machine.execAgeTimerExpiry entry s
  | .safeTimerExpiry => Sys2Proof.Machine.execSafeTimerExpiry s
  | .busLineIdle => Sys2Proof.Machine.execBusLineIdle s
  | .busFrameStart => Sys2Proof.Machine.execBusFrameStart s
  | .announcePendingJoin => Sys2Proof.Machine.execAnnouncePendingJoin s
  | .queueTimeout slot => Sys2Proof.Machine.execQueueTimeout slot s
  | .arbitrationLost => Sys2Proof.Machine.execArbitrationLost s
  | .lineFault => Sys2Proof.Machine.execLineFault s
  | .frameReceptionError why => Sys2Proof.Machine.execFrameReceptionError why s
  | .frameCompletion chars => Sys2Proof.Machine.execFrameCompletion chars s
  | .breakDetected => Sys2Proof.Machine.execBreakDetected s
  | .breakEnd => Sys2Proof.Machine.execBreakEnd s
  | .crystalDetected => Sys2Proof.Machine.execCrystalDetected s
  | .clockStartTimerExpiry => Sys2Proof.Machine.execClockStartTimerExpiry s
  | .pllLock => Sys2Proof.Machine.execPllLock s
  | .switchComplete => Sys2Proof.Machine.execSwitchComplete s
  | .switchAbandoned => Sys2Proof.Machine.execSwitchAbandoned s
  | .edgeMonitorExpiry => Sys2Proof.Machine.execEdgeMonitorExpiry s
  | .pllLockLost => Sys2Proof.Machine.execPllLockLost s
  | .powerOnReset => Sys2Proof.Machine.execPowerOnReset s
  | .resetPin => Sys2Proof.Machine.execResetPin s
  | .restartReset => Sys2Proof.Machine.execRestartReset s
  | .resetEnd kind straps millivolts => Sys2Proof.Machine.execResetEnd kind straps millivolts s
  | .busStartEdge => Sys2Proof.Machine.execBusStartEdge s
  | .tabletRxStrayCharacter framing => Sys2Proof.Machine.execTabletRxStrayCharacter framing s

end Sys2Proof.Machine
end

