-- ==== Sys2Proof/Machine/Characters.lean ====
section
/-! DEFINITION. The block commands as the characters that carry them (R154, R155, R187, R190, R191):
for each row of the eight blocks, its path, its block number, its index, its code and its argument
characters. -/

namespace Sys2Proof.Machine

/-- A command given by its parts (Table 9-1), with the path it came by. -/
structure Parts where
  via   : Via
  block : Nat
  index : Nat
  code  : Nat
  args  : List Byte
deriving DecidableEq, Repr

/-- The six bytes of a note record (R190). -/
def noteBytes (a : NoteArgs) : List Byte :=
  charsOf 1 ((a.kind + 4 * a.wave + 16 * a.form : Nat) : Int) ++ charsOf 2 a.pitch
    ++ charsOf 2 a.duration ++ charsOf 1 a.volume

/-- The argument characters of SetEntryStale (Table 12-5): the fallback only where it is given. -/
def staleBytes (timeout action : Nat) (fallback : Option Int) : List Byte :=
  charsOf 1 timeout ++ charsOf 1 action ++ (fallback.map (charsOf 2)).getD []

/-- Tables 9-2 and 12-5: the parts of a block command; `none` for a row that is no block command. -/
def partsOf : Instr → Option Parts
  | .coast v i => some ⟨v, 1, i, 16, []⟩
  | .brake v i => some ⟨v, 1, i, 17, []⟩
  | .setPower v i x => some ⟨v, 1, i, 18, charsOf 2 x⟩
  | .setSpeed v i x => some ⟨v, 1, i, 19, charsOf 2 x⟩
  | .setPosition v i x => some ⟨v, 1, i, 20, charsOf 3 x⟩
  | .moveBy v i x => some ⟨v, 1, i, 21, charsOf 3 x⟩
  | .setPattern v i a b c => some ⟨v, 1, i, 22, charsOf 1 a ++ charsOf 1 b ++ charsOf 1 c⟩
  | .setPresets v i l u => some ⟨v, 1, i, 23, charsOf 3 l ++ charsOf 3 u⟩
  | .setRamp v i a b => some ⟨v, 1, i, 24, charsOf 1 a ++ charsOf 1 b⟩
  | .setGains v i a b c => some ⟨v, 1, i, 25, charsOf 1 a ++ charsOf 1 b ++ charsOf 1 c⟩
  | .setLimits v i a b c d =>
    some ⟨v, 1, i, 26, charsOf 2 a ++ charsOf 2 b ++ charsOf 2 c ++ charsOf 1 d⟩
  | .setSafeAction v i a => some ⟨v, 1, i, 27, charsOf 1 a⟩
  | .setArrival v i a => some ⟨v, 1, i, 28, charsOf 1 a⟩
  | .zeroPosition v i x => some ⟨v, 1, i, 29, charsOf 3 x⟩
  | .queryPort v i => some ⟨v, 1, i, 30, []⟩
  | .setFilter v i a b c => some ⟨v, 2, i, 32, charsOf 1 a ++ charsOf 1 b ++ charsOf 1 c⟩
  | .setThresholds v i a b c d =>
    some ⟨v, 2, i, 33, charsOf 2 a ++ charsOf 2 b ++ charsOf 2 c ++ charsOf 1 d⟩
  | .setPolarity v i a => some ⟨v, 2, i, 34, charsOf 1 a⟩
  | .tune v i a => some ⟨v, 2, i, 35, charsOf 2 a⟩
  | .setTuneRetry v i a => some ⟨v, 2, i, 36, charsOf 2 a⟩
  | .setHaltInput v i a => some ⟨v, 2, i, 37, charsOf 1 a⟩
  | .querySensor v i => some ⟨v, 2, i, 38, []⟩
  | .note v i a => some ⟨v, 3, i, 48, noteBytes a⟩
  | .clearVoice v i => some ⟨v, 3, i, 49, []⟩
  | .setEnvelope v i a b => some ⟨v, 3, i, 50, charsOf 2 a ++ charsOf 2 b⟩
  | .setVoiceScale v i a => some ⟨v, 3, i, 51, charsOf 1 a⟩
  | .setMasterVolume v i a => some ⟨v, 3, i, 52, charsOf 1 a⟩
  | .queryVoice v i => some ⟨v, 3, i, 53, []⟩
  | .setPublish v i a b c => some ⟨v, 4, i, 64, charsOf 1 a ++ charsOf 2 b ++ charsOf 1 c⟩
  | .querySignal v i => some ⟨v, 4, i, 65, []⟩
  | .setEntryRoute v i a b c d =>
    some ⟨v, 5, i, 80, charsOf 1 a ++ charsOf 1 b ++ charsOf 1 c ++ charsOf 1 d⟩
  | .setEntryTransform v i a b => some ⟨v, 5, i, 81, charsOf 2 a ++ charsOf 2 b⟩
  | .setEntryClamp v i a b => some ⟨v, 5, i, 82, charsOf 2 a ++ charsOf 2 b⟩
  | .setEntryStale v i a b c => some ⟨v, 5, i, 83, staleBytes a b c⟩
  | .setEntryTrigger v i a => some ⟨v, 5, i, 84, charsOf 2 a⟩
  | .enable v i => some ⟨v, 5, i, 85, []⟩
  | .disable v i => some ⟨v, 5, i, 86, []⟩
  | .free v i => some ⟨v, 5, i, 87, []⟩
  | .queryEntry v i => some ⟨v, 5, i, 88, []⟩
  | .stage v i b w code args =>
    some ⟨v, 6, i, 96, charsOf 1 ((16 * b + w : Nat) : Int) ++ charsOf 1 code ++ args⟩
  | .cancelGroup v i => some ⟨v, 6, i, 97, []⟩
  | .go v i => some ⟨v, 6, i, 98, []⟩
  | .halt v i => some ⟨v, 7, i, 112, []⟩
  | .resume v i => some ⟨v, 7, i, 113, []⟩
  | .restart v i => some ⟨v, 8, i, 128, []⟩
  | .queryStation v i => some ⟨v, 8, i, 129, []⟩
  | .clockRetry v i => some ⟨v, 8, i, 130, []⟩
  | .statusRequest | .setLaneMode .. | .pullLane .. | .storeStartRecord .. | .watchAdd ..
  | .watchRemove .. | .watchClear | .tabletMessageValid .. | .tabletMessageBad ..
  | .tabletRxQuietGap .. | .forwardWaitingHead | .soundLaneNoteRelease | .storeWriteDone
  | .uartMessageStart | .uartMessageSent | .laneIntervalExpiry .. | .watchHoldExpiry ..
  | .linkTimeout | .regulationPeriod .. | .encoderTransition .. | .encoderIllegalTransition ..
  | .temperatureSample .. | .profileStep .. | .sensorSample .. | .freezeTimeout ..
  | .tuneRetryExpiry .. | .batteryReading .. | .audioSample | .attackEnd .. | .noteDurationEnd ..
  | .releaseEnd .. | .restEnd .. | .gateStartExpiry | .gateStopExpiry | .publishIntervalExpiry ..
  | .ageTimerExpiry .. | .safeTimerExpiry | .busLineIdle | .busFrameStart | .announcePendingJoin
  | .queueTimeout .. | .arbitrationLost | .lineFault | .frameReceptionError ..
  | .frameCompletion .. | .breakDetected | .breakEnd | .crystalDetected | .clockStartTimerExpiry
  | .pllLock | .switchComplete | .switchAbandoned | .edgeMonitorExpiry | .pllLockLost
  | .powerOnReset | .resetPin | .restartReset | .resetEnd .. | .busStartEdge
  | .tabletRxStrayCharacter .. => none

end Sys2Proof.Machine
end

