-- ==== Sys2Proof/Safety.lean ====
section
/-! DEFINITION. What counts as a safe state of the station: the promises the manual makes about the
whole machine, in the terms the statements use. -/

namespace Sys2Proof.Machine

/-- The FIFOs, lists and queues hold no more than the manual gives them (R108, R136, R167, R172,
Tables 1-2, 4-1, 8-3, 10-1). -/
def State.WithinCapacity (s : State) : Prop :=
  s.bus.queue.length ≤ 8 ∧ s.staging.length ≤ 8 ∧ s.link.watch.length ≤ 8
    ∧ (∀ p, (s.port p).illegal.length ≤ 3) ∧ (∀ v, (s.voice v).queue.length ≤ 8)
    ∧ ∀ l, (s.lane l).inbound.length ≤ 6 ∧ (s.lane l).outbound.length ≤ 6

/-- A voice that is silent: Idle, with an empty queue and no sound (R81). -/
def Voice.silent (x : Voice) : Prop := x.state = .idle ∧ x.queue = [] ∧ x.sound = none

/-- R121, R124: while the station is Halting or Halted the staging list is empty, every voice is
silent, and the transmit queue holds no Go frame. -/
def State.HaltQuiet (s : State) : Prop :=
  s.isRunning = false →
    s.staging = [] ∧ (∀ v, (s.voice v).silent) ∧ ∀ f ∈ s.bus.queue, f.kind ≠ .go

/-- R135, R140, R153: while the station is Withdrawn its queue is empty and no frame is in
transmission. -/
def State.WithdrawnSilent (s : State) : Prop :=
  s.isWithdrawn = true → s.bus.queue = [] ∧ s.bus.sending = none

/-- R12: the applied duty of every port lies within its effective limit, and is 0 in Coast and
Brake. -/
def State.DutyBounded (s : State) : Prop :=
  ∀ p, ((s.port p).duty.natAbs : Int) ≤ effLimit s.battery.ceiling (s.port p)
    ∧ ((s.port p).mode.settled = true → (s.port p).duty = 0)

/-- R119, R125: the port-settled flags tell which ports are in Coast or Brake, and while the station
is Halted every port is. -/
def State.HaltedAtRest (s : State) : Prop :=
  (∀ p : Fin 4, s.halt.settled[p] = (s.port p).mode.settled)
    ∧ (s.halt.state = .halted → ∀ p : Fin 4, (s.port p).mode.settled = true)

/-- R119: the halt record is empty exactly when the station is Running. -/
def State.HaltRecordKept (s : State) : Prop :=
  (s.halt.state = .running ↔ s.halt.first = none)
    ∧ (s.halt.state = .running → s.halt.firstPort = none ∧ s.halt.further = [])

/-- Tables 5-5 and 5-6: an entry has a route exactly when it is not Free, and its age timer runs
only while it is Enabled (R102). -/
def Entry.wellKept (e : Entry) : Prop :=
  (e.state = .free ↔ e.route = none) ∧ (e.age.isSome = true → e.state = .enabled)

/-- The destination that an acting entry owns. -/
def Entry.owns (e : Entry) : Option Destination :=
  if e.acting then e.route.map Route.dest else none

/-- R103: no two acting entries have conflicting destinations. -/
def State.OneOwner (s : State) : Prop :=
  (∀ n, (s.entry n).wellKept)
    ∧ ∀ m n : Fin 16, m ≠ n →
        ∀ d ∈ (s.entry m).owns, ∀ d' ∈ (s.entry n).owns, d.conflicts d' = false

/-- R17, R79, R80, R106: the source of a port, a pitch or a volume scale is Listen(n) exactly when
entry n acts with its destination there; a port of kind None has mode Coast and source
Command (R1). -/
def State.SourcesMatch (s : State) : Prop :=
  (∀ p, (s.port p).kind = .none → (s.port p).mode = .coast ∧ (s.port p).source = .command)
    ∧ ∀ n : Fin 16,
      (∀ p, (s.port p).source = .listen n ↔ (s.entry n).owns.bind Destination.motorPort = some p)
        ∧ ∀ v, ((s.voice v).pitchSource = .listen n ↔ (s.entry n).owns = some (.voicePitch v))
          ∧ ((s.voice v).volumeSource = .listen n ↔ (s.entry n).owns = some (.voiceVolume v))

/-- R136: the order of the transmit queue and the identities in it. -/
def queueOrdered : List Frame → Prop
  | [] => True
  | f :: q => (∀ g ∈ q, g.before f = false ∧ f.sameIdentity g = false) ∧ queueOrdered q

/-- R136: the transmit queue is ordered, with no identity twice. -/
def State.QueueOrdered (s : State) : Prop := queueOrdered s.bus.queue

/-- R108: no two staging entries have the same group and target. -/
def stagingDistinct : List Staged → Prop
  | [] => True
  | x :: l => (∀ y ∈ l, x.sameTarget y = false) ∧ stagingDistinct l

/-- R175: the watch list holds no pair twice. -/
def watchDistinct : List WatchPair → Prop
  | [] => True
  | w :: l => (∀ x ∈ l, x.is w.station w.index = false) ∧ watchDistinct l

/-- R183: a ClockRetry waits for its answer only while the start it began goes on. -/
def State.RetryKept (s : State) : Prop :=
  s.clock.retry.isSome = true → s.clock.state = .onRCStarting ∨ s.clock.state = .switching

/-- R135, R152, R153: the Clock cause is in the withdrawn set exactly while the clock unit is not
OnPLL. -/
def State.ClockWithdrawn (s : State) : Prop :=
  s.bus.withdrawn.contains .clock = true ↔ s.clock.state ≠ .onPLL

/-- R163: a Restart that waits for its Reply frame has that frame in the station, queued or in
transmission. -/
def State.RestartWaits (s : State) : Prop :=
  ∀ stamp, s.station.restartPending = some (.frame stamp) →
    ∃ f ∈ s.bus.sending.toList ++ s.bus.queue, f.stamp = stamp

/-! ### The commands of the blocks, by what they ask for (Tables 1-6, 9-2) -/

/-- Table 9-2: an index that its block allows. -/
def IndexInRange (block index : Nat) : Prop :=
  (block = 1 → index < 4) ∧ (block = 2 → 1 ≤ index ∧ index ≤ 4) ∧ (block = 3 → 1 ≤ index ∧ index ≤ 3)
    ∧ (block = 4 ∨ block = 5 → index < 16) ∧ (block = 6 → 1 ≤ index ∧ index ≤ 7)
    ∧ (block = 7 ∨ block = 8 → index = 0)

/-- R23, step 2: the motor commands that need an encoder at hand: SetSpeed, SetPosition, MoveBy and
SetPattern. -/
def needsEncoder : Instr → Bool
  | .setSpeed .. | .setPosition .. | .moveBy .. | .setPattern .. => true
  | _ => false

/-- R17: the direct motion commands. -/
def isMotion : Instr → Bool
  | .coast .. | .brake .. | .setPower .. | .setSpeed .. | .setPosition .. | .moveBy ..
  | .setPattern .. => true
  | _ => false

end Sys2Proof.Machine
end

