-- ==== Sys2Proof/WellFormed.lean ====
section
/-! DEFINITION. Well-formed commands: operands that their characters can carry (R154, R187, R191),
paths a command can come by (R110, R158), and places that exist. -/

namespace Sys2Proof

/-- One character. -/
def fitsByte (n : Nat) : Bool := n < 256

/-- Two unsigned characters. -/
def fitsWord (n : Nat) : Bool := n < 65536

/-- Two signed characters. -/
def fitsSigned16 (x : Int) : Bool := -32768 ≤ x && x ≤ 32767

/-- Three signed characters. -/
def fitsSigned24 (x : Int) : Bool := -8388608 ≤ x && x ≤ 8388607

/-- R154, R158: the destination of a tablet command and the source of a frame are four bits, a token
one character. -/
def Via.wellFormed : Via → Bool
  | .tablet dest token => dest < 16 && fitsByte token
  | .bus source token => source < 16 && fitsByte token
  | .broadcast => true
  | .staged => true

/-- A block command: its path, its index of four bits, and, by the staging list, only where it may be
staged (R110). -/
def blockOk (stageable : Bool) (via : Via) (index : Nat) : Bool :=
  via.wellFormed && index < 16 && (stageable || via != .staged)

/-- R190: the fields of a note record. -/
def NoteArgs.wellFormed (a : NoteArgs) : Bool :=
  a.kind < 4 && a.wave < 4 && a.form < 2 && fitsWord a.pitch && fitsWord a.duration
    && fitsByte a.volume

/-- A place in the transmit queue of 8 frames. -/
def QueueSlot.wellFormed : QueueSlot → Bool
  | .queued place => place < 8
  | .sending => true

/-- A well-formed command. -/
def Instr.wellFormed : Instr → Bool
  | .coast v i | .brake v i | .clearVoice v i | .enable v i | .disable v i | .free v i =>
    blockOk true v i
  | .queryPort v i | .querySensor v i | .queryVoice v i | .querySignal v i | .queryEntry v i
  | .cancelGroup v i | .go v i | .halt v i | .resume v i | .restart v i | .queryStation v i
  | .clockRetry v i => blockOk false v i
  | .setPower v i x | .setSpeed v i x | .setEntryTrigger v i x => blockOk true v i && fitsSigned16 x
  | .setPosition v i x | .moveBy v i x | .zeroPosition v i x => blockOk true v i && fitsSigned24 x
  | .setPattern v i a b c | .setGains v i a b c | .setFilter v i a b c =>
    blockOk true v i && fitsByte a && fitsByte b && fitsByte c
  | .setPresets v i l u => blockOk true v i && fitsSigned24 l && fitsSigned24 u
  | .setRamp v i a b => blockOk true v i && fitsByte a && fitsByte b
  | .setLimits v i a b c d =>
    blockOk true v i && fitsWord a && fitsWord b && fitsWord c && fitsByte d
  | .setSafeAction v i a | .setArrival v i a | .setPolarity v i a | .setHaltInput v i a
  | .setVoiceScale v i a | .setMasterVolume v i a => blockOk true v i && fitsByte a
  | .setThresholds v i a b c d =>
    blockOk true v i && fitsWord a && fitsWord b && fitsWord c && fitsByte d
  | .tune v i a | .setTuneRetry v i a => blockOk true v i && fitsWord a
  | .note v i a => blockOk true v i && a.wellFormed
  | .setEnvelope v i a b => blockOk true v i && fitsWord a && fitsWord b
  | .setPublish v i a b c => blockOk true v i && fitsByte a && fitsWord b && fitsByte c
  | .setEntryRoute v i a b c d =>
    blockOk true v i && fitsByte a && fitsByte b && fitsByte c && fitsByte d
  | .setEntryTransform v i a b | .setEntryClamp v i a b =>
    blockOk true v i && fitsSigned16 a && fitsSigned16 b
  | .setEntryStale v i a b c =>
    blockOk true v i && fitsByte a && fitsByte b && (c.all fitsSigned16)
  | .stage v i a b c args =>
    blockOk false v i && a < 16 && b < 16 && fitsByte c && args.length ≤ 7
  | .statusRequest | .watchClear => true
  | .setLaneMode a b c => fitsByte a && fitsByte b && fitsByte c
  | .pullLane a => fitsByte a
  | .storeStartRecord token bytes => fitsByte token && bytes.length == 30
  | .watchAdd a b | .watchRemove a b => fitsByte a && fitsByte b
  | .tabletMessageValid chars => 3 ≤ chars.length && chars.length ≤ 35
  | .tabletMessageBad _ | .tabletRxQuietGap _ | .tabletRxStrayCharacter _ => true
  | .forwardWaitingHead | .soundLaneNoteRelease | .storeWriteDone | .uartMessageStart
  | .uartMessageSent | .linkTimeout => true
  | .laneIntervalExpiry _ => true
  | .watchHoldExpiry place => place < 8
  | .regulationPeriod _ _ | .encoderTransition _ _ | .encoderIllegalTransition _ _
  | .temperatureSample _ | .profileStep _ => true
  | .sensorSample _ _ | .freezeTimeout _ | .tuneRetryExpiry _ | .batteryReading _ => true
  | .audioSample | .attackEnd _ | .noteDurationEnd _ | .releaseEnd _ | .restEnd _
  | .gateStartExpiry | .gateStopExpiry => true
  | .publishIntervalExpiry _ | .ageTimerExpiry _ | .safeTimerExpiry => true
  | .busLineIdle | .busFrameStart | .announcePendingJoin | .arbitrationLost | .lineFault => true
  | .queueTimeout slot => slot.wellFormed
  | .frameReceptionError _ => true
  | .frameCompletion chars => 3 ≤ chars.length && chars.length ≤ 15
  | .breakDetected | .breakEnd | .busStartEdge => true
  | .crystalDetected | .clockStartTimerExpiry | .pllLock | .switchComplete | .switchAbandoned
  | .edgeMonitorExpiry | .pllLockLost => true
  | .powerOnReset | .resetPin | .restartReset => true
  | .resetEnd _ _ _ => true

end Sys2Proof
end

