-- ==== Sys2Proof/Certificates/Slice0/Obligations.lean ====
section
/-! DEFINITION. The statements about the EFP440 for the provers: what a step does, what each command
of the table does to the state and what it leaves, what is refused, and the promises that every step
keeps. Each docstring names the rules a statement formalises.

`ends t` is the next state of an event whose effects leave t: t itself, unless a pending Restart waits for a
Reply frame that t holds no more, which resets the part then (R163; that the reset comes after the event's
other effects is the model's choice, assumption 11). StationCommands states it. -/

open Sys2Proof Sys2Proof.Machine

/-! ### Steps, paths and answers (chapter 9) -/

/-- A step takes the command at the front of the queue and runs it on the state with the queue's
rest; on an empty queue the block idles (the idling is the model's choice, assumption 8). -/
def Obligations.StepTakesFrontCommand : Prop :=
  ∀ (c : Instr) (q : List Instr) (s : State),
    step { s with pending := c :: q } = exec c { s with pending := q }
      ∧ step { s with pending := [] } = .next { s with pending := [] }

/-- Every command answers a next state: an event that finds nothing to act on changes nothing (the
model's choice, assumption 5). None touches the queue of waiting commands, and none the factory serial
(R135: read-only). A part held in reset takes nothing but the rows of the resets (the model's reading of
R186, assumption 9). -/
def Obligations.EveryCommandCompletes : Prop :=
  ∀ (c : Instr) (s : State),
    (∃ t, exec c s = .next t ∧ t.pending = s.pending ∧ t.bus.serial = s.bus.serial)
      ∧ (s.resetHeld ≠ [] → c ≠ .powerOnReset → c ≠ .resetPin →
          (∀ k straps mv, c ≠ .resetEnd k straps mv) → exec c s = .next s)

/-- R154, R155, R187, R190, R191: a block command of the table does what the command path does with
its characters: block number, code and argument characters as Tables 9-2 and 12-5 give them. -/
def Obligations.CommandsMatchTheirCharacters : Prop :=
  ∀ (c : Instr) (P : Parts) (s : State),
    c.wellFormed = true → partsOf c = some P → s.resetHeld = [] →
    exec c s = ends (carryOut P.via P.block P.index P.code P.args s)

/-- R156: the path checks in their order, for any characters: UnknownCommand, BadIndex, BadArgument
for the count; a command that fails one reaches no block. -/
def Obligations.PathChecksInOrder : Prop :=
  ∀ (via : Via) (block index code : Nat) (args : List Byte) (c : CommandName) (s : State),
    (code / 16 ≠ block ∨ (blockCommands block).length ≤ code % 16 →
        carryOut via block index code args s = answered via (refuse .unknownCommand s))
      ∧ (code / 16 = block → (blockCommands block)[code % 16]? = some c → ¬IndexInRange block index →
          carryOut via block index code args s = answered via (refuse .badIndex s))
      ∧ (code / 16 = block → (blockCommands block)[code % 16]? = some c → IndexInRange block index →
          countOk c args.length = false →
          carryOut via block index code args s = answered via (refuse .badArgument s))

/-- R160, R116, R137, R157, R172: the answer of a command by its path: nothing for a broadcast, stage
miss for a refused staged command, one message of the Command lane for the tablet, the Reply requests of
its parts, in part order, for an addressed Command frame, and nothing anywhere else. A reply of one part
joins the transmit queue; at a full one it evicts the youngest frame of the highest code, if that code is
higher than a Reply's, and is dropped otherwise. That the tablet's reply names the destination as the
tablet gave it, 15 and 0 too, is the model's choice (assumption 12). -/
def Obligations.AnswerGoesBackByPath : Prop :=
  ∀ (s : State) (r : Result) (data : List (List Byte)) (d tk : Nat) (g : Frame),
    let led := fun part : List Byte => BitVec.ofNat 8 tk :: BitVec.ofNat 8 r.code :: part
    let onBus := answered (.bus d tk) (s, some ⟨r, data⟩)
    let one := s.isWithdrawn = false ∧ data.flatten.length ≤ 10
    let frame : Frame := ⟨.reply, d, led data.flatten, s.bus.nextStamp, none, false⟩
    let passed := { s.bus with nextStamp := s.bus.nextStamp + 1 }
    answered .broadcast (s, some ⟨r, data⟩) = s
      ∧ (r = .done ∨ r = .staged → answered .staged (s, some ⟨r, data⟩) = s)
      ∧ (r ≠ .done → r ≠ .staged → answered .staged (s, some ⟨r, data⟩) = setStageMiss s)
      ∧ (s.link.present = false → answered (.tablet d tk) (s, some ⟨r, data⟩) = s)
      ∧ (s.link.present = true → (s.lane 1).outbound.length < 6 →
          let t := answered (.tablet d tk) (s, some ⟨r, data⟩)
          t = s.setLane 1 { s.lane 1 with outbound := (t.lane 1).outbound }
            ∧ (t.lane 1).outbound.map OutSlot.msg
                = (s.lane 1).outbound.map OutSlot.msg ++ [.reply d tk r.code data.flatten])
      ∧ (s.link.present = true → (s.lane 1).outbound.length = 6 →
          answered (.tablet d tk) (s, some ⟨r, data⟩)
            = s.setLane 1 { s.lane 1 with dropped := true })
      ∧ onBus = (replyParts data).foldl (fun t part => replyRequest d (led part) t) s
      ∧ (s.isWithdrawn = true → onBus = s)
      ∧ (one → s.bus.queue.length < 8 →
          onBus = s.setBus { passed with queue := onBus.bus.queue }
            ∧ onBus.bus.queue.Perm (frame :: s.bus.queue))
      ∧ (one → 8 ≤ s.bus.queue.length → (∀ h ∈ s.bus.queue, h.kind.code ≤ 3) →
          onBus = s.setBus passed)
      ∧ (one → 8 ≤ s.bus.queue.length → s.bus.queue.getLast? = some g → 3 < g.kind.code →
          onBus = s.setBus { passed with
              queue := onBus.bus.queue, announcePending := s.bus.announcePending || g.kind == .announce }
            ∧ (onBus.bus.queue ++ [g]).Perm (frame :: s.bus.queue))

/-- R192: how reply data are split into parts: at most 10 characters a part, whole fields in order,
each part of several led by its number and the count; and the part sizes of the four long queries. A
local reply to the tablet carries its data whole, and a forwarded part goes to the tablet as it is. That
a local reply names the destination as the tablet gave it, 15 and 0 too, is the model's choice
(assumption 12). -/
def Obligations.ReplyPartsHoldWholeFields : Prop :=
  (∀ fields : List (List Byte), (∀ f ∈ fields, f.length ≤ 9) → fields.flatten.length ≤ 10 →
      replyParts fields = [fields.flatten])
    ∧ (∀ fields : List (List Byte), (∀ f ∈ fields, f.length ≤ 9) → 10 < fields.flatten.length →
      ∃ parts : List (List (List Byte)), parts.flatten = fields
        ∧ (∀ p ∈ parts, p.flatten.length ≤ 9)
        ∧ (∀ k, ∀ f, (parts[k + 1]?).bind List.head? = some f →
            ∀ p, parts[k]? = some p → 9 < p.flatten.length + f.length)
        ∧ replyParts fields = parts.zipIdx.map fun (p, k) =>
            BitVec.ofNat 8 (16 * (k + 1) + parts.length) :: p.flatten)
    ∧ (∀ x hot, (replyParts (Port.report hot x)).map List.length = [10, 10, 2])
    ∧ (∀ x, (replyParts (Sensor.report x)).map List.length = [8, 9])
    ∧ (∀ x s, (replyParts (voiceReport x s)).map List.length = [10, 10, 2])
    ∧ (∀ e, (replyParts (Entry.report e)).map List.length = [10, 9, 8])
    ∧ (∀ d tk r data s,
        answered (.tablet d tk) (s, some ⟨r, data⟩) = tell 1 (.reply d tk r.code data.flatten) s)
    ∧ (∀ (source n tk code : Nat) (part : List Byte) (s : State),
        s.bus.number = some n → tk < 256 → code < 256 →
        replyFrame ⟨.reply, source, n, BitVec.ofNat 8 tk :: BitVec.ofNat 8 code :: part⟩ s
          = tell 1 (.reply source tk code part) s)

/-- R156, R157: what the commands of a block leave alone, whatever their path and their answer: the
driver temperature, the battery monitor, the clock unit, the Station block and the start record
(but for the Station block's own commands), the sensor ports, the staging list and the halt
controller. -/
def Obligations.BlockCommandsKeepOtherBlocks : Prop :=
  ∀ (c : Instr) (P : Parts) (s : State),
    partsOf c = some P → s.resetHeld = [] →
    ∃ t, exec c s = ends t
      ∧ (P.block ≠ 8 → t.hot = s.hot ∧ t.battery = s.battery ∧ t.clock = s.clock
          ∧ t.station = s.station ∧ t.record = s.record ∧ t.resetHeld = s.resetHeld)
      ∧ (P.block ≠ 2 → P.block ≠ 8 → t.sensors = s.sensors)
      ∧ (P.block = 1 ∨ P.block = 3 ∨ P.block = 4 ∨ P.block = 5 → t.staging = s.staging)
      ∧ (P.block = 3 ∨ P.block = 4 ∨ P.block = 6 → t.halt = s.halt)
      ∧ (P.block = 1 ∨ P.block = 5 → t.halt.first = s.halt.first
          ∧ t.halt.firstPort = s.halt.firstPort ∧ t.halt.further = s.halt.further)

/-! ### Motor ports (chapter 1) -/

/-- R23, steps 1 to 3, R1, R20: the checks of every motor command, in their order, and what the first
that fails answers. -/
def Obligations.MotorChecksInOrder : Prop :=
  ∀ (c : Instr) (P : Parts) (p : Fin 4) (s : State),
    partsOf c = some P → P.block = 1 → P.index = p.val → s.resetHeld = [] →
    ((s.port p).kind = .none → exec c s = ends (answered P.via (refuse .wrongKind s)))
      ∧ ((s.port p).kind = .plain → (needsEncoder c = true ∨ P.code = 29) →
          exec c s = ends (answered P.via (refuse .noEncoder s)))
      ∧ ((s.port p).kind = .encoded → (s.port p).encoderLost = true → needsEncoder c = true →
          exec c s = ends (answered P.via (refuse .noEncoder s)))
      ∧ ((s.port p).kind ≠ .none →
          ¬(needsEncoder c = true ∧ ((s.port p).kind = .plain ∨ (s.port p).encoderLost = true)) →
          isMotion c = true → s.halt.state ≠ .running →
          exec c s = ends (answered P.via (refuse .halted s)))

/-- R17, R23, Table 1-6, R12, R31: Coast, Brake and SetPower on a port that accepts them: the mode, the
target, the source, the applied duty, StallYielded and PatternDone cleared, a binding suspended; and
nothing else changed when neither flag was set. -/
def Obligations.CoastBrakeAndPowerTakeThePort : Prop :=
  ∀ (via : Via) (p : Fin 4) (duty : Int) (s : State),
    s.resetHeld = [] → s.halt.state = .running → (s.port p).kind ≠ .none →
    let x := s.port p
    let own := { x with source := .command, stallYielded := false, patternDone := false }
    let coast := { own.enter .coast with target := 0 }
    let brake := { own.enter .brake with target := 0 }
    let power := { own.enter .power with
      target := clampAbs 1000 duty, bridge := .driven,
      duty := clampAbs ((min x.dutyLimit s.battery.ceiling : Nat) : Int) (clampAbs 1000 duty) }
    let freed := fun y => putPort p y (suspendSource x.source s)
    let quiet := x.stallYielded = false ∧ x.patternDone = false
    (∃ t, exec (.coast via p.val) s = ends (answered via (done t)) ∧ t.port p = coast
        ∧ (quiet → t = freed coast))
      ∧ (∃ t, exec (.brake via p.val) s = ends (answered via (done t)) ∧ t.port p = brake
        ∧ (quiet → t = freed brake))
      ∧ (∃ t, exec (.setPower via p.val duty) s = ends (answered via (done t)) ∧ t.port p = power
        ∧ (quiet → t = freed power))

/-- R17, R23, Table 1-6, R30 to R32: SetSpeed, SetPosition and MoveBy on a port with its encoder. -/
def Obligations.RampedMotionTakesThePort : Prop :=
  ∀ (via : Via) (p : Fin 4) (v : Int) (s : State),
    s.resetHeld = [] → s.halt.state = .running → (s.port p).kind = .encoded →
    (s.port p).encoderLost = false →
    let x := s.port p
    let own := { x with source := .command, stallYielded := false, patternDone := false }
    let aimed := fun (m : Mode) (target : Int) =>
      { own.enter m with
        target := target, stepTimer := rampPeriod x.periodCode,
        reference := if x.periodCode = 0 then target else (own.enter m).reference }
    let speed := aimed .speed (clampAbs 1500 v)
    let position := aimed .position (clamp24 v)
    let moved := aimed .position
      (clamp24 ((if x.mode = .position then x.target else x.position) + clamp24 v))
    let freed := fun y => putPort p y (suspendSource x.source s)
    let quiet := x.stallYielded = false ∧ x.patternDone = false
    (∃ t, exec (.setSpeed via p.val v) s = ends (answered via (done t)) ∧ t.port p = speed
        ∧ (quiet → t = freed speed))
      ∧ (∃ t, exec (.setPosition via p.val v) s = ends (answered via (done t)) ∧ t.port p = position
        ∧ (quiet → t = freed position))
      ∧ (∃ t, exec (.moveBy via p.val v) s = ends (answered via (done t)) ∧ t.port p = moved
        ∧ (quiet → t = freed moved))

/-- R36, R44, R23: SetPattern starts a pattern, or is refused with BadArgument for an unknown waveform
or with period code 0. That a Triangle or a Sawtooth sets the start index to 0 is the model's choice
(assumption 44). -/
def Obligations.SetPatternStartsPattern : Prop :=
  ∀ (via : Via) (p : Fin 4) (waveform phase cycles : Nat) (s : State),
    s.resetHeld = [] → s.halt.state = .running → (s.port p).kind = .encoded →
    (s.port p).encoderLost = false →
    let x := s.port p
    let own := { x with source := .pattern, stallYielded := false, patternDone := false }
    let entered := own.enter .pattern
    let r := clampI x.lower x.upper entered.reference
    let k := 4 * clampN 0 7 phase
    let leg := fun (w : Waveform) =>
      { entered with
        waveform := some w, cyclesWanted := clampN 0 255 cycles, cycleCount := 0, reference := r,
        startPoint := some r, pointIndex := 0, startIndex := 0, target := x.upper,
        stepTimer := rampPeriod x.periodCode }
    let sine :=
      { entered with
        waveform := some .sine, cyclesWanted := clampN 0 255 cycles, cycleCount := 0,
        reference := x.sinePoint k, startPoint := none, pointIndex := k, startIndex := k,
        target := x.sinePoint (k + 1), stepTimer := rampPeriod x.periodCode }
    let y := if waveform = 0 then leg .triangle else if waveform = 1 then leg .sawtooth else sine
    let c := Instr.setPattern via p.val waveform phase cycles
    (2 < waveform ∨ x.periodCode = 0 → exec c s = ends (answered via (refuse .badArgument s)))
      ∧ (waveform ≤ 2 → x.periodCode ≠ 0 →
          ∃ t, exec c s = ends (answered via (done t)) ∧ t.port p = y
            ∧ (x.stallYielded = false → x.patternDone = false →
                t = putPort p y (suspendSource x.source s)))

/-- R3, R14, R28, R30: what a mode change does to a port, and that naming the mode held changes
nothing. A change to Coast or Brake leaves the stall count at 0. -/
def Obligations.ModeChangeSteps : Prop :=
  ∀ (m : Mode) (x : Port),
    let y := x.enter m
    let looped := fun n : Mode => n = .position ∨ n = .pattern ∨ n = .safeRamp
    (x.mode = m → y = x)
      ∧ (x.mode ≠ m → y.mode = m ∧ y.acc = 0 ∧ y.captured = none ∧ y.arrived = false
          ∧ y.patternDone = x.patternDone ∧ y.position = x.position ∧ y.source = x.source
          ∧ (m = .coast ∨ m = .brake → y.duty = 0 ∧ y.target = 0 ∧ y.stallCount = 0
              ∧ y.bridge = if m = .coast then .floating else .shorted)
          ∧ (m ≠ .coast → m ≠ .brake →
              y.duty = x.duty ∧ y.bridge = x.bridge ∧ y.stallCount = x.stallCount)
          ∧ (m = .speed → y.reference = clampAbs 1500 x.speed)
          ∧ (looped m → looped x.mode → y.reference = x.reference)
          ∧ (looped m → ¬looped x.mode → y.reference = x.position)
          ∧ (m = .speed ∨ looped m → y.stepTimer = rampPeriod x.periodCode)
          ∧ (m ≠ .speed → ¬looped m → y.stepTimer = none)
          ∧ (x.mode = .pattern → y.waveform = none ∧ y.startPoint = none ∧ y.pointIndex = 0
              ∧ y.startIndex = 0 ∧ y.cyclesWanted = 0 ∧ y.cycleCount = 0))

/-- R24, Table 1-7: SetGains, SetLimits, SetSafeAction and SetArrival on a port of kind Plain or
Encoded, in every halt state, and the settings they refuse. -/
def Obligations.MotorSettingsReplaceFields : Prop :=
  ∀ (via : Via) (p : Fin 4) (a b c d : Nat) (s : State),
    s.resetHeld = [] → (s.port p).kind ≠ .none →
    let x := s.port p
    let becomes := fun (i : Instr) (y : Port) =>
      exec i s = ends (answered via (done (s.setPort p y)))
    let bad := fun (i : Instr) => exec i s = ends (answered via (refuse .badArgument s))
    let limits := { x with
      dutyLimit := clampN 0 1000 a, currentLimit := clampN 100 2500 b,
      stallTime := clampN 100 2000 c, overCount := 0, stallCount := 0 }
    let reclamped := fun y : Port =>
      if x.mode = .coast ∨ x.mode = .brake then y
      else { y with duty := clampAbs ((min y.dutyLimit s.battery.ceiling : Nat) : Int) x.duty }
    becomes (.setGains via p.val 0 b c)
        { x with posKp := clampN 0 255 b, posKi := clampN 0 255 c }
      ∧ becomes (.setGains via p.val 1 b c)
        { x with spdKp := clampN 0 255 b, spdKi := clampN 0 255 c }
      ∧ (1 < a → bad (.setGains via p.val a b c))
      ∧ becomes (.setLimits via p.val a b c 0) (reclamped { limits with stallPolicy := .halt })
      ∧ becomes (.setLimits via p.val a b c 1) (reclamped { limits with stallPolicy := .yield })
      ∧ (1 < d → bad (.setLimits via p.val a b c d))
      ∧ becomes (.setSafeAction via p.val 0) { x with safeAction := .coast }
      ∧ becomes (.setSafeAction via p.val 1) { x with safeAction := .brake }
      ∧ becomes (.setSafeAction via p.val 2) { x with safeAction := .rampLowerThenCoast }
      ∧ becomes (.setSafeAction via p.val 3) { x with safeAction := .rampUpperThenCoast }
      ∧ (3 < a → bad (.setSafeAction via p.val a))
      ∧ becomes (.setArrival via p.val a) { x with window := clampN 0 255 a }

/-- R35, R23, R33, R39, R44, Table 2-4: SetPresets and SetRamp by the mode of the port; in Pattern mode the
target becomes the point the pattern is heading for. -/
def Obligations.PresetsAndRampByMode : Prop :=
  ∀ (via : Via) (p : Fin 4) (l u : Int) (step period : Nat) (s : State),
    s.resetHeld = [] → (s.port p).kind ≠ .none →
    let x := s.port p
    let l' := clamp24 l
    let u' := clamp24 u
    let st := clampN 0 7 step
    let pe := clampN 0 15 period
    let coded := { x with stepCode := st, periodCode := pe }
    let becomes := fun (i : Instr) (y : Port) =>
      exec i s = ends (answered via (done (s.setPort p y)))
    let presets := Instr.setPresets via p.val l u
    let ramp := Instr.setRamp via p.val step period
    let stepping := x.mode = .speed ∨ x.mode = .position ∨ x.mode = .safeRamp
    let running := x.mode = .pattern ∧ x.patternDone = false
    (u' ≤ l' → exec presets s = ends (answered via (refuse .badRange s)))
      ∧ (l' < u' → x.mode ≠ .pattern → becomes presets { x with lower := l', upper := u' })
      ∧ (l' < u' → x.mode = .pattern →
          let y := { x with
            lower := l', upper := u', reference := clampI l' u' x.reference,
            startPoint := x.startPoint.map (clampI l' u') }
          let half := (u' - l') / 2
          becomes presets { y with target :=
            if x.patternDone then y.reference
            else match x.waveform with
              | some .triangle => if x.pointIndex = 1 then l' else u'
              | some .sawtooth => u'
              | some .sine => l' + half + roundDiv (shape (x.pointIndex + 1) * half) 1024
              | none => x.target })
      ∧ (x.mode = .coast ∨ x.mode = .brake ∨ x.mode = .power → becomes ramp coded)
      ∧ (stepping → pe = 0 → becomes ramp { coded with stepTimer := none, reference := x.target })
      ∧ (running → pe = 0 → becomes ramp { coded with stepTimer := none })
      ∧ (stepping ∨ running → pe ≠ 0 → pe = x.periodCode → becomes ramp coded)
      ∧ (stepping ∨ running → pe ≠ 0 → pe ≠ x.periodCode →
          becomes ramp { coded with stepTimer := rampPeriod pe })
      ∧ (x.mode = .pattern → x.patternDone = true → becomes ramp coded)

/-- R25, R27, R187: ZeroPosition moves the position of a port in Coast or Brake, even one whose encoder is
lost, and QueryPort reads a port and changes nothing. That the reply carries target, reference, position,
speed and duty in two's complement is the model's choice (assumption 49). -/
def Obligations.ZeroAndQueryPort : Prop :=
  ∀ (via : Via) (p : Fin 4) (v : Int) (s : State),
    s.resetHeld = [] →
    let x := s.port p
    let y := { x with
      position := clamp24 v, history := Vector.replicate 8 (clamp24 v), target := clamp24 v,
      reference := clamp24 v, positionLimit := false, encoderLost := false, illegal := [] }
    let c := Instr.zeroPosition via p.val v
    (x.kind = .encoded → x.mode ≠ .coast → x.mode ≠ .brake →
        exec c s = ends (answered via (refuse .badState s)))
      ∧ (x.kind = .encoded → x.mode = .coast ∨ x.mode = .brake →
          ∃ t, exec c s = ends (answered via (done t)) ∧ t.port p = y
            ∧ (x.encoderLost = false → t = s.setPort p y))
      ∧ (x.kind ≠ .none →
          exec (.queryPort via p.val) s = ends (answered via (doneWith
            [charsOf 1 x.kind.code, charsOf 1 x.mode.code, charsOf 1 x.source.code,
             charsOf 3 x.target, charsOf 3 x.reference, charsOf 3 x.position, charsOf 2 x.speed,
             charsOf 2 x.duty, charsOf 2 x.current,
             charsOf 1 ((boolNat x.positionLimit + 2 * boolNat x.encoderLost
               + 4 * boolNat x.stallYielded + 8 * boolNat x.arrived + 16 * boolNat x.patternDone
               + 32 * boolNat s.hot : Nat) : Int)] s)))

/-- R1, R4, R5, R6: a valid transition counts by one or holds the counter at its end and sets
PositionLimit; an illegal one is recorded, and the fourth within 100 ms loses the encoder, which
takes a port in a loop mode to Coast and back from its binding. The encoder of a port of another kind is not
decoded. That an illegal transition carries its time in µs as an operand, and that the times are compared as
they come, one that runs backward too, is the model's choice (assumption 28), and so is that a row for a port
without an encoder changes nothing (assumption 5). -/
def Obligations.EncoderTransitions : Prop :=
  ∀ (p : Fin 4) (forward : Bool) (at_ t0 t1 t2 : Nat) (s : State),
    s.resetHeld = [] →
    let x := s.port p
    let n := if forward then x.position + 1 else x.position - 1
    let valid := Instr.encoderTransition p forward
    let illegal := Instr.encoderIllegalTransition p at_
    let lost := { x with encoderLost := true, illegal := [] }
    let encoded := x.kind = .encoded
    (encoded → -8388608 ≤ n → n ≤ 8388607 →
        exec valid s = ends (s.setPort p { x with position := n }))
      ∧ (encoded → 8388607 < n →
          exec valid s = ends (s.setPort p { x with position := 8388607, positionLimit := true }))
      ∧ (encoded → n < -8388608 →
          exec valid s = ends (s.setPort p { x with position := -8388608, positionLimit := true }))
      ∧ (encoded → x.illegal.length < 3 →
          exec illegal s = ends (s.setPort p { x with illegal := x.illegal ++ [at_] }))
      ∧ (encoded → x.illegal = [t0, t1, t2] → t0 + 100000 ≤ at_ →
          exec illegal s = ends (s.setPort p { x with illegal := [t1, t2, at_] }))
      ∧ (encoded → x.illegal = [t0, t1, t2] → at_ < t0 + 100000 →
          ∃ t, exec illegal s = ends t
            ∧ (t.port p).encoderLost = true ∧ (t.port p).illegal = []
            ∧ (x.mode = .coast ∨ x.mode = .brake ∨ x.mode = .power →
                (t.port p).mode = x.mode ∧ (t.port p).source = x.source)
            ∧ (x.mode ≠ .coast → x.mode ≠ .brake → x.mode ≠ .power →
                t.port p = { lost.enter .coast with source := .command }
                  ∧ t.halt.settled[p] = true
                  ∧ ∀ n, x.source = .listen n → (t.entry n).acting = false))
      ∧ (¬encoded → exec valid s = ends s ∧ exec illegal s = ends s)

/-- R9 to R12: the duty and the accumulator of one period, in every mode. -/
def Obligations.RegulatorOutput : Prop :=
  ∀ (p : Fin 4) (s : State),
    let x := s.port p
    let eff : Int := ((min x.dutyLimit s.battery.ceiling : Nat) : Int)
    let held := { x with acc := clampAbs (eff * 256) x.acc }
    let loop := fun (kp ki : Nat) (err : Int) =>
      let e := clampAbs 32767 err
      let candidate := clampAbs (eff * 256) (held.acc + ki * e)
      let u := Int.tdiv (kp * e) 16 + Int.tdiv candidate 256
      { held with
        bridge := .driven, duty := clampAbs eff u,
        acc := if (eff < u ∧ 0 < e) ∨ (u < -eff ∧ e < 0) then held.acc else candidate }
    driveStage p s = s.setPort p (match x.mode with
      | .coast => { held with duty := 0, bridge := .floating }
      | .brake => { held with duty := 0, bridge := .shorted }
      | .power => { held with duty := clampAbs eff x.target, bridge := .driven }
      | .speed => loop x.spdKp x.spdKi (x.reference - x.speed)
      | .position | .pattern | .safeRamp => loop x.posKp x.posKi (x.reference - x.position))

/-- R13, R14, R15, R34, R21: the overcurrent check, the stall check and the arrival test of a period;
R16: the driver temperature state and its cause. That a sensed current above 3000 mA is taken at the end of
its range is the model's choice (assumption 37). -/
def Obligations.PortAndDriverProtection : Prop :=
  ∀ (p : Fin 4) (current : Nat) (celsius : Int) (s : State),
    let x := s.port p
    let sensed := { x with current := min current 3000 }
    let stalling := 500 ≤ x.duty.natAbs ∧ x.speed.natAbs < 50
    let checked := x.kind = .encoded ∧ x.encoderLost = false
    let due := x.stallTime ≤ (x.stallCount + 1) * 5
    let arrived := x.reference = x.target ∧ (x.position - x.target).natAbs ≤ x.window
    (min current 3000 ≤ x.currentLimit →
        currentStage p current s = s.setPort p { sensed with overCount := 0 })
      ∧ (x.currentLimit < min current 3000 → x.overCount < 3 →
          currentStage p current s = s.setPort p { sensed with overCount := x.overCount + 1 })
      ∧ (x.currentLimit < min current 3000 → 3 ≤ x.overCount →
          currentStage p current s
            = giveCause .overcurrent (some (.motor p)) (s.setPort p { sensed with overCount := 0 }))
      ∧ (checked → ¬stalling → stallStage p s = s.setPort p { x with stallCount := 0 })
      ∧ (checked → stalling → ¬due →
          stallStage p s = s.setPort p { x with stallCount := x.stallCount + 1 })
      ∧ (checked → stalling → due → x.stallPolicy = .halt →
          stallStage p s = giveCause .stall (some (.motor p)) (s.setPort p { x with stallCount := 0 }))
      ∧ (checked → stalling → due → x.stallPolicy = .yield →
          let t := stallStage p s
          t.port p = { ({ x with stallCount := 0 }.enter .coast) with
              source := .command, stallYielded := true }
            ∧ t.halt.first = s.halt.first ∧ t.halt.settled[p] = true
            ∧ ∀ n, x.source = .listen n → (t.entry n).acting = false)
      ∧ (¬checked → stallStage p s = s ∧ arrivalStage p s = s)
      ∧ (checked → x.mode = .position →
          arrivalStage p s = s.setPort p { x with arrived := decide arrived })
      ∧ (checked → x.mode = .safeRamp → arrived → (arrivalStage p s).port p = x.enter .coast)
      ∧ (x.mode = .safeRamp → ¬arrived → arrivalStage p s = s)
      ∧ (s.resetHeld = [] → s.hot = false → celsius < 125 →
          exec (.temperatureSample celsius) s = ends s)
      ∧ (s.resetHeld = [] → s.hot = false → 125 ≤ celsius →
          exec (.temperatureSample celsius) s = ends (giveCause .thermal none { s with hot := true }))
      ∧ (s.resetHeld = [] → s.hot = true → celsius < 110 →
          exec (.temperatureSample celsius) s = ends { s with hot := false })
      ∧ (s.resetHeld = [] → s.hot = true → 110 ≤ celsius →
          exec (.temperatureSample celsius) s = ends s)

/-- R8, R1, R7, R26: the stages of a regulation period in their order, which a port of kind None does
not have; the speed measured and the history kept; and the signals it leaves: position and measured
speed of an Encoded port, 0 for a Plain one. (The order of the writes within the last stage is the model's
choice, assumption 13.) -/
def Obligations.RegulationPeriodMeasuresAndReports : Prop :=
  ∀ (p : Fin 4) (current : Nat) (i j : Fin 16) (s : State),
    s.resetHeld = [] → i.val = 4 + p.val → j.val = 8 + p.val →
    let x := s.port p
    let speed := clampAbs 32767 ((x.position - x.history[0]) * 25)
    let driven := driveStage p (currentStage p current (measureStage p s))
    (x.kind = .none → exec (.regulationPeriod p current) s = ends s)
      ∧ (x.kind ≠ .encoded → measureStage p s = s)
      ∧ (x.kind = .encoded →
          measureStage p s = s.setPort p { x with
            speed := speed
            history := Vector.ofFn fun k : Fin 8 =>
              if h : k.val + 1 < 8 then x.history[k.val + 1] else x.position })
      ∧ (x.kind ≠ .none →
          ∃ t, exec (.regulationPeriod p current) s = ends t
            ∧ t = signalStage p (stallStage p (arrivalStage p driven))
            ∧ t.sensors = s.sensors ∧ t.battery = s.battery ∧ t.hot = s.hot
            ∧ (x.kind = .encoded → (t.signal i).value = clampAbs 32767 x.position
                ∧ (t.signal j).value = speed ∧ (t.port p).position = x.position)
            ∧ (x.kind = .plain → (t.signal i).value = 0 ∧ (t.signal j).value = 0))

/-! ### Profiles and patterns (chapter 2) -/

/-- R30, R31: an expiry of a port's step timer in a ramped mode: the reference moves toward the target
by the step, lands on it rather than pass it, and nothing else of the state changes. R32: a ramp
toward a target that stays lasts ceiling(|target − reference| / step) steps, no fewer. -/
def Obligations.ProfileStepMovesReference : Prop :=
  ∀ (p : Fin 4) (s : State),
    s.resetHeld = [] → (s.port p).stepTimer.isSome = true →
    (s.port p).mode = .speed ∨ (s.port p).mode = .position ∨ (s.port p).mode = .safeRamp →
    let x := s.port p
    let step := if x.mode = .speed then speedStep x.stepCode else positionStep x.stepCode
    let n := ((x.target - x.reference).natAbs + step.toNat - 1) / step.toNat
    ∃ t, exec (.profileStep p) s = ends t
      ∧ t = s.setPort p { x with reference := (t.port p).reference }
      ∧ (x.reference ≤ x.target →
          (t.port p).reference = min (x.reference + step) x.target)
      ∧ (x.target ≤ x.reference →
          (t.port p).reference = max (x.reference - step) x.target)
      ∧ Nat.repeat (stepToward step x.target) n x.reference = x.target
      ∧ ∀ k < n, Nat.repeat (stepToward step x.target) k x.reference ≠ x.target

/-- R31, R35 to R39: in Pattern mode the reference lies within the presets: every step, a pattern's
start and a SetPresets keep it there. R39, R40, R44: a Sine step: the next point of the shape table, the cycle
counted at the start index, where the pattern goes on or is done, and the target. -/
def Obligations.PatternReferenceWithinPresets : Prop :=
  ∀ (x : Port) (w : Waveform) (phase cycles : Nat) (l u : Int),
    x.lower < x.upper → phase ≤ 7 → l < u →
    let half := (x.upper - x.lower) / 2
    let point := fun k : Nat => x.lower + half + roundDiv (shape k * half) 1024
    let k := (x.pointIndex + 1) % 32
    let sine := x.mode = .pattern ∧ x.waveform = some .sine ∧ x.patternDone = false
    let moved := { x with pointIndex := k, reference := point k, target := point (k + 1) }
    let n := x.cycleCount + 1
    let goesOn := x.cyclesWanted = 0 ∨ n < x.cyclesWanted
    let within := fun y : Port => y.lower ≤ y.reference ∧ y.reference ≤ y.upper
    within (x.startPattern w phase cycles)
      ∧ (x.mode = .pattern → within (x.withPresets l u))
      ∧ (x.mode = .pattern → within x → within x.profileStep)
      ∧ (sine → k ≠ x.startIndex → x.profileStep = moved)
      ∧ (sine → k = x.startIndex → goesOn → x.profileStep = { moved with
          cycleCount := if x.cyclesWanted = 0 then n % 256 else n })
      ∧ (sine → k = x.startIndex → ¬goesOn → x.profileStep = { moved with
          cycleCount := n, stepTimer := none, target := point k, patternDone := true })

/-- R37, R38, R40, R44, Tables 2-5 and 2-6: the rows of a Triangle and of a Sawtooth step: the reference and
the leg, the cycle counted at the completion test, where the pattern goes on from leg 0 or is done, and the
target after the step. -/
def Obligations.TriangleAndSawtoothSteps : Prop :=
  ∀ (x : Port) (start : Int),
    x.mode = .pattern → x.startPoint = some start →
    let step := positionStep x.stepCode
    let y := x.profileStep
    let heads := fun y : Port =>
      let point := if y.patternDone then y.reference
        else if y.waveform = some .triangle ∧ y.pointIndex = 1 then y.lower else y.upper
      { y with target := point }
    let n := x.cycleCount + 1
    let counted := fun y : Port =>
      if x.cyclesWanted = 0 ∨ n < x.cyclesWanted then
        { y with cycleCount := if x.cyclesWanted = 0 then n % 256 else n, pointIndex := 0 }
      else { y with cycleCount := n, stepTimer := none, patternDone := true }
    let tested := fun (leg : Nat) (r : Int) =>
      (r < start → y = heads { x with reference := r, pointIndex := leg })
        ∧ (start ≤ r → y = heads (counted { x with reference := r, pointIndex := leg }))
    (x.waveform = some .triangle →
        (x.pointIndex = 0 → x.reference < x.upper →
            y = heads { x with reference := min (x.reference + step) x.upper })
          ∧ (x.pointIndex = 0 → x.upper ≤ x.reference → x.lower < x.upper - step →
              y = heads { x with reference := x.upper - step, pointIndex := 1 })
          ∧ (x.pointIndex = 0 → x.upper ≤ x.reference → x.upper - step ≤ x.lower → tested 2 x.lower)
          ∧ (x.pointIndex = 1 → x.lower < x.reference - step →
              y = heads { x with reference := x.reference - step })
          ∧ (x.pointIndex = 1 → x.lower < x.reference → x.reference - step ≤ x.lower →
              tested 2 x.lower)
          ∧ (x.pointIndex = 1 → x.reference ≤ x.lower → tested 2 x.reference)
          ∧ (x.pointIndex = 2 → x.reference < start → tested 2 (min (x.reference + step) x.upper))
          ∧ (x.pointIndex = 2 → start ≤ x.reference → tested 2 x.reference))
      ∧ (x.waveform = some .sawtooth →
        (x.pointIndex = 0 → x.reference < x.upper →
            y = heads { x with reference := min (x.reference + step) x.upper })
          ∧ (x.pointIndex = 0 → x.upper ≤ x.reference → tested 1 x.lower)
          ∧ (x.pointIndex = 1 → x.reference < start → tested 1 (min (x.reference + step) x.upper))
          ∧ (x.pointIndex = 1 → start ≤ x.reference → tested 1 x.reference))

/-- R39, R40, R30: a Sine pattern of one cycle is done after 32 steps of its port, back at its start
point, with its step timer stopped, unless the reset of a Restart that waits for its Reply frame comes
between. R43: the shape table repeats with the opposite sign and peaks at
1024, at 8 and 24. -/
def Obligations.SineCycleIsDone : Prop :=
  ∀ (p : Fin 4) (k : Fin 32) (s : State),
    s.resetHeld = [] → (s.port p).mode = .pattern → (s.port p).waveform = some .sine →
    (s.port p).patternDone = false → (s.port p).startIndex < 32 →
    (s.port p).pointIndex = (s.port p).startIndex → (s.port p).cycleCount = 0 →
    (s.port p).cyclesWanted = 1 → (s.port p).stepTimer.isSome = true →
    (s.port p).source = .pattern → (∀ k, s.station.restartPending ≠ some (.frame k)) →
    let t := Nat.repeat (fun s => match exec (.profileStep p) s with
      | .next t => t
      | _ => s) 32 s
    (t.port p).patternDone = true ∧ (t.port p).stepTimer = none
      ∧ (t.port p).reference = (s.port p).sinePoint (s.port p).startIndex
      ∧ shape (k.val + 16) = -shape k.val ∧ (shape k.val).natAbs ≤ 1024
      ∧ ((shape k.val).natAbs = 1024 ↔ k = 8 ∨ k = 24)

/-! ### Sensor ports and the battery monitor (chapter 3) -/

/-- R45, Table 3-1, R65, Table 3-11, R61, R66: the sensor commands that the port's kind refuses with
WrongKind; and SetFilter, SetThresholds, SetPolarity, SetTuneRetry, SetHaltInput and QuerySensor on a
port of a kind that accepts them, and the settings they refuse. That a SetHaltInput on at an input that is
on gives no cause, and that every SetFilter clears the debounce count, are the model's choices
(assumptions 19 and 21). -/
def Obligations.SensorSettingsReplaceFields : Prop :=
  ∀ (i : Instr) (P : Parts) (via : Via) (p : Fin 4) (a b c d : Nat) (s : State),
    s.resetHeld = [] →
    let x := s.sensor p
    let refusedBy := fun k : SensorKind => match k with
      | .off => true
      | .switch => P.code == 33 || P.code == 34 || P.code == 35 || P.code == 36
      | .level => P.code == 35 || P.code == 36
      | .touch => P.code == 34
    (partsOf i = some P → P.block = 2 → P.index = p.val + 1 → refusedBy x.kind = true →
        exec i s = ends (answered P.via (refuse .wrongKind s)))
      ∧ (x.kind ≠ .off →
        let i := p.val + 1
        let becomes := fun (c : Instr) (y : Sensor) =>
          exec c s = ends (answered via (done (s.setSensor p y)))
        let bad := fun c : Instr => exec c s = ends (answered via (refuse .badArgument s))
        let restarted := fun (ms : Nat) (t : Timer) =>
          if t.isSome then (if ms = 0 then none else some ms) else none
        let freeze := min 25500 (100 * d)
        let retry := min 60000 (100 * a)
        let thresholds := fun (th hy : Nat) => { x with
          threshold := th, hysteresis := hy, freezeLevel := clampN 1 32767 c, freezeTime := freeze,
          freezeTimer := restarted freeze x.freezeTimer, debounce := 0 }
        let on := s.setSensor p { x with haltInput := true }
        becomes (.setFilter via i a b c)
            { x with beta := clampN 0 6 a, lbeta := clampN 4 10 b, length := clampN 1 8 c, debounce := 0 }
          ∧ (x.kind = .level → becomes (.setThresholds via i a b c d)
              (thresholds (clampN 0 4095 a) (clampN 0 4095 b)))
          ∧ (x.kind = .touch → becomes (.setThresholds via i a b c d)
              (thresholds (clampN 1 32767 a) (clampN 0 32767 b)))
          ∧ (x.kind = .level → x.active = false →
              becomes (.setPolarity via i 0) { x with polarity := .rising, debounce := 0 }
                ∧ becomes (.setPolarity via i 1) { x with polarity := .falling, debounce := 0 })
          ∧ (x.kind = .level → x.active = true →
              (∃ t, exec (.setPolarity via i 0) s = ends (answered via (done t))
                  ∧ t.sensors = s.sensors.set p
                      { x with polarity := .rising, debounce := 0, active := false }
                  ∧ getBits (3 * p.val) 1 (t.signal 13).value = 0)
                ∧ ∃ t, exec (.setPolarity via i 1) s = ends (answered via (done t))
                  ∧ t.sensors = s.sensors.set p
                      { x with polarity := .falling, debounce := 0, active := false }
                  ∧ getBits (3 * p.val) 1 (t.signal 13).value = 0)
          ∧ (x.kind = .level → 1 < a → bad (.setPolarity via i a))
          ∧ (x.kind = .touch → becomes (.setTuneRetry via i a)
              { x with retryPeriod := retry, retryTimer := restarted retry x.retryTimer })
          ∧ becomes (.setHaltInput via i 0) { x with haltInput := false }
          ∧ (x.haltInput = true ∨ x.active = false →
              becomes (.setHaltInput via i 1) { x with haltInput := true })
          ∧ (x.haltInput = false → x.active = true →
              exec (.setHaltInput via i 1) s
                = ends (answered via (done (giveCause .sensorHalt (some (.sensor p)) on))))
          ∧ (1 < a → bad (.setHaltInput via i a))
          ∧ exec (.querySensor via i) s = ends (answered via (doneWith
              [charsOf 1 x.kind.code, charsOf 2 x.raw,
               charsOf 2 (if x.kind = .switch then boolNat x.active else x.filt),
               charsOf 2 (if x.kind = .touch then x.lta else 0),
               charsOf 3 (if x.kind = .touch then x.delta else 0),
               charsOf 1 (if x.tuning.isSome then 3 else if x.active then 1 else if x.frozen then 2 else 0),
               charsOf 1 x.tuneResult.code, charsOf 1 x.gain, charsOf 1 x.offset,
               charsOf 1 (boolNat x.haltInput)] s)))

/-- R48, Table 3-3, R61, R67, R177: a sample that meets, or does not meet, the condition that counts; the
change of Active at the nth in a row is written to signal 13 and gives the notice of an activation or a
release, and an activation of a port whose halt input is on then gives SensorHalt, which leaves the
station not Running. That signal 13, the notice and the cause come in this order is the model's choice
(assumption 13). -/
def Obligations.DebounceRows : Prop :=
  ∀ (p : Fin 4) (activation release : Bool) (s : State),
    let x := s.sensor p
    let met := if x.active then release else activation
    let t := debounce p activation release s
    let told := tell 3 (.notice (if x.active then 3 else 2) (p.val + 1) 0)
      (writeSensorBits p (s.setSensor p { x with debounce := 0, active := !x.active }))
    (met = false → t = s.setSensor p { x with debounce := 0 })
      ∧ (met = true → x.debounce + 1 < x.length →
          t = s.setSensor p { x with debounce := x.debounce + 1 })
      ∧ (met = true → x.length ≤ x.debounce + 1 →
          t = (if x.active = false ∧ x.haltInput = true then
              giveCause .sensorHalt (some (.sensor p)) told else told)
            ∧ t.sensors = s.sensors.set p { x with debounce := 0, active := !x.active }
            ∧ getBits (3 * p.val) 1 (t.signal 13).value = boolNat (!x.active)
            ∧ (x.active = false → x.haltInput = true → t.halt.state ≠ .running)
            ∧ (x.active = true ∨ x.haltInput = false → t.halt = s.halt))

/-- R50, R51: a sample of a seeded Level port: the filter moves filt toward the raw value, never past
it, and stops exactly at a distance below half its divisor; the port decides on filt after that step,
by its threshold, hysteresis and polarity; the two conditions never hold together, and a release
condition that no filt in 0..4095 meets is never counted; filt is the port's signal. That a raw value above
4095 is taken as 4095 (assumption 37), and that a change of Active is reported before the port's own signal
(assumption 13), are the model's choices. -/
def Obligations.LevelSamples : Prop :=
  ∀ (p : Fin 4) (i : Fin 16) (raw : Nat) (s : State),
    s.resetHeld = [] → i.val = p.val → (s.sensor p).kind = .level → (s.sensor p).seeded = true →
    (s.sensor p).beta ≤ 6 → 0 ≤ (s.sensor p).hysteresis →
    let x := s.sensor p
    let r : Int := (min raw 4095 : Nat)
    let f := x.filt + roundDiv (r - x.filt) (2 ^ x.beta)
    let rising := x.polarity = .rising
    let activation := if rising then x.threshold ≤ f else f ≤ x.threshold
    let release := if rising then f < x.threshold - x.hysteresis else x.threshold + x.hysteresis < f
    let filtered := s.setSensor p { x with raw := min raw 4095, filt := f }
    ∃ t, exec (.sensorSample p raw) s = ends t
      ∧ t = updateSignal i f (debounce p (decide activation) (decide release) filtered)
      ∧ (t.sensor p).raw = min raw 4095 ∧ (t.sensor p).filt = f ∧ (t.signal i).value = f
      ∧ (∀ q, q ≠ p → t.sensor q = s.sensor q)
      ∧ (x.beta = 0 → f = r)
      ∧ (x.filt ≤ r → x.filt ≤ f ∧ f ≤ r)
      ∧ (r ≤ x.filt → r ≤ f ∧ f ≤ x.filt)
      ∧ (f = x.filt ↔ 2 * (r - x.filt).natAbs < 2 ^ x.beta)
      ∧ ¬(activation ∧ release)
      ∧ (¬activation → ¬release →
          debounce p (decide activation) (decide release) filtered
            = s.setSensor p { x with raw := min raw 4095, filt := f, debounce := 0 })
      ∧ (rising → x.threshold - x.hysteresis ≤ 0 → 0 ≤ f → ¬release)
      ∧ (¬rising → 4095 ≤ x.threshold + x.hysteresis → f ≤ 4095 → ¬release)

/-- R47, R49, R53 to R55: the other samples: a seeding one, a Switch port's, and a Touch port's that is
not tuning; and the expiry of the freeze timer. A port of kind Off has none, and the flag for tuning at
start is nothing to a port of another kind than Touch. That a Switch port is seeded by its first sample
(assumption 22), that its raw value above 1, or a Level port's above 4095, is taken at the end of its range
(assumption 37), that a Switch port's change of Active is reported before its signal (assumption 13) and
that the expiry of a stopped freeze timer changes nothing (assumption 5) are the model's choices. -/
def Obligations.SwitchAndTouchSamples : Prop :=
  ∀ (p : Fin 4) (raw : Nat) (s : State),
    s.resetHeld = [] →
    let x := s.sensor p
    let touching := x.kind = .touch ∧ x.tuning = none ∧ x.tuneAtStart = false
    let i : Fin 16 := p.castLE (by decide)
    let c := Instr.sensorSample p raw
    let r := min raw 65535
    let pressed := debounce p (decide (1 ≤ raw)) (decide (raw = 0))
      (s.setSensor p { x with raw := min raw 1, seeded := true })
    let f := filterStep x.beta x.filt (r : Nat)
    let lta := if x.frozen = true ∨ x.active = true then x.lta else filterStep x.lbeta x.lta f
    let moved := { x with raw := r, filt := f, lta := lta, delta := lta - f }
    let y :=
      if (lta - f).natAbs < x.freezeLevel then { moved with frozen := false, freezeTimer := none }
      else if x.frozen then moved
      else { moved with
        frozen := true, freezeTimer := if x.freezeTime = 0 then none else some x.freezeTime }
    (x.kind = .off → exec c s = ends s)
      ∧ (x.kind = .switch →
          exec c s = ends (updateSignal i (boolNat (pressed.sensor p).active) pressed))
      ∧ (x.kind = .level → x.seeded = false →
          exec c s = ends (updateSignal i (min raw 4095 : Nat) (s.setSensor p { x with
            raw := min raw 4095, filt := (min raw 4095 : Nat), seeded := true })))
      ∧ (touching → x.seeded = false →
          exec c s = ends (updateSignal i 0 (s.setSensor p { x with
            raw := r, filt := (r : Nat), lta := (r : Nat), delta := 0, seeded := true })))
      ∧ (touching → x.seeded = true →
          exec c s = ends (updateSignal i (clampI (-32768) 32767 (lta - f))
            (debounce p (decide (x.threshold ≤ lta - f))
              (decide (lta - f < x.threshold - x.hysteresis)) (s.setSensor p y))))
      ∧ (x.freezeTimer.isSome = true →
          exec (.freezeTimeout p) s = ends (updateSignal i 0 (s.setSensor p { x with
            lta := x.filt, delta := 0, frozen := false, freezeTimer := none })))
      ∧ (x.freezeTimer = none → exec (.freezeTimeout p) s = ends s)

/-- R56 to R60: a tune starts (by the Tune command, which a running tune refuses with Busy, and by the
retry timer), measures by six samples of which the last four count, and goes through its phases; its end
is written to signal 13 and gives a notice with the result (R67, R177); a tune that has just started is
over after 15 measurements, whatever the readings, unless the reset of a Restart comes between. The model's
choices: a raw value above 65535 is taken as 65535 (assumption 37), at a tune's end signal 13 is written
before the notice is formed (assumption 13), an expiry finds nothing to act on while no retry waits
(assumption 5), the flag for tuning at start is used up by the first sample (assumption 23), and the next
trial is held from the end of the measurement before it (assumption 45). -/
def Obligations.TunePhases : Prop :=
  ∀ (via : Via) (p : Fin 4) (target raw n sum bit kept : Nat) (phase : TunePhase)
    (raws : List Nat) (s : State),
    s.resetHeld = [] → (s.sensor p).kind = .touch →
    let x := s.sensor p
    let started := fun target : Nat => { x with
      active := false, frozen := false, freezeTimer := none, debounce := 0, retryTimer := none,
      tuning := some ⟨.gain, 0, 0⟩, gain := 1, offset := 0, tuneTarget := target }
    let tune := Instr.tune via (p.val + 1) target
    let c := Instr.sensorSample p raw
    let r := min raw 65535
    let a := (sum + r) / 4
    let y := { x with raw := r, tuneAtStart := false }
    let trial := fun (ph : TunePhase) (g o : Nat) =>
      exec c s = ends (s.setSensor p { y with tuning := some ⟨ph, 0, 0⟩, gain := g, offset := o })
    let finishes := fun (res : TuneResult) (filt lta delta : Int) (retry : Timer) =>
      let ended := { y with
        tuning := none, tuneResult := res, filt := filt, lta := lta, delta := delta,
        retryTimer := retry }
      ∃ t, exec c s = ends t
        ∧ t = tell 3 (.notice 4 (p.val + 1) res.code) (writeSensorBits p (s.setSensor p ended))
        ∧ t.sensors = s.sensors.set p ended
        ∧ getBits (3 * p.val + 1) 1 (t.signal 13).value = 0
    let kept' := if x.tuneTarget ≤ a then kept + bit else kept
    let retry := if x.retryPeriod = 0 then none else some x.retryPeriod
    let measured := fun ph : TunePhase => x.tuning = some ⟨ph, 5, sum⟩
    let sampled := raws.foldl (fun s raw => match exec (.sensorSample p raw) s with
      | .next t => t
      | _ => s) s
    (x.tuning.isSome = true → exec tune s = ends (answered via (refuse .busy s)))
      ∧ (x.tuning = none →
          ∃ t, exec tune s = ends (answered via (done t))
            ∧ t.sensors = s.sensors.set p (started (clampN 1 65535 target))
            ∧ getBits (3 * p.val) 2 (t.signal 13).value = 2)
      ∧ (x.retryTimer.isSome = true →
          ∃ t, exec (.tuneRetryExpiry p) s = ends t
            ∧ t.sensors = s.sensors.set p (started x.tuneTarget))
      ∧ (x.retryTimer = none → exec (.tuneRetryExpiry p) s = ends s)
      ∧ (x.tuning = none → x.tuneAtStart = true →
          ∃ t, exec c s = ends t
            ∧ t.sensors = s.sensors.set p { started x.tuneTarget with
                tuneAtStart := false, raw := r, tuning := some ⟨.gain, 1, 0⟩ })
      ∧ (x.tuning = some ⟨phase, n, sum⟩ → n < 5 →
          exec c s = ends (s.setSensor p { y with
            tuning := some ⟨phase, n + 1, if n < 2 then sum else sum + r⟩ }))
      ∧ (measured .gain → x.tuneTarget ≤ a → trial (.offset 32 0) x.gain 32)
      ∧ (measured .gain → a < x.tuneTarget → x.gain < 8 → trial .gain (x.gain + 1) 0)
      ∧ (measured .gain → a < x.tuneTarget → 8 ≤ x.gain → finishes .lowSignal x.filt x.lta x.delta retry)
      ∧ (measured (.offset bit kept) → 2 ≤ bit →
          trial (.offset (bit / 2) kept') x.gain (kept' + bit / 2))
      ∧ (measured (.offset bit kept) → bit = 1 → trial .final x.gain kept')
      ∧ (measured .final → a ≤ x.tuneTarget + x.tuneTarget / 16 → finishes .tuneDone a a 0 none)
      ∧ (measured .final → x.tuneTarget + x.tuneTarget / 16 < a →
          finishes .outOfWindow a x.lta x.delta retry)
      ∧ (x.tuning = some ⟨.gain, 0, 0⟩ → x.gain = 1 → raws.length = 90 →
          (∀ k, s.station.restartPending ≠ some (.frame k)) →
          (sampled.sensor p).tuning = none ∧ (sampled.sensor p).tuneResult ≠ .none)

/-- R62 to R64, R12, R67: a battery reading: the filtered value, the ceiling and the percentage of
Table 3-8, the rows of Table 3-9, signal 12, and the re-clamp of driven ports. -/
def Obligations.BatteryReading : Prop :=
  ∀ (millivolts : Nat) (s : State),
    s.resetHeld = [] →
    let b := s.battery
    let v := b.filtered + roundDiv (millivolts - b.filtered) 4
    let ceiling := if 7200 ≤ v then 1000 else if v < 6000 then 400
      else 400 + ((v - 6000) * 600 / 1200).toNat
    let percentage := if 7200 ≤ v then 100 else if v < 6000 then 40
      else 40 + ((v - 6000) * 60 / 1200).toNat
    let falls := b.low = false ∧ v < 5600
    ∃ t, exec (.batteryReading millivolts) s = ends t
      ∧ t.battery = ⟨v, ceiling, percentage,
          if b.low then b.lowCount else if falls ∧ b.lowCount = 0 then 1 else 0,
          if b.low then decide (v < 6000) else decide (falls ∧ 1 ≤ b.lowCount)⟩
      ∧ (t.signal 12).value = min v 32767
      ∧ t.sensors = s.sensors ∧ t.hot = s.hot
      ∧ (falls → 1 ≤ b.lowCount → t.halt.state = .halted ∨ s.halt.state ≠ .running)
      ∧ (falls → 1 ≤ b.lowCount → ∀ p, (t.port p).mode = .coast)
      ∧ (¬(falls ∧ 1 ≤ b.lowCount) → t.halt = s.halt)
      ∧ (ceiling < b.ceiling → ∀ p, (t.port p).mode.settled = false →
          (t.port p).duty.natAbs ≤ min (t.port p).dutyLimit ceiling)

/-! ### Voices (chapter 4) -/

/-- R80, R82, R83: SetEnvelope, SetVoiceScale, SetMasterVolume and QueryVoice, in every halt state. -/
def Obligations.VoiceSettingsReplaceFields : Prop :=
  ∀ (via : Via) (v : Fin 3) (a b : Nat) (n : Fin 16) (s : State),
    s.resetHeld = [] →
    let x := s.voice v
    let i := v.val + 1
    let scaled := s.setVoice v { x with volumeScale := clampN 0 100 a, volumeSource := .own }
    exec (.setEnvelope via i a b) s = ends (answered via (done (s.setVoice v { x with
        attackMs := clampN 0 500 a, releaseMs := clampN 0 1000 b })))
      ∧ (x.volumeSource = .own →
          exec (.setVoiceScale via i a) s = ends (answered via (done scaled)))
      ∧ (x.volumeSource = .listen n →
          exec (.setVoiceScale via i a) s = ends (answered via (done (
            if (s.entry n).acting then
              scaled.setEntry n { s.entry n with state := .suspended, age := none }
            else scaled))))
      ∧ exec (.setMasterVolume via i a) s
          = ends (answered via (done (s.setAudio { s.audio with master := clampN 0 100 a })))
      ∧ exec (.queryVoice via i) s = ends (answered via (doneWith
          [charsOf 1 x.state.code, charsOf 1 x.queue.length, charsOf 1 (soundCode x.sound),
           charsOf 1 x.pitchSource.code, charsOf 1 (x.boundPitch.getD 0),
           charsOf 1 x.volumeSource.code, charsOf 1 x.volumeScale, charsOf 2 x.attackMs,
           charsOf 2 x.releaseMs, charsOf 2 x.env, charsOf 3 x.inc, charsOf 1 s.audio.master,
           charsOf 1 ((min s.audio.master s.battery.percentage : Nat) : Int),
           charsOf 1 s.audio.gate.code] s))

/-- R69, R72, R79, R82, R84, R106: what a Note meets at a voice, and what an accepted one and a ClearVoice
do, with the progress reports they give: queue low at a note that starts and leaves 2 or fewer, voice idle
at a voice that becomes Idle. A Note suspends the entry the voice listened to and sends its tone to
Release. The model's choices: a voice-idle report carries the notes left (assumption 31); the envelope
takes the start level as the Release is entered (assumption 46). -/
def Obligations.NoteAndClearVoice : Prop :=
  ∀ (via : Via) (v : Fin 3) (a : NoteArgs) (w : NoteWave) (n : Fin 16) (s : State),
    s.resetHeld = [] → a.form < 2 →
    let x := s.voice v
    let note := Instr.note via (v.val + 1) a
    let clear := Instr.clearVoice via (v.val + 1)
    let refused := fun r : Result => exec note s = ends (answered via (refuse r s))
    let running := s.halt.state = .running
    let isTone := a.kind = 0 ∧ readNoteWave a.wave = some w ∧ a.pitch ≠ 0
    let isRest := a.kind = 1
    let duration := clampN 10 10000 a.duration
    let volume := clampN 0 100 a.volume
    let pitch := if a.form = 0 then Pitch.number (clampN 24 108 a.pitch)
      else Pitch.hertz (clampN 20 8000 a.pitch)
    let rec_ : Note :=
      if a.kind = 1 then ⟨true, none, duration, volume, .square⟩
      else ⟨false, some pitch, duration, volume, w⟩
    let good := running ∧ (isTone ∨ isRest) ∧ x.queue.length < 8
    let joined := { x with queue := x.queue ++ [rec_] }
    let inAttackOrSustain := x.state = .attack ∨ x.state = .sustain
    let level := if x.state = .sustain then 256 else x.env
    let e := s.entry n
    let left := if e.state = .enabled ∨ e.state = .stale
      then { e with state := .suspended, age := none } else e
    (¬running → refused .halted)
      ∧ (running → 2 ≤ a.kind ∨ (a.kind = 0 ∧ (4 ≤ a.wave ∨ a.pitch = 0)) → refused .badArgument)
      ∧ (running → isTone ∨ isRest → 8 ≤ x.queue.length → refused .queueFull)
      ∧ (good → x.pitchSource = .own → x.state ≠ .idle → x.sound ≠ some .tone →
          exec note s = ends (answered via (done (s.setVoice v joined))))
      ∧ (good → x.pitchSource = .own → x.state = .idle → s.audio.gate ≠ .on →
          ∃ t, exec note s = ends (answered via (done t))
            ∧ t.voice v = { joined with
                state := .waiting, sound := none, env := 0, releaseStart := none }
            ∧ (s.audio.gate = .off → s.clock.state = .onPLL →
                t.audio = { s.audio with gate := .starting, startTimer := some 2 })
            ∧ ∀ u, u ≠ v → t.voice u = s.voice u)
      ∧ (good → x.pitchSource = .own → x.state = .idle → x.queue = [] → s.audio.gate = .on →
          ∃ t, exec note s = ends (answered via (done t))
            ∧ (t.voice v).sound = some (.note rec_) ∧ (t.voice v).queue = []
            ∧ (t.voice v).acc = 0 ∧ (t.voice v).noteTime = 0
            ∧ (a.kind = 0 → (t.voice v).inc = pitchIncrement pitch
                ∧ (t.voice v).lastWave = some w)
            ∧ t = tell 2 (.progress false (v.val + 1) 0)
                ((s.setAudio { s.audio with stopTimer := none }).setVoice v (t.voice v)))
      ∧ (good → x.pitchSource = .listen n →
          ∃ t, exec note s = ends (answered via (done t))
            ∧ (t.voice v).pitchSource = .own ∧ t.entry n = left)
      ∧ (good → x.pitchSource = .listen n → x.sound = some .tone → inAttackOrSustain →
          x.releaseMs ≠ 0 → exec note s = ends (answered via (done ((s.setEntry n left).setVoice v
            { joined with
              pitchSource := .own, state := .release, releaseStart := some level, env := level,
              phaseTime := 0, phaseMs := x.releaseMs }))))
      ∧ (good → x.pitchSource = .listen n → x.state ≠ .idle →
          ¬(x.sound = some .tone ∧ inAttackOrSustain) →
          exec note s = ends (answered via (done ((s.setEntry n left).setVoice v
            { joined with pitchSource := .own }))))
      ∧ (∃ t, exec clear s = ends (answered via (done t))
          ∧ (t.voice v).silent ∧ (t.voice v).env = 0 ∧ (t.voice v).pitchSource = .own
          ∧ (∀ u, u ≠ v → t.voice u = s.voice u)
          ∧ t.link = (if x.state = .idle then s else tell 2 (.progress true (v.val + 1) 0) s).link
          ∧ (x.pitchSource = .listen n → (t.entry n).acting = false))

/-- R73 to R75, R77, R78, Table 4-7: an audio sample: none while the gate is not On; otherwise the mix of
the voices as they stand after it, by their wave values, within ±127 and 0 while Halting or Halted; a
voice whose sound goes on advances by its increment, with the envelope of Attack, Sustain or Release; a
phase or a note that is over at the sample ends there; and an Idle or Waiting voice is left alone. -/
def Obligations.AudioSampleMixesVoices : Prop :=
  ∀ (v : Fin 3) (s : State),
    s.resetHeld = [] →
    let x := s.voice v
    let later := x.phaseTime + 32
    let phaseOver := 1000 * x.phaseMs ≤ later
    let noteOver := match x.sound with
      | some (.note n) => decide (1000 * n.duration ≤ x.noteTime + 32)
      | _ => false
    let resting := match x.sound with
      | some (.note n) => n.rest
      | _ => false
    let wave := fun (w : NoteWave) (acc : Nat) =>
      let u : Int := (acc / 8192 : Nat)
      match w with
      | .square => if u < 1024 then 1023 else -1024
      | .sawtooth => u - 1024
      | .triangle => if u < 1024 then 2 * u - 1024 else 3071 - 2 * u
      | .sine => shape (acc / 524288)
    let value := fun y : Voice => match y.sound with
      | some (.note n) => if n.rest then 0 else wave n.wave y.acc * n.volume
      | some .tone => wave (y.lastWave.getD .square) y.acc * 100
      | none => 0
    let level := fun y : Voice =>
      if y.state = .attack ∨ y.state = .sustain ∨ y.state = .release then
        Int.tdiv (value y * y.volumeScale * y.env) 2560000
      else 0
    let advanced := fun y : Voice => { x with
      acc := (x.acc + x.inc) % 16777216, noteTime := x.noteTime + 32, phaseTime := later,
      state := y.state, env := y.env }
    (s.audio.gate ≠ .on → exec .audioSample s = ends s)
      ∧ (s.audio.gate = .on →
          ∃ t, exec .audioSample s = ends t
            ∧ t.audio.speaker.natAbs ≤ 127
            ∧ (s.halt.state ≠ .running → t.audio.speaker = 0)
            ∧ (s.halt.state = .running → t.audio.speaker = clampAbs 127 (Int.tdiv
                ((level (t.voice 0) + level (t.voice 1) + level (t.voice 2))
                  * (min s.audio.master s.battery.percentage : Nat)) 1600))
            ∧ (x.state = .idle ∨ x.state = .waiting → t.voice v = x)
            ∧ (x.state = .attack → ¬phaseOver → noteOver = false →
                t.voice v = advanced { x with env := 256 * later / (1000 * x.phaseMs) })
            ∧ (x.state = .attack → phaseOver → noteOver = false →
                t.voice v = advanced { x with state := .sustain, env := 256 })
            ∧ (x.state = .sustain → noteOver = false →
                t.voice v = advanced { x with env := if resting then 0 else 256 })
            ∧ (x.state = .sustain → noteOver = true → resting = false → x.releaseMs ≠ 0 →
                (t.voice v).state = .release ∧ (t.voice v).releaseStart = some 256
                  ∧ (t.voice v).env = 256 ∧ (t.voice v).phaseTime = 0
                  ∧ (t.voice v).phaseMs = x.releaseMs)
            ∧ (x.state = .release → ¬phaseOver →
                let start := x.releaseStart.getD 0
                t.voice v = advanced { x with env := start - start * later / (1000 * x.phaseMs) })
            ∧ (x.state = .release → phaseOver → x.pitchSource = .own → x.queue = [] →
                (t.voice v).state = .idle ∧ (t.voice v).sound = none ∧ (t.voice v).env = 0)
            ∧ t.ports = s.ports ∧ t.entries = s.entries ∧ t.signals = s.signals
            ∧ t.bus = s.bus ∧ t.halt = s.halt)

/-- R73 to R75, R72, R84, Table 4-4: what the ends of a voice's phases and of the gate's timers do, with
the progress reports they give: a Tone note enters Release from Sustain or Attack, or ends at once with a
release time of 0; the end of a sound starts the next, or leaves the voice Idle. That each end is a row of
its own, which takes the voice to the sample of that end (assumption 16) by its times alone, without the
phase accumulator and the speaker's output (assumption 47), that the envelope takes the release start level
at once (assumption 46) and that an end with nothing to act on changes nothing
(assumption 5) are the model's choices. -/
def Obligations.VoicePhasesAndGateTimers : Prop :=
  ∀ (v : Fin 3) (note next : Note) (rest : List Note) (s : State),
    s.resetHeld = [] →
    let x := s.voice v
    let on := s.audio.gate = .on
    let alone := fun t : State => t = s.setVoice v (t.voice v)
    let silent := fun t : State => (t.voice v).state = .idle ∧ (t.voice v).sound = none
      ∧ (t.voice v).env = 0 ∧ t.link = (tell 2 (.progress true (v.val + 1) 0) s).link
    let starts := fun t : State => (t.voice v).sound = some (.note next) ∧ (t.voice v).queue = rest
      ∧ t.link = (if rest.length ≤ 2 then tell 2 (.progress false (v.val + 1) rest.length) s
          else s).link
    let playing := s.audio.gate = .on ∧ x.sound = some (.note note) ∧ note.rest = false
    let late := sampleTime (1000 * note.duration) - x.noteTime
    let reached := x.phaseTime + late
    let level := if 1000 * x.phaseMs ≤ reached then 256 else 256 * reached / (1000 * x.phaseMs)
    let released := fun (t : State) (level : Nat) => t = s.setVoice v { x with
      state := .release, releaseStart := some level, env := level, phaseTime := 0,
      phaseMs := x.releaseMs, noteTime := x.noteTime + late }
    (on → x.state = .attack →
        ∃ t, exec (.attackEnd v) s = ends t ∧ alone t
          ∧ (t.voice v).state = .sustain ∧ (t.voice v).env = 256 ∧ (t.voice v).sound = x.sound)
      ∧ (playing → x.state = .sustain → x.releaseMs ≠ 0 →
          ∃ t, exec (.noteDurationEnd v) s = ends t ∧ released t 256)
      ∧ (playing → x.state = .attack → x.releaseMs ≠ 0 →
          ∃ t, exec (.noteDurationEnd v) s = ends t ∧ released t level ∧ level ≤ 256)
      ∧ (playing → x.state = .attack ∨ x.state = .sustain → x.releaseMs = 0 →
          x.pitchSource = .own → x.queue = [] →
          ∃ t, exec (.noteDurationEnd v) s = ends t ∧ silent t)
      ∧ (playing → x.state = .attack ∨ x.state = .sustain → x.releaseMs = 0 →
          x.pitchSource = .own → x.queue = next :: rest → s.halt.state = .running →
          ∃ t, exec (.noteDurationEnd v) s = ends t ∧ starts t)
      ∧ (on → x.state = .release → x.pitchSource = .own → x.queue = [] →
          ∃ t, exec (.releaseEnd v) s = ends t ∧ silent t)
      ∧ (on → x.state = .release → x.pitchSource = .own → x.queue = next :: rest →
          s.halt.state = .running →
          ∃ t, exec (.releaseEnd v) s = ends t ∧ starts t)
      ∧ (on → x.sound = some (.note note) → note.rest = true → x.state = .sustain →
          x.pitchSource = .own → x.queue = [] →
          ∃ t, exec (.restEnd v) s = ends t ∧ silent t ∧ (t.voice v).lastWave = x.lastWave)
      ∧ (s.audio.gate = .starting → s.audio.startTimer.isSome = true →
          ∃ t, exec .gateStartExpiry s = ends t
            ∧ t.audio.gate = .on ∧ t.audio.startTimer = none ∧ (t.voice v).state ≠ .waiting
            ∧ (x.state ≠ .waiting → t.voice v = x))
      ∧ (on → s.audio.stopTimer.isSome = true →
          exec .gateStopExpiry s = ends (s.setAudio { s.audio with
            gate := .off, stopTimer := none, speaker := 0 }))
      ∧ (¬on → exec (.attackEnd v) s = ends s ∧ exec (.noteDurationEnd v) s = ends s
          ∧ exec (.releaseEnd v) s = ends s ∧ exec (.restEnd v) s = ends s
          ∧ exec .gateStopExpiry s = ends s)

/-- R76: the phase increment of a pitch: the rounding of Table 4-5's tenths of a hertz shifted down by
octaves, and of ten times a direct frequency; its range; and a new pitch for the continuous tone
replaces the increment at once and keeps the accumulator. -/
def Obligations.PitchIncrements : Prop :=
  ∀ (n f : Nat) (v : Fin 3) (e : Fin 16) (s : State),
    24 ≤ n → n ≤ 108 → 20 ≤ f → f ≤ 8000 →
    let table : List Int := [20930, 22175, 23493, 24890, 26370, 27938, 29600, 31360, 33224, 35200,
      37293, 39511]
    let octave := 2 ^ ((96 + n % 12 - n) / 12)
    let tenths := if n = 108 then 41860 else roundDiv (table.getD (n % 12) 0) octave
    let x := s.voice v
    (pitchIncrement (.number n) : Int) = roundDiv (tenths * 16777216) 312500
      ∧ (pitchIncrement (.hertz f) : Int) = roundDiv ((f : Int) * 10 * 16777216) 312500
      ∧ 10737 ≤ pitchIncrement (.hertz f) ∧ pitchIncrement (.hertz f) ≤ 4294967
      ∧ 10737 ≤ pitchIncrement (.number n) ∧ pitchIncrement (.number n) ≤ 4294967
      ∧ (x.sound = some .tone → x.pitchSource = .listen e → s.halt.state = .running →
          valuePitch v e n s = s.setVoice v { x with
            boundPitch := some n, inc := pitchIncrement (.number n) })

/-! ### Signals and the listen table (chapter 5) -/

/-- R91, R88, R92, R89, R187: SetPublish with its immediate test of the publish condition, QuerySignal, and
the interval timer. What an absent last published value shows (assumption 1), the unit of the interval in
a command and a reply (assumption 34), that a reply carries the signal's values in two's complement
(assumption 49) and that the expiry of a stopped interval timer changes nothing
(assumption 5) are the model's choices. -/
def Obligations.SignalCommands : Prop :=
  ∀ (via : Via) (i : Fin 16) (policy deadband interval : Nat) (pol : Policy) (s : State),
    s.resetHeld = [] →
    let x := s.signal i
    let c := Instr.setPublish via i.val policy deadband interval
    let ms := clampN 10 2550 (10 * interval)
    let y := { x with
      policy := pol, deadband := clampN 0 1000 deadband, interval := ms,
      timer := if pol = .periodic ∨ pol = .both then some ms else none }
    let changed := ∀ l ∈ x.lastPublished,
      if i.val < 13 then 1 ≤ (x.value - l).natAbs ∧ y.deadband ≤ (x.value - l).natAbs
      else x.value ≠ l
    let asks := (pol = .onChange ∨ pol = .both) ∧ changed
    (3 < policy → exec c s = ends (answered via (refuse .badArgument s)))
      ∧ (readPolicy policy = some pol → asks →
          exec c s = ends (answered via (done (publishRequest i (s.setSignal i y)))))
      ∧ (readPolicy policy = some pol → ¬asks →
          exec c s = ends (answered via (done (s.setSignal i y))))
      ∧ exec (.querySignal via i.val) s = ends (answered via (doneWith
          [charsOf 2 x.value, charsOf 1 x.policy.code, charsOf 2 x.deadband,
           charsOf 1 ((x.interval / 10 : Nat) : Int),
           charsOf 2 (x.lastPublished.getD (Config.absentValue .lastPublished)),
           charsOf 1 (if x.lastPublished.isSome then 1 else 0)] s))
      ∧ (x.timer.isSome = true → exec (.publishIntervalExpiry i) s
          = ends (publishRequest i (s.setSignal i { x with timer := some x.interval })))
      ∧ (x.timer = none → exec (.publishIntervalExpiry i) s = ends s)

/-- R136, R137, R88, R113: requests to the transmit queue: refused while Withdrawn, merged into a frame
of their identity, joined in the order of code and queued time, or taken at a full queue by evicting the
youngest frame of the highest code when that code is higher; a Go request is refused only while
Withdrawn. -/
def Obligations.TransmitQueueRequests : Prop :=
  ∀ (f g : Frame) (i : Fin 16) (group d bi code : Nat) (o : Origin) (chars : List Byte) (s : State),
    s.QueueOrdered →
    let q := s.bus.queue
    let own := q.any fun f => (f.kind == .signal || f.kind == .event) && f.route == i.val
    let payload := charsOf 2 (s.signal i).value
    let kind := if i.val < 13 then FrameKind.signal else FrameKind.event
    let ahead := fun a b : Frame =>
      a.kind.code < b.kind.code ∨ (a.kind.code = b.kind.code ∧ a.stamp < b.stamp)
    let placed := fun q q' : List Frame => ∃ k : Fin (q.length + 1),
      q' = q.take k ++ f :: q.drop k
        ∧ (∀ h ∈ q.take k, ¬ahead f h) ∧ ∀ h ∈ q.drop k, ahead f h
    let passed := s.setBus { s.bus with nextStamp := s.bus.nextStamp + 1 }
    let added := fun (k : FrameKind) (route : Nat) (chars : List Byte) (o : Option Origin) =>
      joinQueue ⟨k, route, chars, s.bus.nextStamp, o, false⟩ passed
    let announce := charsOf 4 s.bus.serial.toNat
      ++ charsOf 1 (resetCauseCode s.station.resetCause s.station.recordInvalid)
    let command := BitVec.ofNat 8 bi :: BitVec.ofNat 8 code :: BitVec.ofNat 8 o.token :: chars
    (q.length < 8 → (joinQueue f s).2 = true
        ∧ (joinQueue f s).1 = s.setBus { s.bus with queue := (joinQueue f s).1.bus.queue }
        ∧ placed q (joinQueue f s).1.bus.queue)
      ∧ (8 ≤ q.length → (∀ h ∈ q, h.kind.code ≤ f.kind.code) → joinQueue f s = (s, false))
      ∧ (8 ≤ q.length → q.getLast? = some g →
          (∀ h ∈ q, h.kind.code ≤ g.kind.code ∧ (h.kind = g.kind → h.stamp ≤ g.stamp))
          ∧ (f.kind.code < g.kind.code → (joinQueue f s).2 = true
              ∧ placed q.dropLast (joinQueue f s).1.bus.queue ∧ q.dropLast ++ [g] = q
              ∧ (g.kind = .command → ∀ z ∈ g.origin,
                  (joinQueue f s).1.link.forwarded = s.link.forwarded - 1)
              ∧ (g.kind = .announce → (joinQueue f s).1.bus.announcePending = true)))
      ∧ (s.isWithdrawn = true → publishRequest i s = s ∧ goRequest group s = (s, false)
          ∧ replyRequest d chars s = s ∧ announceRequest s = s
          ∧ commandRequest o bi code chars s = tabletReply o.dest o.token .busFull [] s)
      ∧ (s.isWithdrawn = false → own = true →
          publishRequest i s = s.setBus { s.bus with queue := q.map fun f =>
            if (f.kind = .signal ∨ f.kind = .event) ∧ f.route = i.val
            then { f with payload := payload } else f })
      ∧ (s.isWithdrawn = false → own = false →
          publishRequest i s = (added kind i.val payload none).1)
      ∧ (s.isWithdrawn = false → replyRequest d chars s = (added .reply d chars none).1)
      ∧ (s.isWithdrawn = false → (∃ f ∈ q, f.kind = .announce) → announceRequest s = s)
      ∧ (s.isWithdrawn = false → (∀ f ∈ q, f.kind ≠ .announce) →
          ((added .announce 0 announce none).2 = true →
              announceRequest s = (added .announce 0 announce none).1)
            ∧ ((added .announce 0 announce none).2 = false →
              announceRequest s = passed.setBus { passed.bus with announcePending := true }))
      ∧ (s.isWithdrawn = false →
          let t := added .command o.dest command (some o)
          commandRequest o bi code chars s =
            if t.2 then t.1.setLink { t.1.link with forwarded := t.1.link.forwarded + 1 }
            else tabletReply o.dest o.token .busFull [] t.1)
      ∧ (s.isWithdrawn = false → (∀ f ∈ q, f.kind = .go → f.payload ≠ [BitVec.ofNat 8 group]) →
          goRequest group s = added .go 0 [BitVec.ofNat 8 group] none)
      ∧ (s.isWithdrawn = false → (∃ f ∈ q, f.kind = .go ∧ f.payload = [BitVec.ofNat 8 group]) →
          goRequest group s = (s, true))
      ∧ (s.isWithdrawn = false → (∀ f ∈ q, f.kind = .go →
            1 ≤ readU f.payload ∧ readU f.payload ≤ 7 ∧ f.payload.length = 1) →
          1 ≤ group → group ≤ 7 →
          (goRequest group s).2 = true
            ∧ ∃ f ∈ (goRequest group s).1.bus.queue, f.kind = .go
                ∧ f.payload = [BitVec.ofNat 8 group])

/-- R87, R88, R97, R113, R116, R176: a producer's write of a signal: the value is stored (of signal 15, all
but the stage miss bit that a refused trigger may set) and reaches its three users: the acting entries of
this station's own signal, the publish policy, and the own pair of the watch list, which is told at most
once per hold. No signal but it and signal 15 changes, no block but the ports, voices, entries, bus
station and link. The order of the three users, and that a refused trigger's stage miss follows them, are
the model's choice (assumption 30). -/
def Obligations.UpdateReachesItsUsers : Prop :=
  ∀ (i j : Fin 16) (v : Int) (place : Nat) (w : WatchPair) (d : Bool) (s : State),
    let t := updateSignal i v s
    let x := s.signal i
    let y := { x with value := v }
    let stored := s.setSignal i y
    let asks := (x.policy = .onChange ∨ x.policy = .both) ∧ ∀ l ∈ x.lastPublished,
      if i.val < 13 then 1 ≤ (v - l).natAbs ∧ x.deadband ≤ (v - l).natAbs else v ≠ l
    let queued := ∃ f ∈ s.bus.queue, (f.kind = .signal ∨ f.kind = .event) ∧ f.route = i.val
    let hears := fun (u : State) (n : Fin 16) => (u.entry n).acting = true
      ∧ ∃ r ∈ (u.entry n).route, s.bus.number = some r.source ∧ r.signal = i
    let entries := sixteen.foldl (fun (u : State × Nat) n =>
      if hears u.1 n then
        ((takeValue n v u.1).1, u.2 + if (takeValue n v u.1).2 then 1 else 0)
      else u) (stored, 0)
    let watched := s.link.watch[place]? = some w ∧ s.bus.number = some w.station ∧ w.index = i.val
    let hold := fun h : Hold =>
      s.setLink { s.link with watch := s.link.watch.set place { w with hold := h } }
    (i ≠ 15 → t.signal i = y)
      ∧ (i = 15 → getBits 0 7 (t.signal 15).value = getBits 0 7 v
          ∧ getBits 8 8 (t.signal 15).value = getBits 8 8 v)
      ∧ (j ≠ i → j ≠ 15 → t.signal j = s.signal j)
      ∧ (i ≠ 15 → (t.stageMiss = s.stageMiss → t.signal 15 = s.signal 15))
      ∧ (s.stageMiss = true → t.stageMiss = true)
      ∧ t.sensors = s.sensors ∧ t.battery = s.battery ∧ t.staging = s.staging ∧ t.halt = s.halt
      ∧ t.clock = s.clock ∧ t.station = s.station ∧ t.record = s.record ∧ t.hot = s.hot
      ∧ t.resetHeld = s.resetHeld ∧ t.pending = s.pending
      ∧ t = Nat.repeat setStageMiss entries.2 (watchOwn i v (publishUpdate i entries.1))
      ∧ ((∀ n, ¬hears s n) → entries = (stored, 0))
      ∧ (queued ∨ asks → publishUpdate i stored = publishRequest i stored)
      ∧ (¬queued → ¬asks → publishUpdate i stored = stored)
      ∧ ((∀ w ∈ s.link.watch, ¬(s.bus.number = some w.station ∧ w.index = i.val)) →
          watchOwn i v s = s)
      ∧ (watchDistinct s.link.watch → watched → w.hold = .stopped →
          watchOwn i v s = tell 3 (.telemetry w.station i.val v) (hold (.running false)))
      ∧ (watchDistinct s.link.watch → watched → w.hold = .running d →
          watchOwn i v s = hold (.running true))

/-- R94 to R96: SetEntryRoute, SetEntryTransform, SetEntryClamp, SetEntryStale and SetEntryTrigger, by
the entry's state. (That BadState comes before BadArgument for SetEntryStale on a Free entry, and
BadArgument before BadState for an invalid route of an acting entry, is the model's reading,
assumption 20.) -/
def Obligations.EntrySettings : Prop :=
  ∀ (via : Via) (n : Fin 16) (a b k i : Nat) (x y : Int) (r : Route) (fb : Option Int) (s : State),
    s.resetHeld = [] →
    let e := s.entry n
    let free := e.state = .free
    let acts := e.state = .enabled ∨ e.state = .stale
    let rests := e.state = .disabled ∨ e.state = .suspended
    let trigger := fun d : Destination => d = .goTrigger d.indexCode
    let fits := 1 ≤ r.source ∧ r.source ≤ 14
      ∧ (trigger r.dest → 1 ≤ r.dest.indexCode ∧ r.dest.indexCode ≤ 7)
    let route := Instr.setEntryRoute via n.val r.source r.signal.val r.dest.kindCode
      r.dest.indexCode
    let is := fun (c : Instr) (z : Entry) =>
      exec c s = ends (answered via (done (s.setEntry n z)))
    let refused := fun (c : Instr) (z : Result) => exec c s = ends (answered via (refuse z s))
    let wide := clampI (-32768) 32767
    let was := e.route.any fun r => r.dest.isTrigger
    let timed := { e with timeout := clampN 0 2550 (10 * a) }
    let bad := a = 0 ∨ 14 < a ∨ 15 < b ∨ 5 < k ∨ (k ≤ 2 ∧ 3 < i)
      ∨ ((k = 3 ∨ k = 4) ∧ (i = 0 ∨ 3 < i)) ∨ (k = 5 ∧ (i = 0 ∨ 7 < i))
    (bad → refused (.setEntryRoute via n.val a b k i) .badArgument)
      ∧ (fits → acts → refused route .badState)
      ∧ (fits → free → trigger r.dest →
          is route { e with state := .disabled, route := some r, trigger := some 0, armed := true })
      ∧ (fits → free → ¬trigger r.dest → is route { e with state := .disabled, route := some r })
      ∧ (fits → rests → trigger r.dest → was = false →
          is route { e with route := some r, lastInput := none, lastOutput := none,
                            trigger := some 0, armed := true })
      ∧ (fits → rests → trigger r.dest → was = true →
          is route { e with route := some r, lastInput := none, lastOutput := none })
      ∧ (fits → rests → ¬trigger r.dest →
          is route { e with route := some r, lastInput := none, lastOutput := none,
                            trigger := none })
      ∧ (free → refused (.setEntryTransform via n.val x y) .badState
          ∧ refused (.setEntryClamp via n.val x y) .badState
          ∧ refused (.setEntryStale via n.val a b fb) .badState
          ∧ refused (.setEntryTrigger via n.val x) .badState)
      ∧ (¬free → is (.setEntryTransform via n.val x y) { e with weight := wide x, offset := wide y })
      ∧ (acts → wide y < wide x → refused (.setEntryClamp via n.val x y) .badRange)
      ∧ (¬free → ¬(acts ∧ wide y < wide x) →
          is (.setEntryClamp via n.val x y) { e with lower := wide x, upper := wide y })
      ∧ (¬free → is (.setEntryStale via n.val a 0 fb)
          { timed with staleAction := .hold, fallback := none })
      ∧ (¬free → is (.setEntryStale via n.val a 1 (some x))
          { timed with staleAction := .fallback, fallback := some (wide x) })
      ∧ (¬free → refused (.setEntryStale via n.val a 1 none) .badArgument)
      ∧ (¬free → 1 < b → refused (.setEntryStale via n.val a b fb) .badArgument)
      ∧ (¬free → was = true → is (.setEntryTrigger via n.val x) { e with trigger := some (wide x) })
      ∧ (¬free → was = false → refused (.setEntryTrigger via n.val x) .badArgument)

/-- R103 to R105, R107, R187, R19, R79, R80, R125: Enable with its checks in their order, Disable, Free and
QueryEntry, with what each does to the destination, also while Halting: a bind cuts the note that sounds
short, and at the end of a binding the tone enters Release and the voice chooses from its queue (R72, R74).
The model's choices: what an absent field of the QueryEntry reply shows (assumption 1), the unit of its
stale timeout (assumption 34), its weight, offset, clamps, fallback, trigger level, last input and last
output go in two's complement (assumption 49), a Rest that a bind cuts short ends at once (assumption 7), a
note or a tone with a release time of 0 ends with the command itself, also between samples (assumption 48),
the envelope takes the start level as the Release is entered (assumption 46), and a voice-idle report carries the notes
left (assumption 31). -/
def Obligations.EnableDisableFree : Prop :=
  ∀ (via : Via) (n : Fin 16) (r : Route) (p : Fin 4) (v : Fin 3) (note : Note) (notes : List Note)
    (s : State),
    s.resetHeld = [] →
    let e := s.entry n
    let x := s.port p
    let enable := Instr.enable via n.val
    let disable := Instr.disable via n.val
    let free := Instr.free via n.val
    let refused := fun (c : Instr) (z : Result) => exec c s = ends (answered via (refuse z s))
    let acts := e.state = .enabled ∨ e.state = .stale
    let rests := (e.state = .disabled ∨ e.state = .suspended) ∧ e.route = some r
    let motor := r.dest = .motorPower p ∨ r.dest = .motorSpeed p ∨ r.dest = .motorPosition p
    let ordered := e.lower ≤ e.upper
    let running := s.halt.state = .running
    let lacks := (r.dest = .motorSpeed p ∨ r.dest = .motorPosition p)
      ∧ (x.kind = .plain ∨ x.encoderLost = true)
    let taken := ∃ m, m ≠ n ∧ (s.entry m).acting = true
      ∧ ∃ r' ∈ (s.entry m).route, r.dest.conflicts r'.dest = true
    let on := { e with
      state := .enabled, armed := true, age := if e.timeout = 0 then none else some e.timeout }
    let off := { e with state := .disabled, age := none }
    let passes := rests ∧ ordered ∧ ¬taken
    let y := { x with source := .listen n, stallYielded := false, patternDone := false }
    let bound :=
      if r.dest = .motorPower p then
        if x.mode = .power then y
        else { y.enter .power with target := 0, duty := 0, bridge := .driven }
      else if r.dest = .motorSpeed p then
        if x.mode = .speed then y
        else { y.enter .speed with target := clampAbs 1500 x.speed }
      else if x.mode = .position then y
      else { y.enter .position with
        target := x.position,
        reference := if x.periodCode = 0 then x.position else (y.enter .position).reference }
    let coasted := { x.enter .coast with source := .command }
    let w := s.voice v
    let inAttackOrSustain := w.state = .attack ∨ w.state = .sustain
    let tone := w.sound = some .tone ∧ inAttackOrSustain
    let level := if w.state = .sustain then 256 else w.env
    let released := fun z : Voice => { z with
      state := .release, releaseStart := some level, env := level, phaseTime := 0,
      phaseMs := w.releaseMs }
    let silenced := fun z : Voice => { z with sound := none, env := 0, releaseStart := none }
    let bind := fun z : Voice => { z with pitchSource := .listen n, boundPitch := none }
    let own := fun z : Voice => { z with pitchSource := .own }
    let waiting := { silenced (own w) with state := .waiting }
    let binds := fun z : Voice =>
      exec enable s = ends (answered via (done ((s.setEntry n on).setVoice v z)))
    let releases := fun P : State → Outcome → Prop =>
      P (s.setEntry n off) (exec disable s) ∧ P (s.setEntry n Entry.fresh) (exec free s)
    let gives := fun z : Voice =>
      releases fun t o => o = ends (answered via (done (t.setVoice v z)))
    let unbinds := acts ∧ e.route = some r ∧ r.dest = .voicePitch v ∧ w.pitchSource = .listen n
    let chooses := (w.state = .idle ∨ (tone ∧ w.releaseMs = 0)) ∧ running ∧ w.queue = note :: notes
    let elsewhere := (r.dest = .voicePitch v ∧ w.pitchSource ≠ .listen n)
      ∨ (r.dest = .voiceVolume v ∧ w.volumeSource ≠ .listen n)
    let onPLL := s.clock.state = .onPLL
    let toldIdle := tell 2 (.progress true (v.val + 1) w.queue.length) s
    let shownAs := fun (f : AbsentField) (v : Option Int) => v.getD (Config.absentValue f)
    let route := fun f : Route → Nat => e.route.map fun r => (f r : Int)
    let flag := fun (b : Bool) (weight : Nat) => if b then weight else 0
    (e.state = .free → refused enable .badState ∧ refused disable .badState
        ∧ exec free s = ends (answered via (done s)))
      ∧ (acts → exec enable s = ends (answered via (done s)))
      ∧ (rests → ¬ordered → refused enable .badRange)
      ∧ (rests → ordered → motor → ¬running → refused enable .halted)
      ∧ (rests → ordered → motor → running → x.kind = .none → refused enable .wrongKind)
      ∧ (rests → ordered → motor → running → x.kind ≠ .none → lacks → refused enable .noEncoder)
      ∧ (rests → ordered → motor → running → x.kind ≠ .none → ¬lacks → taken →
          refused enable .destinationTaken)
      ∧ (rests → ordered → r.dest = .voicePitch v ∨ r.dest = .voiceVolume v → taken →
          refused enable .destinationTaken)
      ∧ (passes → motor → running → x.kind ≠ .none → ¬lacks →
          ∃ t, exec enable s = ends (answered via (done t))
            ∧ (t.port p).source = .listen n ∧ (t.port p).mode = bound.mode
            ∧ (t.port p).stallYielded = false ∧ (t.port p).patternDone = false
            ∧ (x.stallYielded = false → x.patternDone = false →
                t = putPort p bound (s.setEntry n on)))
      ∧ (passes → r.dest = .voicePitch v → inAttackOrSustain → w.sound = some (.note note) →
          note.rest = false → w.releaseMs ≠ 0 → binds (released (bind w)))
      ∧ (passes → r.dest = .voicePitch v → inAttackOrSustain → w.sound = some (.note note) →
          note.rest = true ∨ w.releaseMs = 0 →
          ∃ t, exec enable s = ends (answered via (done t)) ∧ t.entry n = on
            ∧ t.voice v = { silenced (bind w) with state := .idle } ∧ t.link = toldIdle.link)
      ∧ (passes → r.dest = .voicePitch v →
          ¬inAttackOrSustain ∨ (∀ k, w.sound ≠ some (.note k)) → binds (bind w))
      ∧ (passes → r.dest = .voiceVolume v →
          exec enable s = ends (answered via (done ((s.setEntry n on).setVoice v
            { s.voice v with volumeSource := .listen n }))))
      ∧ (passes → r.dest = .goTrigger r.dest.indexCode →
          exec enable s = ends (answered via (done (s.setEntry n on))))
      ∧ (e.state = .disabled ∨ e.state = .suspended →
          exec disable s = ends (answered via (done (s.setEntry n off)))
            ∧ exec free s = ends (answered via (done (s.setEntry n Entry.fresh))))
      ∧ (acts → e.route = some r → motor → x.source = .listen n → s.halt.state ≠ .halting →
          exec disable s = ends (answered via (done (putPort p coasted (s.setEntry n off))))
            ∧ exec free s = ends (answered via (done (putPort p coasted (s.setEntry n Entry.fresh)))))
      ∧ (acts → e.route = some r → motor → x.source = .listen n → s.halt.state = .halting →
          (∃ t, exec disable s = ends (answered via (done t)) ∧ t.entry n = off
              ∧ t.port p = coasted ∧ t.halt.settled[p] = true
              ∧ ((∀ q : Fin 4, q ≠ p → s.halt.settled[q] = true) →
                  t.halt.state = .halted ∧ t.halt.safeTimer = none
                    ∧ getBits 0 2 (t.signal 15).value = 2)
              ∧ ((∃ q : Fin 4, q ≠ p ∧ s.halt.settled[q] = false) →
                  t = putPort p coasted (s.setEntry n off)))
            ∧ ∃ t, exec free s = ends (answered via (done t)) ∧ t.entry n = Entry.fresh
              ∧ t.port p = coasted ∧ t.halt.settled[p] = true)
      ∧ (acts → e.route = some r → motor → x.source ≠ .listen n →
          exec disable s = ends (answered via (done (s.setEntry n off)))
            ∧ exec free s = ends (answered via (done (s.setEntry n Entry.fresh))))
      ∧ (acts → e.route = some r → r.dest = .voiceVolume v → (s.voice v).volumeSource = .listen n →
          let y := { s.voice v with volumeSource := .own }
          exec disable s = ends (answered via (done ((s.setEntry n off).setVoice v y)))
            ∧ exec free s = ends (answered via (done ((s.setEntry n Entry.fresh).setVoice v y))))
      ∧ (unbinds → w.state ≠ .idle → ¬tone → gives (own w))
      ∧ (unbinds → tone → w.releaseMs ≠ 0 → gives (released (own w)))
      ∧ (unbinds → tone → w.releaseMs = 0 → w.queue = [] ∨ ¬running →
          releases fun t o => ∃ t', o = ends (answered via (done t')) ∧ t'.entry n = t.entry n
            ∧ t'.voice v = { silenced (own w) with state := .idle } ∧ t'.link = toldIdle.link)
      ∧ (unbinds → w.state = .idle → w.queue = [] → gives (own w))
      ∧ (unbinds → w.state = .idle → ¬running → w.queue ≠ [] →
          gives { silenced (own w) with state := .idle })
      ∧ (unbinds → chooses → s.audio.gate = .starting ∨ (s.audio.gate = .off ∧ ¬onPLL) →
          gives waiting)
      ∧ (unbinds → chooses → s.audio.gate = .off → onPLL →
          releases fun t o => o = ends (answered via (done ((t.setVoice v waiting).setAudio
            { s.audio with gate := .starting, startTimer := some 2 }))))
      ∧ (unbinds → chooses → s.audio.gate = .on →
          releases fun t o => ∃ t', o = ends (answered via (done t')) ∧ t'.entry n = t.entry n
            ∧ (t'.voice v).sound = some (.note note) ∧ (t'.voice v).queue = notes
            ∧ (t'.voice v).pitchSource = .own
            ∧ (t'.voice v).state = if note.rest = true ∨ w.attackMs = 0 then .sustain else .attack)
      ∧ (acts → e.route = some r → elsewhere →
          exec disable s = ends (answered via (done (s.setEntry n off)))
            ∧ exec free s = ends (answered via (done (s.setEntry n Entry.fresh))))
      ∧ (acts → e.route = some r → r.dest = .goTrigger r.dest.indexCode →
          exec disable s = ends (answered via (done (s.setEntry n off)))
            ∧ exec free s = ends (answered via (done (s.setEntry n Entry.fresh))))
      ∧ exec (.queryEntry via n.val) s = ends (answered via (doneWith
          [charsOf 1 (match e.state with
             | .free => 0 | .disabled => 1 | .enabled => 2 | .stale => 3 | .suspended => 4),
           charsOf 1 (shownAs .sourceStation (route fun r => r.source)),
           charsOf 1 (shownAs .signalIndex (route fun r => r.signal.val)),
           charsOf 1 (shownAs .destinationKind (route fun r => r.dest.kindCode)),
           charsOf 1 (shownAs .destinationIndex (route fun r => r.dest.indexCode)),
           charsOf 2 e.weight, charsOf 2 e.offset, charsOf 2 e.lower, charsOf 2 e.upper,
           charsOf 1 ((e.timeout / 10 : Nat) : Int),
           charsOf 1 (if e.staleAction = .hold then 0 else 1),
           charsOf 2 (shownAs .fallback e.fallback), charsOf 2 (shownAs .triggerLevel e.trigger),
           charsOf 1 ((flag e.armed 1 + flag e.age.isSome 2 + flag e.route.isSome 4
             + flag e.fallback.isSome 8 + flag e.trigger.isSome 16 + flag e.lastInput.isSome 32
             + flag e.lastOutput.isSome 64 : Nat) : Int),
           charsOf 2 (shownAs .lastInput e.lastInput),
           charsOf 2 (shownAs .lastOutput e.lastOutput)] s))

/-- R99: the transform: scaled is v × weight / 256 to the nearest integer, a tie away from zero, within
±4,194,304; the sum with the offset is clamped by the entry, then by Table 5-7. -/
def Obligations.TransformStages : Prop :=
  ∀ (e : Entry) (v : Int) (p : Fin 4) (u : Fin 3) (g : Nat),
    let product := v * e.weight
    let scaled := roundDiv product 256
    let clamped := clampI e.lower e.upper (e.offset + scaled)
    2 * (scaled * 256 - product).natAbs ≤ 256
      ∧ (2 * (scaled * 256 - product).natAbs = 256 → product.natAbs ≤ (scaled * 256).natAbs)
      ∧ (-32768 ≤ v → v ≤ 32767 → -32768 ≤ e.weight → e.weight ≤ 32767 →
          product.natAbs ≤ 1073741824 ∧ scaled.natAbs ≤ 4194304)
      ∧ (e.lower ≤ e.upper → e.lower ≤ clamped ∧ clamped ≤ e.upper
          ∧ (e.lower ≤ e.offset + scaled → e.offset + scaled ≤ e.upper →
              clamped = e.offset + scaled)
          ∧ (e.offset + scaled < e.lower → clamped = e.lower)
          ∧ (e.upper < e.offset + scaled → clamped = e.upper))
      ∧ e.transform (.motorPower p) v = max (-1000) (min 1000 clamped)
      ∧ e.transform (.motorSpeed p) v = max (-1500) (min 1500 clamped)
      ∧ e.transform (.motorPosition p) v = max (-32768) (min 32767 clamped)
      ∧ e.transform (.voicePitch u) v = max 24 (min 108 clamped)
      ∧ e.transform (.voiceVolume u) v = max 0 (min 100 clamped)
      ∧ e.transform (.goTrigger g) v = max (-32768) (min 32767 clamped)

/-- R97, R98, R100, R101, R18, R102: an acting entry takes a value of its route and no other takes it;
what the value does at a port, a voice pitch, a voice volume and a trigger; and the age timer with its
stale actions. That a value leaves a running age timer running when the timeout is 0 (assumption 17), and
that the expiry of a stopped one changes nothing (assumption 5), are the model's choices. -/
def Obligations.EntryTakesValues : Prop :=
  ∀ (n : Fin 16) (r : Route) (src k : Nat) (i : Fin 16) (p : Fin 4) (w : Fin 3) (v fb : Int)
    (s : State),
    s.resetHeld = [] → (s.entry n).route = some r →
    let e := s.entry n
    let x := s.port p
    let running := s.halt.state = .running
    let out := e.transform r.dest v
    let taken := { e with
      lastInput := some v, lastOutput := some out, state := .enabled,
      age := if e.timeout = 0 then e.age else some e.timeout }
    let given := s.setEntry n taken
    let t := takeValue n v s
    let mine := e.acting = true ∧ r.source = src ∧ r.signal = i
    let level := e.trigger.getD 0
    let asked := goRequest r.dest.indexCode (s.setEntry n { taken with armed := false })
    let stale := s.setEntry n { e with state := .stale, age := none }
    let expiry := Instr.ageTimerExpiry n
    let late := fun d : Destination => { e with
      state := .stale, age := none, lastOutput := some (d.clamp fb) }
    let falls := e.age.isSome = true ∧ e.staleAction = .fallback ∧ e.fallback = some fb
    let motor := r.dest = .motorPower p ∨ r.dest = .motorSpeed p ∨ r.dest = .motorPosition p
    let y := s.voice w
    let pitched := r.dest = .voicePitch w ∧ running ∧ y.pitchSource = .listen n
    let bound := { y with boundPitch := some out.toNat }
    let begun := fun (t : State) (value : Int) => (t.voice w).boundPitch = some value.toNat
      ∧ (s.audio.gate = .on → (t.voice w).sound = some .tone
          ∧ (t.voice w).inc = pitchIncrement (.number value.toNat))
      ∧ (s.audio.gate ≠ .on → (t.voice w).state = .waiting)
    let askedLate := goRequest r.dest.indexCode (s.setEntry n { late r.dest with armed := false })
    (mine → offerEntry src i v (s, k) n = (t.1, k + if t.2 then 1 else 0))
      ∧ (¬mine → offerEntry src i v (s, k) n = (s, k))
      ∧ (r.dest ≠ .goTrigger r.dest.indexCode →
          t.1.entry n = taken ∧ t.1.entries = given.entries ∧ t.2 = false)
      ∧ (r.dest = .motorPower p → x.source = .listen n → running → x.mode = .power →
          t.1 = given.setPort p { x with
            target := out, bridge := .driven,
            duty := clampAbs ((min x.dutyLimit s.battery.ceiling : Nat) : Int) out })
      ∧ (r.dest = .motorSpeed p ∨ r.dest = .motorPosition p → x.source = .listen n → running →
          x.mode = .speed ∨ x.mode = .position →
          t.1 = given.setPort p { x with
            target := out, reference := if x.periodCode = 0 then out else x.reference })
      ∧ (motor → ¬running ∨ x.source ≠ .listen n → t.1 = given)
      ∧ (r.dest = .voiceVolume w → running → y.volumeSource = .listen n →
          t.1 = given.setVoice w { y with volumeScale := out.toNat })
      ∧ (r.dest = .voiceVolume w → y.volumeSource ≠ .listen n → t.1 = given)
      ∧ (pitched → y.sound = some .tone →
          t.1 = given.setVoice w { bound with inc := pitchIncrement (.number out.toNat) })
      ∧ (pitched → y.sound ≠ some .tone → y.state ≠ .idle → t.1 = given.setVoice w bound)
      ∧ (pitched → y.sound ≠ some .tone → y.state = .idle → begun t.1 out)
      ∧ (r.dest = .voicePitch w → y.pitchSource ≠ .listen n → t.1 = given)
      ∧ (r.dest = .voicePitch w ∨ r.dest = .voiceVolume w → ¬running → t.1 = given)
      ∧ (r.dest = .goTrigger r.dest.indexCode → level ≤ out → e.armed = true → running →
          t = (asked.1, !asked.2))
      ∧ (r.dest = .goTrigger r.dest.indexCode → level ≤ out → e.armed = true → ¬running →
          t = (s.setEntry n { taken with armed := false }, false))
      ∧ (r.dest = .goTrigger r.dest.indexCode → level ≤ out → e.armed = false →
          t = (given, false))
      ∧ (r.dest = .goTrigger r.dest.indexCode → out < level →
          t = (s.setEntry n { taken with armed := true }, false))
      ∧ (e.age = none → exec expiry s = ends s)
      ∧ (e.age.isSome = true → e.staleAction = .hold → exec expiry s = ends stale)
      ∧ (falls → r.dest = .motorSpeed p ∨ r.dest = .motorPosition p → x.source = .listen n →
          running → x.mode = .speed ∨ x.mode = .position →
          exec expiry s = ends ((s.setEntry n (late r.dest)).setPort p { x with
            target := r.dest.clamp fb,
            reference := if x.periodCode = 0 then r.dest.clamp fb else x.reference }))
      ∧ (falls → r.dest = .motorPower p → x.source = .listen n → running → x.mode = .power →
          exec expiry s = ends ((s.setEntry n (late r.dest)).setPort p { x with
            target := clampAbs 1000 fb, bridge := .driven,
            duty := clampAbs ((min x.dutyLimit s.battery.ceiling : Nat) : Int)
              (clampAbs 1000 fb) }))
      ∧ (falls → ¬running → r.dest ≠ .goTrigger r.dest.indexCode →
          exec expiry s = ends (s.setEntry n (late r.dest)))
      ∧ (falls → motor → x.source ≠ .listen n →
          exec expiry s = ends (s.setEntry n (late r.dest)))
      ∧ (falls → r.dest = .voiceVolume w → running → y.volumeSource = .listen n →
          exec expiry s = ends ((s.setEntry n (late r.dest)).setVoice w
            { y with volumeScale := (clampI 0 100 fb).toNat }))
      ∧ (falls → pitched → y.sound = some .tone →
          exec expiry s = ends ((s.setEntry n (late r.dest)).setVoice w { y with
            boundPitch := some (clampI 24 108 fb).toNat,
            inc := pitchIncrement (.number (clampI 24 108 fb).toNat) }))
      ∧ (falls → pitched → y.sound ≠ some .tone → y.state = .idle →
          ∃ t, exec expiry s = ends t ∧ t.entry n = late r.dest ∧ begun t (clampI 24 108 fb))
      ∧ (falls → r.dest = .goTrigger r.dest.indexCode → r.dest.clamp fb < level →
          exec expiry s = ends (s.setEntry n { late r.dest with armed := true }))
      ∧ (falls → r.dest = .goTrigger r.dest.indexCode → level ≤ r.dest.clamp fb →
          e.armed = true → running →
          exec expiry s = ends (if askedLate.2 then askedLate.1 else setStageMiss askedLate.1))
      ∧ (falls → r.dest = .goTrigger r.dest.indexCode → level ≤ r.dest.clamp fb →
          e.armed = true → ¬running →
          exec expiry s = ends (s.setEntry n { late r.dest with armed := false }))
      ∧ (falls → r.dest = .goTrigger r.dest.indexCode → level ≤ r.dest.clamp fb →
          e.armed = false → exec expiry s = ends (s.setEntry n (late r.dest)))

/-! ### Staging and group start (chapter 6) -/

/-- R109 to R114, R116: Stage with its checks in their order, CancelGroup, Go, and the completion of a Go
frame: what each does to the list, and when stage miss is set and cleared. That a Go takes all the
entries of its group out of the list before the first is handed over is the model's choice
(assumption 35). -/
def Obligations.StagingAndGo : Prop :=
  ∀ (via : Via) (group block windex code : Nat) (args : List Byte) (name : CommandName) (k : Nat)
    (s : State),
    s.resetHeld = [] → 1 ≤ group → group ≤ 7 →
    let c := Instr.stage via group block windex code args
    let refused := fun z : Result => exec c s = ends (answered via (refuse z s))
    let running := s.halt.state = .running
    let new : Staged := ⟨group, block, windex, code, args⟩
    let same := fun x : Staged => x.group = group ∧ x.block = block ∧ x.index = windex
    let named := code / 16 = block ∧ (blockCommands block)[code % 16]? = some name
    let fits := named ∧ IndexInRange block windex ∧ countOk name args.length = true
    let unstageable := name = .stage ∨ name = .cancelGroup ∨ name = .go ∨ name = .halt
      ∨ name = .resume ∨ name = .restart ∨ name = .clockRetry ∨ name = .queryPort
      ∨ name = .querySensor ∨ name = .queryVoice ∨ name = .querySignal ∨ name = .queryEntry
      ∨ name = .queryStation
    let reply := fun (at_ fill : Nat) (l : List Staged) =>
      exec c s = ends (answered via
        (s.setStaging l, some ⟨.staged, [charsOf 1 at_, charsOf 1 fill]⟩))
    let rest := s.staging.filter fun x => x.group != group
    let mine := s.staging.filter fun x => x.group == group
    let go := exec (.go via group) s
    let asked := goRequest group s
    let triggers := ∃ n, (s.entry n).acting = true ∧ ∃ r ∈ (s.entry n).route,
      s.bus.number = some r.source ∧ r.signal = 15
    (¬running → refused .halted ∧ go = ends (answered via (refuse .halted s)))
      ∧ (running → code / 16 ≠ block ∨ (blockCommands block).length ≤ code % 16 →
          refused .badArgument)
      ∧ (running → named → ¬fits ∨ unstageable → refused .badArgument)
      ∧ (running → fits → ¬unstageable → (∃ x ∈ s.staging[k]?, same x) →
          (∀ x ∈ s.staging.take k, ¬same x) →
          reply (k + 1) s.staging.length (s.staging.set k new))
      ∧ (running → fits → ¬unstageable → (∀ x ∈ s.staging, ¬same x) → s.staging.length < 8 →
          reply (s.staging.length + 1) (s.staging.length + 1) (s.staging ++ [new]))
      ∧ (running → fits → ¬unstageable → (∀ x ∈ s.staging, ¬same x) → 8 ≤ s.staging.length →
          refused .stageFull)
      ∧ exec (.cancelGroup via group) s = ends (answered via
          (s.setStaging rest, some ⟨.done, [charsOf 1 mine.length]⟩))
      ∧ (running → asked.2 = true → go = ends (answered via (done asked.1)))
      ∧ (running → asked.2 = false →
          go = ends (answered via (refuse .busFull (setStageMiss asked.1))))
      ∧ (¬running → goApplied group s = s)
      ∧ (running → mine = [] → goApplied group s = clearStageMiss s)
      ∧ (running → goApplied group s = mine.foldl
          (fun s x => carryOut .staged x.block x.index x.code x.args s)
          ((clearStageMiss s).setStaging rest))
      ∧ (running → (∀ x ∈ s.staging, x.block ≠ 6) →
          (goApplied group s).staging = rest ∨ (goApplied group s).staging = [])
      ∧ (setStageMiss s).stageMiss = true
      ∧ (s.stageMiss = false → getBits 7 1 ((setStageMiss s).signal 15).value = 1)
      ∧ (s.stageMiss = true → setStageMiss s = notify 5 0 0 s)
      ∧ (s.stageMiss = false → clearStageMiss s = s)
      ∧ (s.stageMiss = true → clearStageMiss s
          = updateSignal 15 (putBits 7 1 0 (s.signal 15).value) { s with stageMiss := false })
      ∧ (s.stageMiss = true → ¬triggers → (clearStageMiss s).stageMiss = false
          ∧ getBits 7 1 ((clearStageMiss s).signal 15).value = 0)

/-! ### Halt and safe state (chapter 7) -/

/-- R120 to R125, R127, R81, R117, R177: what a cause does that reaches the halt controller: halt entry
from Running, with every port's request and the notice of the halt, or a further cause while Halting or
Halted, which gives no notice. That a Plain port, or one whose encoder is lost, stays in Brake at a ramp
safe action is the model's choice (assumption 43). -/
def Obligations.CausesHaltTheStation : Prop :=
  ∀ (c d : CauseKind) (at_ : Option CausePort) (p : Fin 4) (v : Fin 3) (s : State),
    (∀ p : Fin 4, s.halt.settled[p] = (s.port p).mode.settled) →
    let t := giveCause c at_ s
    let running := s.halt.state = .running
    let x := s.port p
    let coasts := c = .undervoltage
      ∨ ((c = .stall ∨ c = .overcurrent) ∧ at_ = some (.motor p))
    let own := fun y : Port => { y with
      source := if x.source = .pattern then .command else x.source }
    let rampTo := if x.safeAction = .rampUpperThenCoast then x.upper else x.lower
    let ramping := { x.enter .safeRamp with
      captured := some rampTo, target := rampTo, stepTimer := rampPeriod x.periodCode,
      reference := if x.periodCode = 0 then rampTo else (x.enter .safeRamp).reference }
    let ramps := x.safeAction = .rampLowerThenCoast ∨ x.safeAction = .rampUpperThenCoast
    let atRest := ∀ q, (t.port q).mode = .coast ∨ (t.port q).mode = .brake
    let acts := running ∧ ¬coasts ∧ x.kind ≠ .none
    let watches15 := ∃ w ∈ s.link.watch, s.bus.number = some w.station ∧ w.index = 15
    (running →
        t.halt.first = some c ∧ t.halt.firstPort = at_ ∧ t.halt.further = []
          ∧ (atRest → t.halt.state = .halted ∧ t.halt.safeTimer = none)
          ∧ (¬atRest → t.halt.state = .halting ∧ t.halt.safeTimer = some 3000)
          ∧ t.staging = [] ∧ (t.voice v).state = .idle ∧ (t.voice v).queue = []
          ∧ (t.voice v).sound = none ∧ t.audio.speaker = 0
          ∧ (∀ f ∈ t.bus.queue, f.kind ≠ .go)
          ∧ getBits 0 2 (t.signal 15).value = (if t.halt.state = .halted then 2 else 1)
          ∧ getBits 2 4 (t.signal 15).value = c.code)
      ∧ (running → s.link.present = true → ¬watches15 → (s.lane 3).outbound.length < 6 →
          (t.lane 3).outbound.map OutSlot.msg = (s.lane 3).outbound.map OutSlot.msg
            ++ [.notice 0 c.code (causePortCode at_)])
      ∧ (running → s.link.present = true →
          (∃ y ∈ (t.lane 3).outbound, y.msg = .notice 0 c.code (causePortCode at_))
            ∨ (t.lane 3).dropped = true)
      ∧ (¬running → (t.lane 3).outbound.all (fun y => y.msg.isTelemetry
          || (s.lane 3).outbound.any fun z => z.msg == y.msg) = true)
      ∧ (running → s.station.propagateHalt = true → c ≠ .busBreak →
          t.bus.breakSending.isSome = true ∧ t.bus.sending = none ∨ s.bus.breakSending.isSome = true)
      ∧ (running → s.station.propagateHalt = false ∨ c = .busBreak →
          t.bus.breakSending = s.bus.breakSending)
      ∧ (running → coasts → t.port p = own (x.enter .coast))
      ∧ (running → ¬coasts → x.kind = .none → t.port p = own x)
      ∧ (acts → x.safeAction = .coast → t.port p = own (x.enter .coast))
      ∧ (acts → x.safeAction = .brake → t.port p = own (x.enter .brake))
      ∧ (acts → ramps → x.mode = .coast ∨ x.mode = .brake → t.port p = own x)
      ∧ (acts → ramps → x.mode = .power → t.port p = own (x.enter .coast))
      ∧ (acts → ramps → x.mode = .speed ∨ x.mode = .position ∨ x.mode = .pattern →
          x.kind = .plain ∨ x.encoderLost = true → t.port p = own (x.enter .coast))
      ∧ (acts → ramps → x.mode = .speed ∨ x.mode = .position ∨ x.mode = .pattern →
          x.kind = .encoded → x.encoderLost = false → t.port p = own ramping)
      ∧ (¬running →
          t.halt.first = s.halt.first ∧ t.halt.firstPort = s.halt.firstPort
            ∧ (d ∈ t.halt.further ↔ d ∈ s.halt.further ∨ (d = c ∧ s.halt.first ≠ some c))
            ∧ (coasts → (t.port p).mode = .coast) ∧ (¬coasts → t.port p = x)
            ∧ t.staging = s.staging ∧ t.bus.breakSending = s.bus.breakSending
            ∧ (s.halt.state = .halted → t.halt.state = .halted))
      ∧ t.sensors = s.sensors ∧ t.battery = s.battery ∧ t.clock = s.clock ∧ t.hot = s.hot
      ∧ t.station = s.station ∧ t.record = s.record ∧ t.stageMiss = s.stageMiss

/-- R126, R128 to R131, R22, R81, R177: the Halt command and its reply, Resume by the halt state and the
causes present, with its notice and the continuous tone of each pitch-bound voice, and the safe timer.
That a safe timer that is stopped, or that expires while not Halting, changes nothing is the model's
choice (assumption 5). -/
def Obligations.HaltAndResume : Prop :=
  ∀ (via : Via) (p : Fin 4) (n m : Fin 16) (r : Route) (v : Fin 3) (s : State),
    s.resetHeld = [] →
    let h := s.halt
    let resume := Instr.resume via 0
    let held := giveCause .tabletHalt none s
    let active := fun q : Fin 4 => (s.sensor q).active && (s.sensor q).haltInput
    let recorded := fun c : CauseKind => h.first == some c || h.further.contains c
    let sensorPresent := fourPorts.any fun q => active q
      && ((h.first == some .sensorHalt && h.firstPort == some (.sensor q))
        || h.further.contains .sensorHalt)
    let set := 16 * boolNat (recorded .thermal && s.hot)
      + 32 * boolNat (recorded .undervoltage && s.battery.low)
      + 64 * boolNat (recorded .clockLost && s.clock.state != .onPLL)
      + 256 * boolNat sensorPresent
    let x := s.port p
    let motor := r.dest = .motorPower p ∨ r.dest = .motorSpeed p ∨ r.dest = .motorPosition p
    let flagged := ∀ q : Fin 4, h.settled[q] = (s.port q).mode.settled
    let u := s.voice v
    let hears15 := (∃ k, (s.entry k).acting = true ∧ ∃ r ∈ (s.entry k).route,
        s.bus.number = some r.source ∧ r.signal = 15)
      ∨ ∃ w ∈ s.link.watch, s.bus.number = some w.station ∧ w.index = 15
    exec (.halt via 0) s = ends (answered via (doneWith
        [charsOf 1 (causeCode held.halt.first), charsOf 1 (causePortCode held.halt.firstPort),
         charsOf 2 (causeSet held.halt.further)] held))
      ∧ (h.state = .running → exec resume s = ends (answered via (done s)))
      ∧ (h.state = .halting → exec resume s = ends (answered via (refuse .busy s)))
      ∧ (h.state = .halted → set ≠ 0 → exec resume s = ends (answered via
          (s, some ⟨.causeActive, [charsOf 2 set]⟩)))
      ∧ (h.state = .halted → set = 0 →
          ∃ t, exec resume s = ends (answered via (done t))
            ∧ t.halt.state = .running ∧ t.halt.first = none ∧ t.halt.firstPort = none
            ∧ t.halt.further = [] ∧ t.halt.safeTimer = none
            ∧ getBits 0 6 (t.signal 15).value = 0
            ∧ (x.kind = .none → t.port p = x)
            ∧ (x.kind ≠ .none → t.port p = { x.enter .coast with acc := 0, source := .command })
            ∧ (motor → (s.entry n).route = some r → (s.entry n).acting = true →
                (t.entry n).state = .suspended ∧ (t.entry n).age = none)
            ∧ (u.pitchSource = .own → (t.voice v).state = u.state ∧ (t.voice v).sound = u.sound
                ∧ (t.voice v).queue = u.queue)
            ∧ (u.pitchSource = .listen m → u.boundPitch.isSome = true → u.state = .idle →
                (s.audio.gate = .on → (t.voice v).sound = some .tone)
                  ∧ (s.audio.gate ≠ .on → (t.voice v).state = .waiting))
            ∧ (s.link.present = true →
                (∃ y ∈ (t.lane 3).outbound, y.msg = .notice 1 0 0) ∨ (t.lane 3).dropped = true)
            ∧ (s.link.present = true → ¬hears15 → (s.lane 3).outbound.length < 6 →
                (t.lane 3).outbound.map OutSlot.msg
                  = (s.lane 3).outbound.map OutSlot.msg ++ [.notice 1 0 0])
            ∧ t.staging = s.staging ∧ t.clock = s.clock ∧ t.sensors = s.sensors)
      ∧ (h.state ≠ .halting ∨ h.safeTimer = none → exec .safeTimerExpiry s = ends s)
      ∧ (h.state = .halting → h.safeTimer.isSome = true → flagged →
          (∃ q : Fin 4, h.settled[q] = false) →
          ∃ t, exec .safeTimerExpiry s = ends t
            ∧ t.halt.state = .halted ∧ t.halt.safeTimer = none
            ∧ t.halt.first = h.first ∧ t.halt.further = h.further
            ∧ (x.mode.settled = false → t.port p = x.enter .coast)
            ∧ (x.mode.settled = true → t.port p = x))

/-! ### The Station block, the clock unit and resets (chapters 9 and 11) -/

/-- R163, R164, R183, R160: the commands of the Station block, and the reset of a pending Restart: at the
event at which its reply leaves the station, as a message on the UART or as a frame of the bus that is
neither queued nor in transmission any more at the event's end, and at RESTART_RESET. That the reset comes
after the event's other effects and that this row acts whenever a Restart is pending (assumption 11), and
that it changes nothing when none is (assumption 5), are the model's choices. -/
def Obligations.StationCommands : Prop :=
  ∀ (via : Via) (d tk stamp : Nat) (k : Link) (m : SentMessage) (s : State),
    s.resetHeld = [] →
    let restart := Instr.restart via 0
    let retry := Instr.clockRetry via 0
    let pending := fun r : RestartReply =>
      s.setStation { s.station with restartPending := some r }
    let noRestart := s.station.restartPending = none
    let onBus := via = .bus d tk ∧ s.isWithdrawn = false
    let inStation := ∃ f ∈ s.bus.sending.toList ++ s.bus.queue, f.stamp = stamp
    let atOnce := via = .broadcast ∨ (via = .bus d tk ∧ s.isWithdrawn = true)
    let flags := (if s.bus.busErrorSeen then 1 else 0) + (if s.link.present then 2 else 0)
    let cause := (match s.station.resetCause with | .powerOn => 0 | .pin => 1 | .command => 2)
      + if s.station.recordInvalid then 128 else 0
    let fields := [charsOf 1 ((s.bus.number.getD 15 : Nat) : Int), charsOf 4 s.bus.serial.toNat,
      charsOf 1 ((cause : Nat) : Int), charsOf 1 s.clock.state.code,
      charsOf 1 ((s.bus.withdrawn.map WithdrawnCause.bit).sum : Nat),
      charsOf 1 ((flags : Nat) : Int)]
    (s.station.restartPending.isSome = true →
        exec restart s = ends (answered via (refuse .busy s))
          ∧ exec .restartReset s = .next (beginReset .command s))
      ∧ (noRestart → exec .restartReset s = ends s)
      ∧ (noRestart → atOnce → exec restart s = .next (beginReset .command s))
      ∧ (noRestart → via = .tablet d tk →
          exec restart s = ends (tell 1 (.restartReply d tk) (pending .message)))
      ∧ (OutMsg.restartReply d tk).body k = (OutMsg.reply d tk Result.done.code []).body k
      ∧ (noRestart → onBus → s.bus.queue.length < 8 →
          exec restart s = ends (answered via (done (pending (.frame s.bus.nextStamp)))))
      ∧ (noRestart → onBus → 8 ≤ s.bus.queue.length → (∀ f ∈ s.bus.queue, f.kind.code ≤ 3) →
          (∀ f ∈ s.bus.sending.toList ++ s.bus.queue, f.stamp ≠ s.bus.nextStamp) →
          exec restart s = .next (beginReset .command s))
      ∧ (s.link.sending = some m → m.restart = true → s.station.restartPending = some .message →
          exec .uartMessageSent s = .next (beginReset .command s))
      ∧ (s.station.restartPending = some (.frame stamp) →
          (inStation → ends s = .next s) ∧ (¬inStation → ends s = .next (beginReset .command s)))
      ∧ (noRestart ∨ s.station.restartPending = some .message → ends s = .next s)
      ∧ (via ≠ .broadcast → exec (.queryStation via 0) s = ends (answered via
          (doneWith fields (s.setBus { s.bus with busErrorSeen := false }))))
      ∧ exec (.queryStation .broadcast 0) s = ends s
      ∧ (s.clock.state = .onPLL → exec retry s = ends (answered via (done s)))
      ∧ (s.clock.state = .onRCStarting ∨ s.clock.state = .switching →
          exec retry s = ends (answered via (refuse .busy s)))
      ∧ (s.clock.state = .onRCFailed →
          exec retry s = ends (s.setClock ⟨.onRCStarting, .starting, .off, some 20, none, some via⟩))

/-- R180 to R183, Table 11-2, R140, R148, R152, R153, R70, R71: the events of the clock unit: the two-speed start, its
failure, the switch to the PLL with its three reports, the fail-safe monitor, and what the loss of the
audio clock does to the gate and to each voice: on its own, where the voices are, and within the event,
where ClockLost has silenced them first. A clock failure gives BusFull to the origin of every Command frame
in transmission or in the queue, also of one whose 200 ms have passed in transmission. The model's choices:
ClockLost comes before the withdrawal, the break and the audio gate, and the frame in transmission is
dropped before the queued ones, from the head (assumption 13); the speaker's output is 0 from the event itself (assumption 40);
waiting heads of the tablet link are taken last, when the forwarded count has fallen (assumption 14), and
then a Restart whose reply was dropped resets the part (assumption 11); an event out of its state changes
nothing (assumption 5). -/
def Obligations.ClockUnitEvents : Prop :=
  ∀ (v : Fin 3) (s : State),
    s.resetHeld = [] →
    let k := s.clock
    let x := s.voice v
    let sounding := x.state = .attack ∨ x.state = .sustain ∨ x.state = .release
    let listens := ∃ n, x.pitchSource = .listen n
    let toPlay := s.halt.state = .running
      ∧ ((¬listens ∧ x.queue ≠ []) ∨ (listens ∧ x.boundPitch.isSome = true))
    let silenced := { x with sound := none, env := 0, releaseStart := none }
    let starting := k.state = .onRCStarting
    let dropped := (s.bus.sending.toList ++ s.bus.queue).foldl
      (fun t h => if h.kind = .command then reportOrigin h.origin (some .busFull) t else t) s
    let failed := fun t : State =>
      t.clock.state = .onRCFailed ∧ t.clock.crystal = .stopped ∧ t.clock.pll = .off
        ∧ t.clock.startTimer = none ∧ t.clock.edgeMonitor = none
        ∧ t.halt.state ≠ .running
        ∧ (s.halt.state = .running → t.halt.first = some .clockLost)
        ∧ (s.halt.state ≠ .running → s.halt.first ≠ some .clockLost →
            .clockLost ∈ t.halt.further)
    let startFails := fun c : Instr =>
      ∃ t, exec c s = ends t ∧ failed t ∧ t.clock.retry = none
        ∧ t.bus.withdrawn = s.bus.withdrawn
    let lost := fun c : Instr =>
      ∃ t, exec c s = ends (forwardAfter s.link.forwarded t) ∧ failed t
        ∧ t.clock.retry = k.retry
        ∧ .clock ∈ t.bus.withdrawn
        ∧ (s.isWithdrawn = false → t.bus.queue = [] ∧ t.bus.sending = none
            ∧ t.bus.announcePending = false ∧ t.bus.lineFaults = 0
            ∧ getBits 6 1 (t.signal 15).value = 1)
        ∧ (s.isWithdrawn = false → t.lane 1 = dropped.lane 1
            ∧ t.link.forwarded = dropped.link.forwarded)
        ∧ (s.station.propagateHalt = true → t.bus.breakSending.isSome = true)
        ∧ t.audio.gate = .off ∧ (s.audio.gate ≠ .off → t.audio.startTimer = none)
        ∧ (s.halt.state = .running → (t.voice v).state = .idle ∧ (t.voice v).queue = []
            ∧ (t.voice v).sound = none)
        ∧ (s.halt.state ≠ .running → t.voice v =
            if s.audio.gate ≠ .off ∧ sounding then { silenced with state := .idle } else x)
        ∧ getBits 8 1 (t.signal 15).value = 0
    (starting → k.crystal = .starting → exec .crystalDetected s = ends (s.setClock { k with
        crystal := .running, pll := .locking, startTimer := some 10 }))
      ∧ (¬starting ∨ k.crystal ≠ .starting → exec .crystalDetected s = ends s)
      ∧ (starting → k.pll = .locking → exec .pllLock s = ends (s.setClock { k with
          state := .switching, pll := .locked, startTimer := none }))
      ∧ (¬starting ∨ k.pll ≠ .locking → exec .pllLock s = ends s)
      ∧ (starting → k.startTimer.isSome = true → startFails .clockStartTimerExpiry)
      ∧ (¬starting ∨ k.startTimer = none → exec .clockStartTimerExpiry s = ends s)
      ∧ (k.state = .switching → startFails .switchAbandoned)
      ∧ (k.state ≠ .switching → exec .switchAbandoned s = ends s
          ∧ exec .switchComplete s = ends s)
      ∧ (k.state = .switching →
          ∃ t, exec .switchComplete s = ends t
            ∧ t.clock = { k with state := .onPLL, edgeMonitor := some 1, retry := none }
            ∧ t.bus.withdrawn = s.bus.withdrawn.filter (fun d => d != .clock)
            ∧ getBits 8 1 (t.signal 15).value = 1
            ∧ t.halt = s.halt
            ∧ (s.bus.withdrawn = [.clock] → getBits 6 1 (t.signal 15).value = 0
                ∧ ((∃ f ∈ t.bus.queue, f.kind = .announce) ∨ t.bus.announcePending = true))
            ∧ (s.audio.gate = .off → (∃ v, (s.voice v).state = .waiting) →
                t.audio.gate = .starting ∧ t.audio.startTimer = some 2))
      ∧ (k.state = .onPLL → k.edgeMonitor.isSome = true → lost .edgeMonitorExpiry)
      ∧ (k.state ≠ .onPLL ∨ k.edgeMonitor = none → exec .edgeMonitorExpiry s = ends s)
      ∧ (k.state = .onPLL → lost .pllLockLost)
      ∧ (k.state ≠ .onPLL → exec .pllLockLost s = ends s)
      ∧ (s.audio.gate = .off → audioClockLost s = s)
      ∧ (s.audio.gate ≠ .off → k.state ≠ .onPLL →
          (audioClockLost s).audio
              = { s.audio with gate := .off, startTimer := none, stopTimer := none, speaker := 0 }
            ∧ (¬sounding → (audioClockLost s).voice v = x)
            ∧ (sounding → toPlay → (audioClockLost s).voice v = { silenced with state := .waiting })
            ∧ (sounding → ¬toPlay → (audioClockLost s).voice v = { silenced with state := .idle }))

/-- R184, R185, R188, R193: the start record: a record stored whole checks and gives its fields, with a
tune target of 0 read as 1; a code of 3 in a motor kind makes it invalid; so does a store cut short, which
the model keeps as the mark `torn` beside the bytes (its choice, assumption 29), or any one byte of the 30
changed. -/
def Obligations.StartRecordReadsBack : Prop :=
  ∀ (bytes : List Byte) (k : Fin 30) (b : Byte) (r : StartRecord),
    bytes.length = 30 →
    let stored : StartRecord := ⟨recordOf bytes, false⟩
    let n := fun i => (bytes.getD i 0).toNat
    let two := fun (x i : Nat) => x / 4 ^ i % 4
    let motor := fun i : Nat => if two (n 1) i = 0 then MotorKind.none
      else if two (n 1) i = 1 then .plain else .encoded
    let sensor := fun i : Nat => if two (n 2) i = 0 then SensorKind.off
      else if two (n 2) i = 1 then .switch else if two (n 2) i = 2 then .level else .touch
    let flag := fun i : Nat => n 3 / 2 ^ i % 2 == 1
    let target := fun i : Nat => max 1 (n i + 256 * n (i + 1))
    let whole := ∀ i : Fin 4, two (n 1) i ≠ 3
    stored.bytes.length = 32 ∧ stored.checks = true
      ∧ (whole → stored.fields = some ⟨n 0 % 16, #v[motor 0, motor 1, motor 2, motor 3],
          #v[sensor 0, sensor 1, sensor 2, sensor 3], #v[flag 0, flag 1, flag 2, flag 3],
          flag 4, flag 5, 100 * n 4, #v[target 5, target 7, target 9, target 11]⟩)
      ∧ (¬whole → stored.fields = none)
      ∧ (r.torn = true → r.fields = none)
      ∧ (bytes.getD k.val 0 ≠ b →
          (StartRecord.mk (bytes.set k b ++ (recordOf bytes).drop 30) false).fields = none)

/-- R186, R2, R28, R46, R68, R85, R93, R185, R119, R135, R149, R165, R179, R184, R62: a reset begins with
every block at the values of its reset table and the part held; it ends with the reset cause of the kind
that ends last, the record or the straps read, and the battery monitor seeded. The model's choices: what
the image shows during the hold, with its cause and, for an invalid record, the number 0 (assumption 9);
the operands of RESET_END and the hold of a Restart (assumption 10); RESTART_RESET acts whenever a Restart
is pending (assumption 11); an end of a hold that is not there changes nothing (assumption 5); the
thresholds of a sensor port of kind Off or Switch, the phase length and the floating bridge at reset
(assumption 42); the record of a store cut short keeps its old bytes with the mark `torn` (assumption 29); the queued times of frames count from 0 (assumption 4). -/
def Obligations.ResetsSetEveryBlock : Prop :=
  ∀ (kind : ResetKind) (straps : Fin 16) (mv : Nat) (p : Fin 4) (v : Fin 3) (i : Fin 16)
    (s : State),
    let record : StartRecord := ⟨s.record.bytes, s.record.torn || s.link.store.isSome⟩
    let image := fun (t : State) (cause : ResetKind) (number : Nat) (r : StartRecord) =>
      let f := r.fields.getD ⟨number, #v[.encoded, .encoded, .encoded, .encoded],
        #v[.level, .level, .level, .level], #v[false, false, false, false], true, true, 2000,
        #v[2000, 2000, 2000, 2000]⟩
      let named := f.number ≠ 0 ∧ f.number ≠ 15
      let unheard : Signal := ⟨0, .off, 0, 100, none, none⟩
      t.port p = {
          kind := f.motorKinds[p], mode := .coast, source := .command, target := 0, reference := 0,
          position := 0, history := #v[0, 0, 0, 0, 0, 0, 0, 0], speed := 0, acc := 0, duty := 0,
          bridge := .floating, current := 0, posKp := 48, posKi := 2, spdKp := 8, spdKi := 4,
          dutyLimit := 1000, currentLimit := 1500, stallTime := 500, stallPolicy := .halt,
          safeAction := .coast, window := 5, lower := -180, upper := 180, stepCode := 0,
          periodCode := 0, captured := none, illegal := [], overCount := 0, stallCount := 0,
          positionLimit := false, encoderLost := false, stallYielded := false, stepTimer := none,
          waveform := none, pointIndex := 0, startIndex := 0, startPoint := none, cyclesWanted := 0,
          cycleCount := 0, arrived := false, patternDone := false }
        ∧ t.sensor p = {
          kind := f.sensorKinds[p], raw := 0, filt := 0, seeded := false, lta := 0, delta := 0,
          active := false, debounce := 0, length := 3, beta := 2, lbeta := 7,
          threshold := if f.sensorKinds[p] = .touch then 120 else 2048,
          hysteresis := if f.sensorKinds[p] = .touch then 30 else 64, polarity := .rising,
          freezeLevel := 80, frozen := false, freezeTime := 2000, freezeTimer := none, gain := 1,
          offset := 0, tuning := none, tuneTarget := f.tuneTargets[p], tuneResult := .none,
          retryPeriod := 5000, retryTimer := none, haltInput := false,
          tuneAtStart := f.tuneAtStart[p] }
        ∧ t.voice v = {
          state := .idle, queue := [], sound := none, noteTime := 0, phaseTime := 0, phaseMs := 0,
          env := 0, releaseStart := none, acc := 0, inc := 0, lastWave := none, attackMs := 10,
          releaseMs := 50, pitchSource := .own, boundPitch := none, volumeSource := .own,
          volumeScale := 100 }
        ∧ t.audio = {
          master := 80, gate := .off, startTimer := none, stopTimer := none, speaker := 0 }
        ∧ (i ≠ 12 → i ≠ 15 → t.signal i = unheard) ∧ { t.signal 12 with value := 0 } = unheard
        ∧ t.signal 15 = { unheard with value := 64, policy := .onChange }
        ∧ t.entry i = {
          state := .free, route := none, weight := 256, offset := 0, lower := -32768,
          upper := 32767, timeout := 0, staleAction := .hold, fallback := none, trigger := none,
          armed := true, lastInput := none, lastOutput := none, age := none }
        ∧ t.staging = [] ∧ t.stageMiss = false
        ∧ t.halt = {
          state := .running, first := none, firstPort := none, further := [],
          settled := #v[true, true, true, true], safeTimer := none }
        ∧ t.bus = {
          number := if named then some f.number else none, serial := s.bus.serial, queue := [],
          sending := none, lineFaults := 0,
          withdrawn := if named then [.clock] else [.clock, .unnumbered],
          announcePending := false, busErrorSeen := false, receiver := .hunting,
          breakSending := none, breakCount := 0, nextStamp := 0 }
        ∧ { t.link with lanes := s.link.lanes } = {
          present := false, timer := none, timeout := f.linkTimeout, haltOnLoss := f.haltOnLoss,
          receiver := .hunting, lanes := s.link.lanes, watchFull := false, badSeen := false,
          watch := [], forwarded := 0, store := none, sending := none }
        ∧ t.lane p = {
          inbound := [], outbound := [], overrun := false, dropped := false, mode := .immediate,
          interval := 100, timer := none }
        ∧ t.clock = {
          state := .onRCStarting, crystal := .starting, pll := .off, startTimer := some 20,
          edgeMonitor := none, retry := none }
        ∧ t.station = ⟨cause, r.fields.isNone, none, f.propagateHalt⟩ ∧ t.hot = false
        ∧ t.record = r ∧ t.pending = s.pending
    let begins := fun (c : Instr) (k : ResetKind) =>
      ∃ t, exec c s = .next t ∧ image t k 0 record ∧ k ∈ t.resetHeld
        ∧ ∀ j ∈ s.resetHeld, j ∈ t.resetHeld
    let ceiling := if 7200 ≤ mv then 1000 else if mv < 6000 then 400
      else 400 + (mv - 6000) * 600 / 1200
    let percentage := if 7200 ≤ mv then 100 else if mv < 6000 then 40
      else 40 + (mv - 6000) * 60 / 1200
    let others := s.resetHeld.filter fun k => k != kind
    begins .powerOnReset .powerOn ∧ begins .resetPin .pin
      ∧ (s.resetHeld = [] → s.station.restartPending.isSome = true → begins .restartReset .command)
      ∧ (kind ∉ s.resetHeld → exec (.resetEnd kind straps mv) s = .next s)
      ∧ (kind ∈ s.resetHeld → others ≠ [] →
          exec (.resetEnd kind straps mv) s = .next { s with resetHeld := others })
      ∧ (kind ∈ s.resetHeld → others = [] →
          ∃ t, exec (.resetEnd kind straps mv) s = .next t ∧ image t kind straps.val s.record
            ∧ t.resetHeld = []
            ∧ t.battery.filtered = mv ∧ t.battery.ceiling = ceiling
            ∧ t.battery.percentage = percentage ∧ t.battery.low = false
            ∧ (t.signal 12).value = min mv 32767)

/-! ### The tablet link (chapter 10) -/

/-- R168, R171, R174, R175, R185: the messages of the tablet link taken at the head of their lanes, and
the end of a store. The model's choices: the store's reply of an unnumbered station names 15
(assumption 12); WatchRemove compares its numbers as given (assumption 25); these rows act as messages at
the head of their lane (assumption 36); the end of a write with no store under way changes nothing
(assumption 5); the lane interval counts units of 10 ms (assumption 34). -/
def Obligations.LinkMessages : Prop :=
  ∀ (l : Fin 4) (lane mode interval token station index : Nat) (bytes : List Byte) (job : StoreJob)
    (s : State),
    s.resetHeld = [] →
    let k := s.link
    let x := s.lane l
    let bad : Outcome := ends (s.setLink { k with badSeen := true })
    let ms := clampN 10 2550 (10 * interval)
    let released := fun q : List OutSlot => q.map fun y => { y with released := true }
    let zero := s.lane 0
    let waits := ∃ y ∈ zero.outbound, y.msg = .status
    let st := clampN 1 14 station
    let ix := clampN 0 15 index
    let listed := ∃ w ∈ k.watch, w.station = st ∧ w.index = ix
    let c := Instr.setLaneMode l.val mode interval
    let store := Instr.storeStartRecord token bytes
    let answer := fun (tk : Nat) (r : Result) (t : State) =>
      tell 1 (.reply (s.bus.number.getD 15) tk r.code []) t
    (k.present = true → ¬waits → zero.outbound.length < 6 → zero.mode ≠ .batched →
        exec .statusRequest s = ends (s.setLane 0
          { zero with outbound := zero.outbound ++ [⟨.status, true⟩] }))
      ∧ (waits → exec .statusRequest s = ends (s.setLane 0 { zero with
          outbound := zero.outbound.map fun y =>
            if y.msg = .status then { y with released := true } else y }))
      ∧ (k.present = false → ¬waits → exec .statusRequest s = ends s)
      ∧ (mode = 0 → exec c s = ends (s.setLane l
          { x with mode := .immediate, outbound := released x.outbound, timer := none }))
      ∧ (mode = 1 → exec c s = ends (s.setLane l
          { x with mode := .batched, interval := ms, timer := some ms }))
      ∧ (mode = 2 → exec c s = ends (s.setLane l { x with mode := .quiet, timer := none }))
      ∧ (4 ≤ lane ∨ 3 ≤ mode → exec (.setLaneMode lane mode interval) s = bad)
      ∧ exec (.pullLane l.val) s = ends (s.setLane l { x with outbound := released x.outbound })
      ∧ (4 ≤ lane → exec (.pullLane lane) s = bad)
      ∧ (listed → exec (.watchAdd station index) s = ends s)
      ∧ (¬listed → k.watch.length < 8 → exec (.watchAdd station index) s
          = ends (s.setLink { k with watch := k.watch ++ [⟨st, ix, .stopped⟩] }))
      ∧ (¬listed → 8 ≤ k.watch.length → exec (.watchAdd station index) s
          = ends (s.setLink { k with watchFull := true }))
      ∧ exec (.watchRemove station index) s = ends (s.setLink { k with
          watch := k.watch.filter fun w => w.station != station || w.index != index })
      ∧ exec .watchClear s = ends (s.setLink { k with watch := [] })
      ∧ (bytes.length = 30 → k.store = none →
          exec store s = ends (s.setLink { k with store := some ⟨token, bytes⟩ }))
      ∧ (bytes.length = 30 → k.store.isSome = true →
          exec store s = ends (answer token .busy s))
      ∧ (bytes.length ≠ 30 → exec store s = bad)
      ∧ (k.store = none → exec .storeWriteDone s = ends s)
      ∧ (k.store = some job → exec .storeWriteDone s = ends (answer job.token .done
          { s.setLink { k with store := none } with record := ⟨recordOf job.bytes, false⟩ }))

/-- R166 to R171, R175, R178, R188, R190, Table 12-4: the tablet receiver: a message reads as it was framed;
a valid one joins its lane, or is dropped from a full one, and its head is taken, by the body its message
has, or waits; a body that names no message of its lane, or has the wrong length, sets BadMessageSeen; what
is not valid; gaps and stray characters; a message for the tablet is framed as one from it. The model's
choices: a message whose characters do not check is a bad one, no row enters InMessage, and a gap tells by
its operand whether it falls inside a message (assumption 33); the rows of lanes 0 and 3 and of the store
are those messages at the head of their lane (assumption 36); the lengths of a Command-lane body, and its
types above 1 (assumption 24); which index outside 1..3 a remote Note with a voice byte above 15 carries
(assumption 2). -/
def Obligations.TabletReceiverTakesMessages : Prop :=
  ∀ (l : Fin 4) (body : List Byte) (flip : Byte) (why : BadMessage) (dest bi code token : Byte)
    (args : List Byte) (v : Fin 3) (voice : Byte) (s : State),
    s.resetHeld = [] → body.length ≤ 32 → args.length ≤ 9 → dest.toNat < 16 →
    let header := fun (lane n : Nat) => BitVec.ofNat 8 (64 * lane + n)
    let framed := fun (lane : Nat) (b : List Byte) =>
      0x7E#8 :: (header lane b.length :: b) ++ [crc8 (header lane b.length :: b)]
    let torn := 0x7E#8 :: (header l.val body.length :: body)
      ++ [crc8 (header l.val body.length :: body) ^^^ flip]
    let k := s.link
    let present := s.setLink { k with
      receiver := .ready, present := true,
      timer := if k.timeout = 0 then none else some k.timeout }
    let marked := fun r : TabletReceiver =>
      (ends (s.setLink { k with badSeen := true, receiver := r }) : Outcome)
    let hunting := k.receiver = .hunting
    let inbound := (s.lane l).inbound
    let command := dest :: bi :: code :: token :: args
    let onCommand := exec (.tabletMessageValid (framed 1 command)) s
    let note := dest :: BitVec.ofNat 8 (v.val + 1) :: token :: args
    let onSound := exec (.tabletMessageValid (framed 2 note)) s
    let onVoice := exec (.tabletMessageValid (framed 2 (dest :: voice :: token :: args))) s
    let asNote := fun index : Nat => (ends
      (commandRequest ⟨dest.toNat, token.toNat⟩ (48 + index) 48 args present) : Outcome)
    let alone := fun lane : Fin 4 => (s.lane lane).inbound = []
    let here := dest = 15#8 ∨ s.bus.number = some dest.toNat
    let queued := fun (lane : Fin 4) (b : List Byte) =>
      present.setLane lane { s.lane lane with inbound := [b] }
    let taken := fun (lane : Fin 4) (b : List Byte) (c : Instr) =>
      ¬hunting → alone lane → exec (.tabletMessageValid (framed lane.val b)) s = exec c present
    let size := body.length
    let type := (body.getD 0 0).toNat
    let names := (l = 0 ∧ ((type = 0 ∧ size = 1) ∨ (type = 1 ∧ size = 4) ∨ (type = 2 ∧ size = 2)))
      ∨ (l = 1 ∧ ((type < 16 ∧ 4 ≤ size ∧ size ≤ 13) ∨ (16 ≤ type ∧ type < 32 ∧ size = 32)))
      ∨ (l = 2 ∧ size = 9)
      ∨ (l = 3 ∧ ((type ≤ 1 ∧ size = 3) ∨ (type = 2 ∧ size = 1)))
    readMessage (framed l.val body) = some (l, body)
      ∧ frameMessage l body = framed l.val body
      ∧ (hunting → exec (.tabletMessageValid (framed l.val body)) s = ends s)
      ∧ (¬hunting → flip ≠ 0#8 → exec (.tabletMessageValid torn) s = marked .hunting)
      ∧ (¬hunting → 6 ≤ inbound.length → exec (.tabletMessageValid (framed l.val body)) s
          = ends (present.setLane l { s.lane l with overrun := true }))
      ∧ (¬hunting → inbound.length < 6 → exec (.tabletMessageValid (framed l.val body)) s
          = ends (drainLane l (present.setLane l { s.lane l with inbound := inbound ++ [body] })))
      ∧ (¬hunting → alone 1 → here → onCommand = ends (carryOut (.tablet dest.toNat token.toNat)
          (bi.toNat / 16) (bi.toNat % 16) code.toNat args present))
      ∧ (¬hunting → alone 1 → ¬here → k.forwarded < 2 → onCommand = ends
          (commandRequest ⟨dest.toNat, token.toNat⟩ bi.toNat code.toNat args present))
      ∧ (¬hunting → alone 1 → ¬here → 2 ≤ k.forwarded → onCommand = ends (queued 1 command))
      ∧ (¬hunting → alone 2 → args.length = 6 → here → (s.voice v).queue.length < 8 →
          onSound = ends (carryOut (.tablet dest.toNat token.toNat) 3 (v.val + 1) 48 args present))
      ∧ (¬hunting → alone 2 → args.length = 6 → here → 8 ≤ (s.voice v).queue.length →
          onSound = ends (queued 2 note))
      ∧ (¬hunting → alone 2 → args.length = 6 → ¬here → k.forwarded < 2 → voice.toNat < 16 →
          onVoice = asNote voice.toNat)
      ∧ (¬hunting → alone 2 → args.length = 6 → ¬here → k.forwarded < 2 → 16 ≤ voice.toNat →
          ∃ index : Fin 16, (index.val = 0 ∨ 4 ≤ index.val) ∧ onVoice = asNote index.val)
      ∧ taken 0 [0#8] .statusRequest
      ∧ taken 0 [1#8, bi, code, token] (.setLaneMode bi.toNat code.toNat token.toNat)
      ∧ taken 0 [2#8, bi] (.pullLane bi.toNat)
      ∧ taken 3 [0#8, bi, code] (.watchAdd bi.toNat code.toNat)
      ∧ taken 3 [1#8, bi, code] (.watchRemove bi.toNat code.toNat)
      ∧ taken 3 [2#8] .watchClear
      ∧ (body.length = 30 → taken 1 (BitVec.ofNat 8 (16 + dest.toNat) :: token :: body)
          (.storeStartRecord token.toNat body))
      ∧ (¬hunting → alone l → ¬names → exec (.tabletMessageValid (framed l.val body)) s
          = ends (present.setLink { present.link with badSeen := true }))
      ∧ (hunting → exec (.tabletMessageBad why) s = ends s)
      ∧ (¬hunting → why = .shortBody → exec (.tabletMessageBad why) s = marked .ready)
      ∧ (¬hunting → why ≠ .shortBody → exec (.tabletMessageBad why) s = marked .hunting)
      ∧ (hunting → exec (.tabletRxQuietGap false) s = ends (s.setLink { k with receiver := .ready }))
      ∧ (k.receiver = .ready → exec (.tabletRxQuietGap false) s = ends s
          ∧ exec (.tabletRxQuietGap true) s = marked .ready
          ∧ exec (.tabletRxStrayCharacter false) s = marked .hunting)
      ∧ (k.receiver = .inMessage → exec (.tabletRxQuietGap false) s = marked .ready
          ∧ exec (.tabletRxStrayCharacter false) s = ends s)
      ∧ (hunting → exec (.tabletRxStrayCharacter false) s = ends s)
      ∧ exec (.tabletRxStrayCharacter true) s = marked .hunting

/-- R169, R170, R172 to R174, R176, R178, R190: waiting heads forwarded and released, how a message joins
its outbound FIFO, with the merge of telemetry and Table 10-4 at a full one, the transmitter's choice of
lane and message and the characters it sends, by the layouts of Table 12-4, the interval timers, the holds of the watch list, and the
loss of the link. The model's choices: waiting heads, notes and the transmitter act at rows of their own
(assumption 15); a stopped timer or hold that expires changes nothing (assumption 5); a full Batched FIFO
that telemetry refills releases all its messages (assumption 26); the reply of a Restart is known again
when it has been sent (assumption 11). -/
def Obligations.LinkTransmitterAndTimers : Prop :=
  ∀ (l : Fin 4) (m : OutMsg) (front back : List OutSlot) (bi code token : Byte) (args : List Byte)
    (dest : Byte) (v : Fin 3) (place station index : Nat) (value : Int) (y : OutSlot) (w : WatchPair)
    (s : State),
    s.resetHeld = [] →
    let k := s.link
    let x := s.lane l
    let start := exec .uartMessageStart s
    let freeBelow := ∀ j, j < l → ∀ y ∈ (s.lane j).outbound, y.released = false
    let chosen := k.sending = none ∧ freeBelow ∧ x.outbound = front ++ ⟨m, true⟩ :: back
      ∧ ∀ y ∈ front, y.released = false
    let command := dest :: bi :: code :: token :: args
    let note := dest :: BitVec.ofNat 8 (v.val + 1) :: token :: args
    let emptied := fun lane : Fin 4 => s.setLane lane { s.lane lane with inbound := [] }
    let remote := dest.toNat < 16 ∧ dest ≠ 15#8 ∧ s.bus.number ≠ some dest.toNat
    let held := fun h : Hold => s.setLink { k with watch := k.watch.set place { w with hold := h } }
    let lost := s.setLink { k with
      present := false, timer := none, lanes := Vector.replicate 4 Lane.fresh, watch := [],
      watchFull := false, badSeen := false }
    let driven := ∃ p, (s.port p).mode = .power ∨ (s.port p).mode = .speed
      ∨ (s.port p).mode = .position ∨ (s.port p).mode = .pattern
    let characters := fun body : List Byte =>
      let header := BitVec.ofNat 8 (64 * l.val + body.length)
      0x7E#8 :: header :: body ++ [crc8 (header :: body)]
    let fill := fun j : Fin 4 => (s.lane j).inbound.length
    let if_ := fun (b : Bool) (n : Nat) => if b then n else 0
    let overs := fun (j : Fin 4) (n : Nat) => if_ (s.lane j).overrun n
    let drop := fun (j : Fin 4) (n : Nat) => if_ (s.lane j).dropped n
    let fills := fill 0 + 8 * fill 1 + 64 * fill 2 + 512 * fill 3
      + overs 0 4096 + overs 1 8192 + overs 2 16384 + overs 3 32768
    let flags := drop 0 1 + drop 1 2 + drop 2 4 + drop 3 8 + if_ k.watchFull 16 + if_ k.badSeen 32
    let byte := fun n : Nat => BitVec.ofNat 8 n
    let layout : OutMsg → List Byte := fun m => match m with
      | .status => [byte fills, byte (fills / 256), byte flags, byte k.forwarded]
      | .reply st tk result data => byte st :: byte tk :: byte result :: data
      | .restartReply st tk => [byte st, byte tk, 0#8]
      | .progress idle voice left => [if idle then 1#8 else 0#8, byte voice, byte left]
      | .telemetry st ix value =>
        [0#8, byte st, byte ix, BitVec.ofInt 8 value, BitVec.ofInt 8 (value / 256)]
      | .notice type first second => [1#8, byte type, byte first, byte second]
    let restarts : Bool := match m with
      | .restartReply .. => true
      | _ => false
    let news := OutMsg.telemetry station index value
    let telemetry : OutSlot → Bool := fun z => match z.msg with
      | .telemetry .. => true
      | _ => false
    let pair : OutSlot → Bool := fun z => match z.msg with
      | .telemetry a b _ => a == station && b == index
      | _ => false
    let q := (s.lane 3).outbound
    let joined := fun (x : Lane) (q : List OutSlot) (m : OutMsg) =>
      if x.mode = .batched ∧ 5 ≤ q.length
      then (q ++ [OutSlot.mk m true]).map fun z => { z with released := true }
      else q ++ [⟨m, x.mode == .immediate⟩]
    (k.present = false → tell l m s = s)
      ∧ (k.present = true → telemetry ⟨m, true⟩ = false → x.outbound.length < 6 →
        tell l m s = s.setLane l { x with outbound := joined x x.outbound m })
      ∧ (k.present = true → telemetry ⟨m, true⟩ = false → 6 ≤ x.outbound.length →
        tell l m s = s.setLane l { x with dropped := true })
      ∧ (k.present = true → q.any pair = true →
        tell 3 news s = s.setLane 3 { s.lane 3 with
          outbound := q.map fun z => if pair z then { z with msg := news } else z })
      ∧ (k.present = true → q.any pair = false → q.length < 6 →
        tell 3 news s = s.setLane 3 { s.lane 3 with outbound := joined (s.lane 3) q news })
      ∧ (k.present = true → q.any pair = false → 6 ≤ q.length → q = front ++ y :: back →
        front.any telemetry = false → telemetry y = true →
        tell 3 news s = s.setLane 3 { s.lane 3 with
          outbound := joined (s.lane 3) (front ++ back) news, dropped := true })
      ∧ (k.present = true → 6 ≤ q.length → q.any telemetry = false →
        tell 3 news s = s.setLane 3 { s.lane 3 with dropped := true })
      ∧ (remote → args.length ≤ 9 → (s.lane 1).inbound = [command] → (s.lane 2).inbound = [] →
        k.forwarded < 2 → exec .forwardWaitingHead s = ends
          (commandRequest ⟨dest.toNat, token.toNat⟩ bi.toNat code.toNat args (emptied 1)))
      ∧ (remote → args.length ≤ 9 → (s.lane 1).inbound = [command] → (s.lane 2).inbound = [] →
          2 ≤ k.forwarded → exec .forwardWaitingHead s = ends s)
      ∧ (dest = 15#8 → args.length = 6 → (s.lane 2).inbound = [note] →
          (s.voice v).queue.length < 8 → exec .soundLaneNoteRelease s = ends
            (carryOut (.tablet 15 token.toNat) 3 (v.val + 1) 48 args (emptied 2)))
      ∧ (dest = 15#8 → args.length = 6 → (s.lane 2).inbound = [note] →
          8 ≤ (s.voice v).queue.length → exec .soundLaneNoteRelease s = ends s)
      ∧ (k.sending.isSome = true → start = ends s)
      ∧ (k.sending = none → (∀ j, ∀ y ∈ (s.lane j).outbound, y.released = false) → start = ends s)
      ∧ (chosen → m ≠ .status → start = ends ((s.setLane l { x with outbound := front ++ back }).setLink
          { (s.setLane l { x with outbound := front ++ back }).link with
            sending := some ⟨l, characters (layout m), restarts⟩ }))
      ∧ (chosen → m = .status →
          ∃ t, start = ends t ∧ t.link.sending = some ⟨l, characters (layout .status), false⟩
            ∧ t.link.watchFull = false ∧ t.link.badSeen = false
            ∧ (∀ j, (t.lane j).overrun = false ∧ (t.lane j).dropped = false
                ∧ (t.lane j).inbound = (s.lane j).inbound)
            ∧ (t.lane l).outbound = front ++ back
            ∧ t = s.setLink { k with
                lanes := t.link.lanes, watchFull := false, badSeen := false,
                sending := some ⟨l, characters (layout .status), false⟩ })
      ∧ (¬(k.sending.any SentMessage.restart = true
            ∧ s.station.restartPending = some .message) →
          exec .uartMessageSent s = ends (s.setLink { k with sending := none }))
      ∧ (x.timer.isSome = true → exec (.laneIntervalExpiry l) s = ends (s.setLane l { x with
          outbound := x.outbound.map fun y => { y with released := true },
          timer := some x.interval }))
      ∧ (x.timer = none → exec (.laneIntervalExpiry l) s = ends s)
      ∧ (k.watch[place]? = some w → w.hold = .running false →
          exec (.watchHoldExpiry place) s = ends (held .stopped))
      ∧ (k.watch[place]? = some w → w.hold = .running true → w.index < 16 →
          exec (.watchHoldExpiry place) s = ends (tell 3 (.telemetry w.station w.index
            ((s.signals.toList.map Signal.value).getD w.index 0)) (held (.running false))))
      ∧ (k.watch[place]? = none ∨ (k.watch[place]? = some w ∧ w.hold = .stopped) →
          exec (.watchHoldExpiry place) s = ends s)
      ∧ (k.timer = none → exec .linkTimeout s = ends s)
      ∧ (k.timer.isSome = true → k.haltOnLoss = false ∨ ¬driven →
          exec .linkTimeout s = ends lost)
      ∧ (k.timer.isSome = true → k.haltOnLoss = true → driven →
          exec .linkTimeout s = ends (giveCause .linkLost none lost))

/-! ### The brick bus (chapter 8) -/

/-- R134, R144, R188, R189: frames and characters agree: a frame within the ranges of Table 8-2 reads back
as it was sent; characters that read as a frame are that frame's characters and no other's; a frame
with one character changed is discarded. -/
def Obligations.FramesReadBack : Prop :=
  ∀ (number : Nat) (f : Frame) (chars : List Byte) (h : Heard) (i : Nat) (b : Byte),
    number < 16 →
    let sent := encodeFrame (some number) f
    (rangesOk f.kind f.route f.payload = true →
        readFrame sent = some ⟨f.kind, number, f.route, f.payload⟩
          ∧ sent.length = f.payload.length + 3)
      ∧ (readFrame chars = some h →
          chars = encodeFrame (some h.source) ⟨h.kind, h.route, h.payload, 0, none, false⟩
            ∧ h.source < 16 ∧ rangesOk h.kind h.route h.payload = true
            ∧ 4 ≤ chars.length ∧ chars.length ≤ 15)
      ∧ (rangesOk f.kind f.route f.payload = true → sent[i]?.any (fun c => c != b) = true →
          readFrame (sent.set i b) = none)

/-- R133, R137 to R143, R147, R148, R152: the line and the receiver, the start of a frame, a pending Announce,
the 200 ms of Command and Reply frames, lost arbitration and line faults, the frame they abandon and its
return to the queue, breaks heard and sent, and a withdrawal, with the BusFull that each Command frame it
drops gives its origin. The model's choices: the line that becomes idle starts no frame, and a frame that
leaves the queue lets no pending Announce join: BUS_FRAME_START and ANNOUNCE_PENDING_JOIN do (assumption
15); what follows a frame that leaves (assumptions 14 and 11); a withdrawal drops the frame in transmission
first, then the queued ones from the head (assumption 13); the counts of the break detector and of the own
break (assumption 27); an event with nothing to act on changes nothing (assumption 5); a frame whose 200 ms
pass in transmission is marked (assumption 4). -/
def Obligations.BusLineAndSending : Prop :=
  ∀ (f g : Frame) (rest : List Frame) (place : Nat) (why : ReceptionError) (c : WithdrawnCause)
    (o : Origin) (s : State),
    s.resetHeld = [] →
    let b := s.bus
    let after := forwardAfter s.link.forwarded
    let idle := b.receiver = .idle
    let inFrame := b.receiver = .inFrame
    let quiet := b.breakSending = none
    let mayStart := idle ∧ s.isWithdrawn = false ∧ quiet ∧ b.sending = none
    let set := fun b' : Bus => (ends (s.setBus b') : Outcome)
    let ages := f.kind = .command ∨ f.kind = .reply
    let cut := s.setBus { b with sending := none }
    let faulted := s.setBus { b with lineFaults := b.lineFaults + 1 }
    let abandoned := abandonFrame s
    let content := fun h : Frame => h.kind = .signal ∨ h.kind = .event
    let twin := fun h : Frame => (f.kind = .go ∧ h.kind = .go ∧ h.payload = f.payload)
      ∨ (f.kind = .announce ∧ h.kind = .announce) ∨ (content f ∧ content h ∧ h.route = f.route)
    let stays := b.sending = some f ∧ s.isWithdrawn = false
      ∧ (f.kind = .go → s.halt.state = .running)
    let returns := stays ∧ (∀ h ∈ b.queue, ¬twin h) ∧ f.expired = false
    let error := exec (.frameReceptionError why) s
    let more := [WithdrawnCause.clock, .lineFault, .duplicate, .unnumbered].filter fun d =>
      d == c || b.withdrawn.contains d
    let told := (b.sending.toList ++ b.queue).foldl
      (fun t h => if h.kind = .command then reportOrigin h.origin (some .busFull) t else t)
      (s.setBus { b with
        withdrawn := more, queue := [], sending := none, announcePending := false, lineFaults := 0 })
    (¬quiet → exec .busLineIdle s = ends s ∧ exec .busStartEdge s = ends s
        ∧ exec .busFrameStart s = ends s ∧ exec .breakDetected s = ends s)
      ∧ (quiet → ¬inFrame → exec .busLineIdle s = set { b with receiver := .idle, breakCount := 0 })
      ∧ (quiet → inFrame → exec .busLineIdle s
          = set { b with receiver := .idle, breakCount := 0, busErrorSeen := true })
      ∧ (quiet → idle → exec .busStartEdge s = set { b with receiver := .inFrame, breakCount := 0 })
      ∧ (¬idle → exec .busStartEdge s = ends s)
      ∧ (¬inFrame → error = ends s)
      ∧ (inFrame → why = .framingBreak → error = set { b with receiver := .hunting })
      ∧ (inFrame → why = .earlyGap → error
          = set { b with receiver := .idle, breakCount := 0, busErrorSeen := true })
      ∧ (inFrame → why ≠ .framingBreak → why ≠ .earlyGap → error
          = set { b with receiver := .hunting, busErrorSeen := true })
      ∧ (mayStart → b.queue = f :: rest → exec .busFrameStart s
          = set { b with queue := rest, sending := some f, receiver := .inFrame })
      ∧ (¬mayStart ∨ b.queue = [] → exec .busFrameStart s = ends s)
      ∧ (b.announcePending = true → b.queue.length < 8 → s.isWithdrawn = false →
          exec .announcePendingJoin s
            = ends (announceRequest (s.setBus { b with announcePending := false })))
      ∧ (b.announcePending = false ∨ 8 ≤ b.queue.length ∨ s.isWithdrawn = true →
          exec .announcePendingJoin s = ends s)
      ∧ (b.queue[place]? = some f → f.kind = .reply → exec (.queueTimeout (.queued place)) s
          = ends (after (s.setBus { b with queue := b.queue.eraseIdx place })))
      ∧ (b.queue[place]? = some f → f.kind = .command →
          exec (.queueTimeout (.queued place)) s = ends (after (reportOrigin f.origin
            (some .busTimeout) (s.setBus { b with queue := b.queue.eraseIdx place }))))
      ∧ (b.queue[place]? = none ∨ (b.queue[place]? = some f ∧ ¬ages) →
          exec (.queueTimeout (.queued place)) s = ends s)
      ∧ (b.sending = some f → ages → exec (.queueTimeout .sending) s
          = set { b with sending := some { f with expired := true } })
      ∧ (b.sending = none ∨ (b.sending = some f ∧ ¬ages) →
          exec (.queueTimeout .sending) s = ends s)
      ∧ (b.sending = none → exec .arbitrationLost s = ends s ∧ exec .lineFault s = ends s)
      ∧ (b.sending = some f → exec .arbitrationLost s = ends (after abandoned))
      ∧ (b.sending = some f → b.lineFaults + 1 < 16 →
          exec .lineFault s = ends (after (abandonFrame faulted)))
      ∧ (b.sending = some f → 15 ≤ b.lineFaults →
          exec .lineFault s = ends (after (withdraw .lineFault faulted)))
      ∧ (b.sending = some f → s.isWithdrawn = true → f.kind ≠ .command → abandoned = cut)
      ∧ (b.sending = some f → f.kind = .go → s.halt.state ≠ .running → abandoned = cut)
      ∧ (b.sending = some f → s.isWithdrawn = true → f.kind = .command →
          abandoned = reportOrigin f.origin (some .busFull) cut)
      ∧ (stays → (∃ h ∈ b.queue, twin h) → abandoned = cut)
      ∧ (stays → f.kind = .command → f.expired = true →
          abandoned = reportOrigin f.origin (some .busTimeout) cut)
      ∧ (stays → f.kind = .reply → f.expired = true → abandoned = cut)
      ∧ (returns → b.queue.length < 8 →
          abandoned = cut.setBus { cut.bus with queue := abandoned.bus.queue }
            ∧ abandoned.bus.queue.Perm (f :: b.queue) ∧ (s.QueueOrdered →
              queueOrdered abandoned.bus.queue))
      ∧ (returns → 8 ≤ b.queue.length → (∀ h ∈ b.queue, h.kind.code ≤ f.kind.code) →
          abandoned = match f.kind with
            | .command => reportOrigin f.origin (some .busFull) cut
            | .announce => cut.setBus { cut.bus with announcePending := true }
            | .go | .reply | .event | .signal => cut)
      ∧ (returns → 8 ≤ b.queue.length → b.queue.getLast? = some g → f.kind.code < g.kind.code →
          abandoned.bus.sending = none ∧ (abandoned.bus.queue ++ [g]).Perm (f :: b.queue)
            ∧ abandoned.bus.announcePending = (b.announcePending || g.kind == .announce))
      ∧ (s.isWithdrawn = true → withdraw c s = s.setBus { b with withdrawn := more })
      ∧ (s.isWithdrawn = false → withdraw c s = updateSignal 15
          (putBits 6 1 1 (told.signal 15).value) told)
      ∧ reportOrigin (some o) (some .busFull) s = tell 1 (.reply o.dest o.token Result.busFull.code [])
          (s.setLink { s.link with forwarded := s.link.forwarded - 1 })
      ∧ reportOrigin none (some .busFull) s = s
      ∧ (quiet → exec .breakDetected s = ends (giveCause .busBreak none
          (s.setBus { b with breakCount := 22, receiver := .hunting })))
      ∧ (¬quiet → exec .breakEnd s
          = set { b with breakSending := none, breakCount := 0, receiver := .hunting })
      ∧ (quiet → exec .breakEnd s = ends s)
      ∧ (¬quiet → startBreak s = s)
      ∧ (quiet → (startBreak s).bus.breakSending = some 0 ∧ (startBreak s).bus.sending = none)

/-- R144 to R146, R90, R97, R114, R151, R159, R161, R176: a frame heard whole at an InFrame receiver: one
that does not read sets BusErrorSeen; this station's own leaves transmission; and each kind goes to the
blocks that act on it. The model's choices: a frame is this station's own when its characters are those of
the frame in transmission (assumption 32); what follows a frame that has left (assumptions 14 and 11); a
refused trigger's stage miss follows the value (assumption 30). -/
def Obligations.FrameCompletionDispatches : Prop :=
  ∀ (chars : List Byte) (h : Heard) (f : Frame) (i : Fin 16) (o : Origin) (s : State),
    s.resetHeld = [] →
    let b := s.bus
    let ready := b.receiver = .inFrame ∧ b.breakSending = none
    let c := exec (.frameCompletion chars) s
    let base := s.setBus { b with receiver := .hunting, breakCount := 0 }
    let reads := ready ∧ readFrame chars = some h
    let own := reads ∧ b.sending = some f ∧ encodeFrame b.number f = chars
    let other := reads ∧ ∀ g ∈ b.sending, encodeFrame b.number g ≠ chars
    let left := base.setBus { base.bus with sending := none, lineFaults := 0 }
    let told := if f.origin.isSome then
      left.setLink { left.link with forwarded := left.link.forwarded - 1 } else left
    let after := forwardAfter s.link.forwarded
    let value := readS h.payload
    let signal := (h.kind = .signal ∨ h.kind = .event) ∧ h.route = i.val
    let at_ := fun k : Nat => (h.payload.getD k 0).toNat
    let carried := fun (v : Via) (t : State) =>
      carryOut v (at_ 0 / 16) (at_ 0 % 16) (at_ 1) (h.payload.drop 3) t
    let mine := s.bus.number = some h.route
    let serial := readU (h.payload.take 4)
    let taken := offerValue h.source i value base
    let passed := fun t : State =>
      tell 1 (.reply h.source (at_ 0) (at_ 1) (h.payload.drop 2)) t
    (¬ready → c = ends s)
      ∧ (ready → readFrame chars = none →
          c = ends (base.setBus { base.bus with busErrorSeen := true }))
      ∧ (own → h.kind = .go → c = ends (after (goApplied (at_ 0) told)))
      ∧ (other → h.kind = .go → c = ends (after (goApplied (at_ 0) base)))
      ∧ (own → signal → c = ends (after (testPublish i
          (told.setSignal i { s.signal i with lastPublished := some value }))))
      ∧ (other → signal → c = ends (after (Nat.repeat setStageMiss taken.2
          (watchHeard h.source i.val value taken.1))))
      ∧ (own → h.kind = .command → h.route = 0 → f.origin = some o →
          c = ends (after (carried (.tablet o.dest o.token) told)))
      ∧ (other → h.kind = .command → h.route = 0 →
          c = ends (after (carried .broadcast base)))
      ∧ (other → h.kind = .command → h.route ≠ 0 → mine →
          c = ends (after (carried (.bus h.source (at_ 2)) base)))
      ∧ (own → h.kind = .command → h.route ≠ 0 → ¬mine → c = ends (after told))
      ∧ (other → h.kind = .command → h.route ≠ 0 → ¬mine → c = ends (after base))
      ∧ (own → h.kind = .reply → mine → c = ends (after (passed told)))
      ∧ (own → h.kind = .reply → ¬mine → c = ends (after told))
      ∧ (other → h.kind = .reply → mine → c = ends (after (passed base)))
      ∧ (other → h.kind = .reply → ¬mine → c = ends (after base))
      ∧ (own → h.kind = .announce → c = ends (after told))
      ∧ (other → h.kind = .announce → b.number ≠ some h.source → c = ends (after base))
      ∧ (other → h.kind = .announce → b.number = some h.source → b.serial.toNat < serial →
          c = ends (after (announceRequest base)))
      ∧ (other → h.kind = .announce → b.number = some h.source → serial < b.serial.toNat →
          ∃ t, c = ends (after t) ∧ .duplicate ∈ t.bus.withdrawn ∧ t.halt = s.halt
            ∧ (s.isWithdrawn = false → t.bus.queue = [] ∧ t.bus.sending = none
                ∧ t.bus.announcePending = false ∧ getBits 6 1 (t.signal 15).value = 1))

/-! ### Promises that every step keeps -/

/-- R136, R108, R175, R5, R68, R172: the FIFOs, lists and queues stay within their capacity; the transmit
queue stays ordered with no identity twice; and neither the staging list nor the watch list ever holds
a target or a pair twice. -/
def Obligations.CapacityAndOrderKept : Prop :=
  ∀ s t : State,
    s.WithinCapacity → s.QueueOrdered → stagingDistinct s.staging → watchDistinct s.link.watch →
    step s = .next t →
    t.WithinCapacity ∧ t.QueueOrdered ∧ stagingDistinct t.staging ∧ watchDistinct t.link.watch

/-- R81, R117, R119, R121, R124, R125: a station that is Halting or Halted stays quiet, a Halted one has every
motor port in Coast or Brake, and the halt record is empty exactly while it is Running. -/
def Obligations.HaltPromisesKept : Prop :=
  ∀ s t : State,
    s.HaltQuiet → s.HaltedAtRest → s.HaltRecordKept → step s = .next t →
    t.HaltQuiet ∧ t.HaltedAtRest ∧ t.HaltRecordKept

/-- R135, R152, R153, R183, R163: while Withdrawn the station's queue is empty and nothing is in transmission; it
is withdrawn for its clock exactly while the clock is off the PLL; a ClockRetry waits only while its start
goes on; and (R163) a Restart never outlasts the Reply frame it waits for. That the reset comes at the end
of the event that the frame leaves at is the model's choice (assumption 11). -/
def Obligations.WithdrawnPromisesKept : Prop :=
  ∀ s t : State,
    s.WithdrawnSilent → s.ClockWithdrawn → s.RetryKept → s.RestartWaits → step s = .next t →
    t.WithdrawnSilent ∧ t.ClockWithdrawn ∧ t.RetryKept ∧ t.RestartWaits

/-- R12, R8: no step leaves the applied duty of a port outside its effective limit, nor other than 0 in
Coast and Brake. -/
def Obligations.DutyLimitKept : Prop :=
  ∀ s t : State, s.DutyBounded → step s = .next t → t.DutyBounded

/-- R1, R17, R79, R80, R103, R106: no two acting entries ever own one destination, and the source of a port,
a pitch or a volume scale is an entry exactly while that entry acts with its destination there. -/
def Obligations.OwnersAndSourcesAgree : Prop :=
  ∀ s t : State,
    s.OneOwner → s.SourcesMatch → step s = .next t → t.OneOwner ∧ t.SourcesMatch

/-- The state right after reset keeps all the promises (a queue of waiting commands is no part of
them); the values that reset leaves where the manual gives none are those of assumption 6. -/
def Obligations.ResetKeepsEveryPromise : Prop :=
  let s := State.reset
  (s.WithinCapacity ∧ s.QueueOrdered ∧ stagingDistinct s.staging ∧ watchDistinct s.link.watch)
    ∧ (s.HaltQuiet ∧ s.HaltedAtRest ∧ s.HaltRecordKept)
    ∧ (s.WithdrawnSilent ∧ s.ClockWithdrawn ∧ s.RetryKept ∧ s.RestartWaits)
    ∧ s.DutyBounded ∧ s.OneOwner ∧ s.SourcesMatch
end

