-- ==== Sys2Proof/Laws/Characters.lean ====
section
/-! SUPPORT. Numbers in characters read back as they were written (R187). -/

namespace Sys2Proof.Machine

@[simp] theorem charsOf_length (k : Nat) (v : Int) : (charsOf k v).length = k := by
  induction k generalizing v with
  | zero => rfl
  | succ k ih => simp [charsOf, ih]

theorem toNat_ofInt_byte (v : Int) : ((BitVec.ofInt 8 v).toNat : Int) = v % 256 := by
  simp [BitVec.toNat_ofInt]; omega

/-- R187: `k` characters carry a number modulo 256^k. -/
theorem readU_charsOf (k : Nat) (v : Int) : (readU (charsOf k v) : Int) = v % (256 ^ k : Nat) := by
  induction k generalizing v with
  | zero => simp [charsOf, readU]
  | succ k ih =>
    have h := ih (v / 256)
    have hb := toNat_ofInt_byte v
    simp only [charsOf, readU, Nat.cast_add, Nat.cast_mul, hb]
    rw [h, pow_succ]
    push_cast
    simp only [Int.emod_def, Int.mul_comm _ (256 : Int), ← Int.ediv_ediv_of_nonneg (by decide : (0 : Int) ≤ 256)]
    ring

/-- R187: an unsigned number that fits its characters reads back. -/
theorem readU_charsOf_nat {k n : Nat} (h : n < 256 ^ k) : readU (charsOf k n) = n := by
  have := readU_charsOf k n
  rw [← Int.natCast_emod, Nat.mod_eq_of_lt h] at this
  exact_mod_cast this

/-- R187: a signed number that fits its characters reads back. -/
theorem readS_charsOf {k : Nat} {x : Int} (hlo : -(256 ^ k : Nat) ≤ 2 * x)
    (hhi : 2 * x < (256 ^ k : Nat)) : readS (charsOf k x) = x := by
  have h := readU_charsOf k x
  unfold readS
  rw [charsOf_length]
  by_cases hx : 0 ≤ x
  · rw [Int.emod_eq_of_lt hx (by omega)] at h
    rw [if_neg (by omega), h]
  · have e : x % (256 ^ k : Nat) = x + (256 ^ k : Nat) := by
      rw [← Int.add_emod_right, Int.emod_eq_of_lt (by omega) (by omega)]
    rw [e] at h
    rw [if_pos (by omega), h]
    omega

end Sys2Proof.Machine
end

