-- ==== Sys2Proof/Laws/State.lean ====
section
/-! SUPPORT. The fields of the state after each update: one lemma per field, and what a read finds
after a write. -/

namespace Sys2Proof.Machine

variable (s : State)

/-! ### setPort -/

@[simp] theorem State.setPort_hot (p : Fin 4) (x : Port) : (s.setPort p x).hot = s.hot := rfl
@[simp] theorem State.setPort_sensors (p : Fin 4) (x : Port) :
    (s.setPort p x).sensors = s.sensors := rfl
@[simp] theorem State.setPort_battery (p : Fin 4) (x : Port) :
    (s.setPort p x).battery = s.battery := rfl
@[simp] theorem State.setPort_voices (p : Fin 4) (x : Port) :
    (s.setPort p x).voices = s.voices := rfl
@[simp] theorem State.setPort_audio (p : Fin 4) (x : Port) : (s.setPort p x).audio = s.audio := rfl
@[simp] theorem State.setPort_signals (p : Fin 4) (x : Port) :
    (s.setPort p x).signals = s.signals := rfl
@[simp] theorem State.setPort_entries (p : Fin 4) (x : Port) :
    (s.setPort p x).entries = s.entries := rfl
@[simp] theorem State.setPort_staging (p : Fin 4) (x : Port) :
    (s.setPort p x).staging = s.staging := rfl
@[simp] theorem State.setPort_stageMiss (p : Fin 4) (x : Port) :
    (s.setPort p x).stageMiss = s.stageMiss := rfl
@[simp] theorem State.setPort_halt (p : Fin 4) (x : Port) : (s.setPort p x).halt = s.halt := rfl
@[simp] theorem State.setPort_bus (p : Fin 4) (x : Port) : (s.setPort p x).bus = s.bus := rfl
@[simp] theorem State.setPort_link (p : Fin 4) (x : Port) : (s.setPort p x).link = s.link := rfl
@[simp] theorem State.setPort_clock (p : Fin 4) (x : Port) : (s.setPort p x).clock = s.clock := rfl
@[simp] theorem State.setPort_station (p : Fin 4) (x : Port) :
    (s.setPort p x).station = s.station := rfl
@[simp] theorem State.setPort_record (p : Fin 4) (x : Port) :
    (s.setPort p x).record = s.record := rfl
@[simp] theorem State.setPort_resetHeld (p : Fin 4) (x : Port) :
    (s.setPort p x).resetHeld = s.resetHeld := rfl
@[simp] theorem State.setPort_pending (p : Fin 4) (x : Port) :
    (s.setPort p x).pending = s.pending := rfl

/-! ### setSensor -/

@[simp] theorem State.setSensor_ports (p : Fin 4) (x : Sensor) :
    (s.setSensor p x).ports = s.ports := rfl
@[simp] theorem State.setSensor_hot (p : Fin 4) (x : Sensor) : (s.setSensor p x).hot = s.hot := rfl
@[simp] theorem State.setSensor_battery (p : Fin 4) (x : Sensor) :
    (s.setSensor p x).battery = s.battery := rfl
@[simp] theorem State.setSensor_voices (p : Fin 4) (x : Sensor) :
    (s.setSensor p x).voices = s.voices := rfl
@[simp] theorem State.setSensor_audio (p : Fin 4) (x : Sensor) :
    (s.setSensor p x).audio = s.audio := rfl
@[simp] theorem State.setSensor_signals (p : Fin 4) (x : Sensor) :
    (s.setSensor p x).signals = s.signals := rfl
@[simp] theorem State.setSensor_entries (p : Fin 4) (x : Sensor) :
    (s.setSensor p x).entries = s.entries := rfl
@[simp] theorem State.setSensor_staging (p : Fin 4) (x : Sensor) :
    (s.setSensor p x).staging = s.staging := rfl
@[simp] theorem State.setSensor_stageMiss (p : Fin 4) (x : Sensor) :
    (s.setSensor p x).stageMiss = s.stageMiss := rfl
@[simp] theorem State.setSensor_halt (p : Fin 4) (x : Sensor) :
    (s.setSensor p x).halt = s.halt := rfl
@[simp] theorem State.setSensor_bus (p : Fin 4) (x : Sensor) : (s.setSensor p x).bus = s.bus := rfl
@[simp] theorem State.setSensor_link (p : Fin 4) (x : Sensor) :
    (s.setSensor p x).link = s.link := rfl
@[simp] theorem State.setSensor_clock (p : Fin 4) (x : Sensor) :
    (s.setSensor p x).clock = s.clock := rfl
@[simp] theorem State.setSensor_station (p : Fin 4) (x : Sensor) :
    (s.setSensor p x).station = s.station := rfl
@[simp] theorem State.setSensor_record (p : Fin 4) (x : Sensor) :
    (s.setSensor p x).record = s.record := rfl
@[simp] theorem State.setSensor_resetHeld (p : Fin 4) (x : Sensor) :
    (s.setSensor p x).resetHeld = s.resetHeld := rfl
@[simp] theorem State.setSensor_pending (p : Fin 4) (x : Sensor) :
    (s.setSensor p x).pending = s.pending := rfl

/-! ### setVoice -/

@[simp] theorem State.setVoice_ports (v : Fin 3) (x : Voice) :
    (s.setVoice v x).ports = s.ports := rfl
@[simp] theorem State.setVoice_hot (v : Fin 3) (x : Voice) : (s.setVoice v x).hot = s.hot := rfl
@[simp] theorem State.setVoice_sensors (v : Fin 3) (x : Voice) :
    (s.setVoice v x).sensors = s.sensors := rfl
@[simp] theorem State.setVoice_battery (v : Fin 3) (x : Voice) :
    (s.setVoice v x).battery = s.battery := rfl
@[simp] theorem State.setVoice_audio (v : Fin 3) (x : Voice) :
    (s.setVoice v x).audio = s.audio := rfl
@[simp] theorem State.setVoice_signals (v : Fin 3) (x : Voice) :
    (s.setVoice v x).signals = s.signals := rfl
@[simp] theorem State.setVoice_entries (v : Fin 3) (x : Voice) :
    (s.setVoice v x).entries = s.entries := rfl
@[simp] theorem State.setVoice_staging (v : Fin 3) (x : Voice) :
    (s.setVoice v x).staging = s.staging := rfl
@[simp] theorem State.setVoice_stageMiss (v : Fin 3) (x : Voice) :
    (s.setVoice v x).stageMiss = s.stageMiss := rfl
@[simp] theorem State.setVoice_halt (v : Fin 3) (x : Voice) : (s.setVoice v x).halt = s.halt := rfl
@[simp] theorem State.setVoice_bus (v : Fin 3) (x : Voice) : (s.setVoice v x).bus = s.bus := rfl
@[simp] theorem State.setVoice_link (v : Fin 3) (x : Voice) : (s.setVoice v x).link = s.link := rfl
@[simp] theorem State.setVoice_clock (v : Fin 3) (x : Voice) :
    (s.setVoice v x).clock = s.clock := rfl
@[simp] theorem State.setVoice_station (v : Fin 3) (x : Voice) :
    (s.setVoice v x).station = s.station := rfl
@[simp] theorem State.setVoice_record (v : Fin 3) (x : Voice) :
    (s.setVoice v x).record = s.record := rfl
@[simp] theorem State.setVoice_resetHeld (v : Fin 3) (x : Voice) :
    (s.setVoice v x).resetHeld = s.resetHeld := rfl
@[simp] theorem State.setVoice_pending (v : Fin 3) (x : Voice) :
    (s.setVoice v x).pending = s.pending := rfl

/-! ### setSignal -/

@[simp] theorem State.setSignal_ports (i : Fin 16) (x : Signal) :
    (s.setSignal i x).ports = s.ports := rfl
@[simp] theorem State.setSignal_hot (i : Fin 16) (x : Signal) : (s.setSignal i x).hot = s.hot := rfl
@[simp] theorem State.setSignal_sensors (i : Fin 16) (x : Signal) :
    (s.setSignal i x).sensors = s.sensors := rfl
@[simp] theorem State.setSignal_battery (i : Fin 16) (x : Signal) :
    (s.setSignal i x).battery = s.battery := rfl
@[simp] theorem State.setSignal_voices (i : Fin 16) (x : Signal) :
    (s.setSignal i x).voices = s.voices := rfl
@[simp] theorem State.setSignal_audio (i : Fin 16) (x : Signal) :
    (s.setSignal i x).audio = s.audio := rfl
@[simp] theorem State.setSignal_entries (i : Fin 16) (x : Signal) :
    (s.setSignal i x).entries = s.entries := rfl
@[simp] theorem State.setSignal_staging (i : Fin 16) (x : Signal) :
    (s.setSignal i x).staging = s.staging := rfl
@[simp] theorem State.setSignal_stageMiss (i : Fin 16) (x : Signal) :
    (s.setSignal i x).stageMiss = s.stageMiss := rfl
@[simp] theorem State.setSignal_halt (i : Fin 16) (x : Signal) :
    (s.setSignal i x).halt = s.halt := rfl
@[simp] theorem State.setSignal_bus (i : Fin 16) (x : Signal) : (s.setSignal i x).bus = s.bus := rfl
@[simp] theorem State.setSignal_link (i : Fin 16) (x : Signal) :
    (s.setSignal i x).link = s.link := rfl
@[simp] theorem State.setSignal_clock (i : Fin 16) (x : Signal) :
    (s.setSignal i x).clock = s.clock := rfl
@[simp] theorem State.setSignal_station (i : Fin 16) (x : Signal) :
    (s.setSignal i x).station = s.station := rfl
@[simp] theorem State.setSignal_record (i : Fin 16) (x : Signal) :
    (s.setSignal i x).record = s.record := rfl
@[simp] theorem State.setSignal_resetHeld (i : Fin 16) (x : Signal) :
    (s.setSignal i x).resetHeld = s.resetHeld := rfl
@[simp] theorem State.setSignal_pending (i : Fin 16) (x : Signal) :
    (s.setSignal i x).pending = s.pending := rfl

/-! ### setEntry -/

@[simp] theorem State.setEntry_ports (n : Fin 16) (x : Entry) :
    (s.setEntry n x).ports = s.ports := rfl
@[simp] theorem State.setEntry_hot (n : Fin 16) (x : Entry) : (s.setEntry n x).hot = s.hot := rfl
@[simp] theorem State.setEntry_sensors (n : Fin 16) (x : Entry) :
    (s.setEntry n x).sensors = s.sensors := rfl
@[simp] theorem State.setEntry_battery (n : Fin 16) (x : Entry) :
    (s.setEntry n x).battery = s.battery := rfl
@[simp] theorem State.setEntry_voices (n : Fin 16) (x : Entry) :
    (s.setEntry n x).voices = s.voices := rfl
@[simp] theorem State.setEntry_audio (n : Fin 16) (x : Entry) :
    (s.setEntry n x).audio = s.audio := rfl
@[simp] theorem State.setEntry_signals (n : Fin 16) (x : Entry) :
    (s.setEntry n x).signals = s.signals := rfl
@[simp] theorem State.setEntry_staging (n : Fin 16) (x : Entry) :
    (s.setEntry n x).staging = s.staging := rfl
@[simp] theorem State.setEntry_stageMiss (n : Fin 16) (x : Entry) :
    (s.setEntry n x).stageMiss = s.stageMiss := rfl
@[simp] theorem State.setEntry_halt (n : Fin 16) (x : Entry) : (s.setEntry n x).halt = s.halt := rfl
@[simp] theorem State.setEntry_bus (n : Fin 16) (x : Entry) : (s.setEntry n x).bus = s.bus := rfl
@[simp] theorem State.setEntry_link (n : Fin 16) (x : Entry) : (s.setEntry n x).link = s.link := rfl
@[simp] theorem State.setEntry_clock (n : Fin 16) (x : Entry) :
    (s.setEntry n x).clock = s.clock := rfl
@[simp] theorem State.setEntry_station (n : Fin 16) (x : Entry) :
    (s.setEntry n x).station = s.station := rfl
@[simp] theorem State.setEntry_record (n : Fin 16) (x : Entry) :
    (s.setEntry n x).record = s.record := rfl
@[simp] theorem State.setEntry_resetHeld (n : Fin 16) (x : Entry) :
    (s.setEntry n x).resetHeld = s.resetHeld := rfl
@[simp] theorem State.setEntry_pending (n : Fin 16) (x : Entry) :
    (s.setEntry n x).pending = s.pending := rfl

/-! ### setAudio -/

@[simp] theorem State.setAudio_ports (x : Audio) : (s.setAudio x).ports = s.ports := rfl
@[simp] theorem State.setAudio_hot (x : Audio) : (s.setAudio x).hot = s.hot := rfl
@[simp] theorem State.setAudio_sensors (x : Audio) : (s.setAudio x).sensors = s.sensors := rfl
@[simp] theorem State.setAudio_battery (x : Audio) : (s.setAudio x).battery = s.battery := rfl
@[simp] theorem State.setAudio_voices (x : Audio) : (s.setAudio x).voices = s.voices := rfl
@[simp] theorem State.setAudio_audio (x : Audio) : (s.setAudio x).audio = x := rfl
@[simp] theorem State.setAudio_signals (x : Audio) : (s.setAudio x).signals = s.signals := rfl
@[simp] theorem State.setAudio_entries (x : Audio) : (s.setAudio x).entries = s.entries := rfl
@[simp] theorem State.setAudio_staging (x : Audio) : (s.setAudio x).staging = s.staging := rfl
@[simp] theorem State.setAudio_stageMiss (x : Audio) : (s.setAudio x).stageMiss = s.stageMiss := rfl
@[simp] theorem State.setAudio_halt (x : Audio) : (s.setAudio x).halt = s.halt := rfl
@[simp] theorem State.setAudio_bus (x : Audio) : (s.setAudio x).bus = s.bus := rfl
@[simp] theorem State.setAudio_link (x : Audio) : (s.setAudio x).link = s.link := rfl
@[simp] theorem State.setAudio_clock (x : Audio) : (s.setAudio x).clock = s.clock := rfl
@[simp] theorem State.setAudio_station (x : Audio) : (s.setAudio x).station = s.station := rfl
@[simp] theorem State.setAudio_record (x : Audio) : (s.setAudio x).record = s.record := rfl
@[simp] theorem State.setAudio_resetHeld (x : Audio) : (s.setAudio x).resetHeld = s.resetHeld := rfl
@[simp] theorem State.setAudio_pending (x : Audio) : (s.setAudio x).pending = s.pending := rfl

/-! ### setHalt -/

@[simp] theorem State.setHalt_ports (x : Halt) : (s.setHalt x).ports = s.ports := rfl
@[simp] theorem State.setHalt_hot (x : Halt) : (s.setHalt x).hot = s.hot := rfl
@[simp] theorem State.setHalt_sensors (x : Halt) : (s.setHalt x).sensors = s.sensors := rfl
@[simp] theorem State.setHalt_battery (x : Halt) : (s.setHalt x).battery = s.battery := rfl
@[simp] theorem State.setHalt_voices (x : Halt) : (s.setHalt x).voices = s.voices := rfl
@[simp] theorem State.setHalt_audio (x : Halt) : (s.setHalt x).audio = s.audio := rfl
@[simp] theorem State.setHalt_signals (x : Halt) : (s.setHalt x).signals = s.signals := rfl
@[simp] theorem State.setHalt_entries (x : Halt) : (s.setHalt x).entries = s.entries := rfl
@[simp] theorem State.setHalt_staging (x : Halt) : (s.setHalt x).staging = s.staging := rfl
@[simp] theorem State.setHalt_stageMiss (x : Halt) : (s.setHalt x).stageMiss = s.stageMiss := rfl
@[simp] theorem State.setHalt_halt (x : Halt) : (s.setHalt x).halt = x := rfl
@[simp] theorem State.setHalt_bus (x : Halt) : (s.setHalt x).bus = s.bus := rfl
@[simp] theorem State.setHalt_link (x : Halt) : (s.setHalt x).link = s.link := rfl
@[simp] theorem State.setHalt_clock (x : Halt) : (s.setHalt x).clock = s.clock := rfl
@[simp] theorem State.setHalt_station (x : Halt) : (s.setHalt x).station = s.station := rfl
@[simp] theorem State.setHalt_record (x : Halt) : (s.setHalt x).record = s.record := rfl
@[simp] theorem State.setHalt_resetHeld (x : Halt) : (s.setHalt x).resetHeld = s.resetHeld := rfl
@[simp] theorem State.setHalt_pending (x : Halt) : (s.setHalt x).pending = s.pending := rfl

/-! ### setBus -/

@[simp] theorem State.setBus_ports (x : Bus) : (s.setBus x).ports = s.ports := rfl
@[simp] theorem State.setBus_hot (x : Bus) : (s.setBus x).hot = s.hot := rfl
@[simp] theorem State.setBus_sensors (x : Bus) : (s.setBus x).sensors = s.sensors := rfl
@[simp] theorem State.setBus_battery (x : Bus) : (s.setBus x).battery = s.battery := rfl
@[simp] theorem State.setBus_voices (x : Bus) : (s.setBus x).voices = s.voices := rfl
@[simp] theorem State.setBus_audio (x : Bus) : (s.setBus x).audio = s.audio := rfl
@[simp] theorem State.setBus_signals (x : Bus) : (s.setBus x).signals = s.signals := rfl
@[simp] theorem State.setBus_entries (x : Bus) : (s.setBus x).entries = s.entries := rfl
@[simp] theorem State.setBus_staging (x : Bus) : (s.setBus x).staging = s.staging := rfl
@[simp] theorem State.setBus_stageMiss (x : Bus) : (s.setBus x).stageMiss = s.stageMiss := rfl
@[simp] theorem State.setBus_halt (x : Bus) : (s.setBus x).halt = s.halt := rfl
@[simp] theorem State.setBus_bus (x : Bus) : (s.setBus x).bus = x := rfl
@[simp] theorem State.setBus_link (x : Bus) : (s.setBus x).link = s.link := rfl
@[simp] theorem State.setBus_clock (x : Bus) : (s.setBus x).clock = s.clock := rfl
@[simp] theorem State.setBus_station (x : Bus) : (s.setBus x).station = s.station := rfl
@[simp] theorem State.setBus_record (x : Bus) : (s.setBus x).record = s.record := rfl
@[simp] theorem State.setBus_resetHeld (x : Bus) : (s.setBus x).resetHeld = s.resetHeld := rfl
@[simp] theorem State.setBus_pending (x : Bus) : (s.setBus x).pending = s.pending := rfl

/-! ### setLink -/

@[simp] theorem State.setLink_ports (x : Link) : (s.setLink x).ports = s.ports := rfl
@[simp] theorem State.setLink_hot (x : Link) : (s.setLink x).hot = s.hot := rfl
@[simp] theorem State.setLink_sensors (x : Link) : (s.setLink x).sensors = s.sensors := rfl
@[simp] theorem State.setLink_battery (x : Link) : (s.setLink x).battery = s.battery := rfl
@[simp] theorem State.setLink_voices (x : Link) : (s.setLink x).voices = s.voices := rfl
@[simp] theorem State.setLink_audio (x : Link) : (s.setLink x).audio = s.audio := rfl
@[simp] theorem State.setLink_signals (x : Link) : (s.setLink x).signals = s.signals := rfl
@[simp] theorem State.setLink_entries (x : Link) : (s.setLink x).entries = s.entries := rfl
@[simp] theorem State.setLink_staging (x : Link) : (s.setLink x).staging = s.staging := rfl
@[simp] theorem State.setLink_stageMiss (x : Link) : (s.setLink x).stageMiss = s.stageMiss := rfl
@[simp] theorem State.setLink_halt (x : Link) : (s.setLink x).halt = s.halt := rfl
@[simp] theorem State.setLink_bus (x : Link) : (s.setLink x).bus = s.bus := rfl
@[simp] theorem State.setLink_link (x : Link) : (s.setLink x).link = x := rfl
@[simp] theorem State.setLink_clock (x : Link) : (s.setLink x).clock = s.clock := rfl
@[simp] theorem State.setLink_station (x : Link) : (s.setLink x).station = s.station := rfl
@[simp] theorem State.setLink_record (x : Link) : (s.setLink x).record = s.record := rfl
@[simp] theorem State.setLink_resetHeld (x : Link) : (s.setLink x).resetHeld = s.resetHeld := rfl
@[simp] theorem State.setLink_pending (x : Link) : (s.setLink x).pending = s.pending := rfl

/-! ### setClock -/

@[simp] theorem State.setClock_ports (x : Clock) : (s.setClock x).ports = s.ports := rfl
@[simp] theorem State.setClock_hot (x : Clock) : (s.setClock x).hot = s.hot := rfl
@[simp] theorem State.setClock_sensors (x : Clock) : (s.setClock x).sensors = s.sensors := rfl
@[simp] theorem State.setClock_battery (x : Clock) : (s.setClock x).battery = s.battery := rfl
@[simp] theorem State.setClock_voices (x : Clock) : (s.setClock x).voices = s.voices := rfl
@[simp] theorem State.setClock_audio (x : Clock) : (s.setClock x).audio = s.audio := rfl
@[simp] theorem State.setClock_signals (x : Clock) : (s.setClock x).signals = s.signals := rfl
@[simp] theorem State.setClock_entries (x : Clock) : (s.setClock x).entries = s.entries := rfl
@[simp] theorem State.setClock_staging (x : Clock) : (s.setClock x).staging = s.staging := rfl
@[simp] theorem State.setClock_stageMiss (x : Clock) : (s.setClock x).stageMiss = s.stageMiss := rfl
@[simp] theorem State.setClock_halt (x : Clock) : (s.setClock x).halt = s.halt := rfl
@[simp] theorem State.setClock_bus (x : Clock) : (s.setClock x).bus = s.bus := rfl
@[simp] theorem State.setClock_link (x : Clock) : (s.setClock x).link = s.link := rfl
@[simp] theorem State.setClock_clock (x : Clock) : (s.setClock x).clock = x := rfl
@[simp] theorem State.setClock_station (x : Clock) : (s.setClock x).station = s.station := rfl
@[simp] theorem State.setClock_record (x : Clock) : (s.setClock x).record = s.record := rfl
@[simp] theorem State.setClock_resetHeld (x : Clock) : (s.setClock x).resetHeld = s.resetHeld := rfl
@[simp] theorem State.setClock_pending (x : Clock) : (s.setClock x).pending = s.pending := rfl

/-! ### setStation -/

@[simp] theorem State.setStation_ports (x : Station) : (s.setStation x).ports = s.ports := rfl
@[simp] theorem State.setStation_hot (x : Station) : (s.setStation x).hot = s.hot := rfl
@[simp] theorem State.setStation_sensors (x : Station) : (s.setStation x).sensors = s.sensors := rfl
@[simp] theorem State.setStation_battery (x : Station) : (s.setStation x).battery = s.battery := rfl
@[simp] theorem State.setStation_voices (x : Station) : (s.setStation x).voices = s.voices := rfl
@[simp] theorem State.setStation_audio (x : Station) : (s.setStation x).audio = s.audio := rfl
@[simp] theorem State.setStation_signals (x : Station) : (s.setStation x).signals = s.signals := rfl
@[simp] theorem State.setStation_entries (x : Station) : (s.setStation x).entries = s.entries := rfl
@[simp] theorem State.setStation_staging (x : Station) : (s.setStation x).staging = s.staging := rfl
@[simp] theorem State.setStation_stageMiss (x : Station) :
    (s.setStation x).stageMiss = s.stageMiss := rfl
@[simp] theorem State.setStation_halt (x : Station) : (s.setStation x).halt = s.halt := rfl
@[simp] theorem State.setStation_bus (x : Station) : (s.setStation x).bus = s.bus := rfl
@[simp] theorem State.setStation_link (x : Station) : (s.setStation x).link = s.link := rfl
@[simp] theorem State.setStation_clock (x : Station) : (s.setStation x).clock = s.clock := rfl
@[simp] theorem State.setStation_station (x : Station) : (s.setStation x).station = x := rfl
@[simp] theorem State.setStation_record (x : Station) : (s.setStation x).record = s.record := rfl
@[simp] theorem State.setStation_resetHeld (x : Station) :
    (s.setStation x).resetHeld = s.resetHeld := rfl
@[simp] theorem State.setStation_pending (x : Station) : (s.setStation x).pending = s.pending := rfl

/-! ### setStaging -/

@[simp] theorem State.setStaging_ports (x : List Staged) : (s.setStaging x).ports = s.ports := rfl
@[simp] theorem State.setStaging_hot (x : List Staged) : (s.setStaging x).hot = s.hot := rfl
@[simp] theorem State.setStaging_sensors (x : List Staged) :
    (s.setStaging x).sensors = s.sensors := rfl
@[simp] theorem State.setStaging_battery (x : List Staged) :
    (s.setStaging x).battery = s.battery := rfl
@[simp] theorem State.setStaging_voices (x : List Staged) :
    (s.setStaging x).voices = s.voices := rfl
@[simp] theorem State.setStaging_audio (x : List Staged) : (s.setStaging x).audio = s.audio := rfl
@[simp] theorem State.setStaging_signals (x : List Staged) :
    (s.setStaging x).signals = s.signals := rfl
@[simp] theorem State.setStaging_entries (x : List Staged) :
    (s.setStaging x).entries = s.entries := rfl
@[simp] theorem State.setStaging_staging (x : List Staged) : (s.setStaging x).staging = x := rfl
@[simp] theorem State.setStaging_stageMiss (x : List Staged) :
    (s.setStaging x).stageMiss = s.stageMiss := rfl
@[simp] theorem State.setStaging_halt (x : List Staged) : (s.setStaging x).halt = s.halt := rfl
@[simp] theorem State.setStaging_bus (x : List Staged) : (s.setStaging x).bus = s.bus := rfl
@[simp] theorem State.setStaging_link (x : List Staged) : (s.setStaging x).link = s.link := rfl
@[simp] theorem State.setStaging_clock (x : List Staged) : (s.setStaging x).clock = s.clock := rfl
@[simp] theorem State.setStaging_station (x : List Staged) :
    (s.setStaging x).station = s.station := rfl
@[simp] theorem State.setStaging_record (x : List Staged) :
    (s.setStaging x).record = s.record := rfl
@[simp] theorem State.setStaging_resetHeld (x : List Staged) :
    (s.setStaging x).resetHeld = s.resetHeld := rfl
@[simp] theorem State.setStaging_pending (x : List Staged) :
    (s.setStaging x).pending = s.pending := rfl

/-! ### setLane -/

@[simp] theorem State.setLane_ports (l : Fin 4) (x : Lane) : (s.setLane l x).ports = s.ports := rfl
@[simp] theorem State.setLane_hot (l : Fin 4) (x : Lane) : (s.setLane l x).hot = s.hot := rfl
@[simp] theorem State.setLane_sensors (l : Fin 4) (x : Lane) :
    (s.setLane l x).sensors = s.sensors := rfl
@[simp] theorem State.setLane_battery (l : Fin 4) (x : Lane) :
    (s.setLane l x).battery = s.battery := rfl
@[simp] theorem State.setLane_voices (l : Fin 4) (x : Lane) :
    (s.setLane l x).voices = s.voices := rfl
@[simp] theorem State.setLane_audio (l : Fin 4) (x : Lane) : (s.setLane l x).audio = s.audio := rfl
@[simp] theorem State.setLane_signals (l : Fin 4) (x : Lane) :
    (s.setLane l x).signals = s.signals := rfl
@[simp] theorem State.setLane_entries (l : Fin 4) (x : Lane) :
    (s.setLane l x).entries = s.entries := rfl
@[simp] theorem State.setLane_staging (l : Fin 4) (x : Lane) :
    (s.setLane l x).staging = s.staging := rfl
@[simp] theorem State.setLane_stageMiss (l : Fin 4) (x : Lane) :
    (s.setLane l x).stageMiss = s.stageMiss := rfl
@[simp] theorem State.setLane_halt (l : Fin 4) (x : Lane) : (s.setLane l x).halt = s.halt := rfl
@[simp] theorem State.setLane_bus (l : Fin 4) (x : Lane) : (s.setLane l x).bus = s.bus := rfl
@[simp] theorem State.setLane_clock (l : Fin 4) (x : Lane) : (s.setLane l x).clock = s.clock := rfl
@[simp] theorem State.setLane_station (l : Fin 4) (x : Lane) :
    (s.setLane l x).station = s.station := rfl
@[simp] theorem State.setLane_record (l : Fin 4) (x : Lane) :
    (s.setLane l x).record = s.record := rfl
@[simp] theorem State.setLane_resetHeld (l : Fin 4) (x : Lane) :
    (s.setLane l x).resetHeld = s.resetHeld := rfl
@[simp] theorem State.setLane_pending (l : Fin 4) (x : Lane) :
    (s.setLane l x).pending = s.pending := rfl

/-! ### Reads after writes -/

@[simp] theorem State.port_setPort (k : Fin 4) (x : Port) : (s.setPort k x).port k = x := by
  simp [State.port, State.setPort]

theorem State.port_setPort_ne {k j : Fin 4} (x : Port) (h : k ≠ j) :
    (s.setPort k x).port j = s.port j := by
  have hv : k.val ≠ j.val := fun e => h (Fin.ext e)
  simp [State.port, State.setPort, hv]

@[simp] theorem State.sensor_setSensor (k : Fin 4) (x : Sensor) : (s.setSensor k x).sensor k = x := by
  simp [State.sensor, State.setSensor]

theorem State.sensor_setSensor_ne {k j : Fin 4} (x : Sensor) (h : k ≠ j) :
    (s.setSensor k x).sensor j = s.sensor j := by
  have hv : k.val ≠ j.val := fun e => h (Fin.ext e)
  simp [State.sensor, State.setSensor, hv]

@[simp] theorem State.voice_setVoice (k : Fin 3) (x : Voice) : (s.setVoice k x).voice k = x := by
  simp [State.voice, State.setVoice]

theorem State.voice_setVoice_ne {k j : Fin 3} (x : Voice) (h : k ≠ j) :
    (s.setVoice k x).voice j = s.voice j := by
  have hv : k.val ≠ j.val := fun e => h (Fin.ext e)
  simp [State.voice, State.setVoice, hv]

@[simp] theorem State.signal_setSignal (k : Fin 16) (x : Signal) : (s.setSignal k x).signal k = x := by
  simp [State.signal, State.setSignal]

theorem State.signal_setSignal_ne {k j : Fin 16} (x : Signal) (h : k ≠ j) :
    (s.setSignal k x).signal j = s.signal j := by
  have hv : k.val ≠ j.val := fun e => h (Fin.ext e)
  simp [State.signal, State.setSignal, hv]

@[simp] theorem State.entry_setEntry (k : Fin 16) (x : Entry) : (s.setEntry k x).entry k = x := by
  simp [State.entry, State.setEntry]

theorem State.entry_setEntry_ne {k j : Fin 16} (x : Entry) (h : k ≠ j) :
    (s.setEntry k x).entry j = s.entry j := by
  have hv : k.val ≠ j.val := fun e => h (Fin.ext e)
  simp [State.entry, State.setEntry, hv]

@[simp] theorem State.lane_setLane (k : Fin 4) (x : Lane) : (s.setLane k x).lane k = x := by
  simp [State.lane, State.setLane, State.setLink]

theorem State.lane_setLane_ne {k j : Fin 4} (x : Lane) (h : k ≠ j) :
    (s.setLane k x).lane j = s.lane j := by
  have hv : k.val ≠ j.val := fun e => h (Fin.ext e)
  simp [State.lane, State.setLane, State.setLink, hv]

@[simp] theorem State.port_setSensor_other (k : Fin 4) (p : Fin 4) (x : Sensor) :
    (s.setSensor p x).port k = s.port k := rfl
@[simp] theorem State.port_setVoice_other (k : Fin 4) (v : Fin 3) (x : Voice) :
    (s.setVoice v x).port k = s.port k := rfl
@[simp] theorem State.port_setSignal_other (k : Fin 4) (i : Fin 16) (x : Signal) :
    (s.setSignal i x).port k = s.port k := rfl
@[simp] theorem State.port_setEntry_other (k : Fin 4) (n : Fin 16) (x : Entry) :
    (s.setEntry n x).port k = s.port k := rfl
@[simp] theorem State.port_setAudio_other (k : Fin 4) (x : Audio) :
    (s.setAudio x).port k = s.port k := rfl
@[simp] theorem State.port_setHalt_other (k : Fin 4) (x : Halt) :
    (s.setHalt x).port k = s.port k := rfl
@[simp] theorem State.port_setBus_other (k : Fin 4) (x : Bus) :
    (s.setBus x).port k = s.port k := rfl
@[simp] theorem State.port_setLink_other (k : Fin 4) (x : Link) :
    (s.setLink x).port k = s.port k := rfl
@[simp] theorem State.port_setClock_other (k : Fin 4) (x : Clock) :
    (s.setClock x).port k = s.port k := rfl
@[simp] theorem State.port_setStation_other (k : Fin 4) (x : Station) :
    (s.setStation x).port k = s.port k := rfl
@[simp] theorem State.port_setStaging_other (k : Fin 4) (x : List Staged) :
    (s.setStaging x).port k = s.port k := rfl
@[simp] theorem State.port_setLane_other (k : Fin 4) (l : Fin 4) (x : Lane) :
    (s.setLane l x).port k = s.port k := rfl
@[simp] theorem State.sensor_setPort_other (k : Fin 4) (p : Fin 4) (x : Port) :
    (s.setPort p x).sensor k = s.sensor k := rfl
@[simp] theorem State.sensor_setVoice_other (k : Fin 4) (v : Fin 3) (x : Voice) :
    (s.setVoice v x).sensor k = s.sensor k := rfl
@[simp] theorem State.sensor_setSignal_other (k : Fin 4) (i : Fin 16) (x : Signal) :
    (s.setSignal i x).sensor k = s.sensor k := rfl
@[simp] theorem State.sensor_setEntry_other (k : Fin 4) (n : Fin 16) (x : Entry) :
    (s.setEntry n x).sensor k = s.sensor k := rfl
@[simp] theorem State.sensor_setAudio_other (k : Fin 4) (x : Audio) :
    (s.setAudio x).sensor k = s.sensor k := rfl
@[simp] theorem State.sensor_setHalt_other (k : Fin 4) (x : Halt) :
    (s.setHalt x).sensor k = s.sensor k := rfl
@[simp] theorem State.sensor_setBus_other (k : Fin 4) (x : Bus) :
    (s.setBus x).sensor k = s.sensor k := rfl
@[simp] theorem State.sensor_setLink_other (k : Fin 4) (x : Link) :
    (s.setLink x).sensor k = s.sensor k := rfl
@[simp] theorem State.sensor_setClock_other (k : Fin 4) (x : Clock) :
    (s.setClock x).sensor k = s.sensor k := rfl
@[simp] theorem State.sensor_setStation_other (k : Fin 4) (x : Station) :
    (s.setStation x).sensor k = s.sensor k := rfl
@[simp] theorem State.sensor_setStaging_other (k : Fin 4) (x : List Staged) :
    (s.setStaging x).sensor k = s.sensor k := rfl
@[simp] theorem State.sensor_setLane_other (k : Fin 4) (l : Fin 4) (x : Lane) :
    (s.setLane l x).sensor k = s.sensor k := rfl
@[simp] theorem State.voice_setPort_other (k : Fin 3) (p : Fin 4) (x : Port) :
    (s.setPort p x).voice k = s.voice k := rfl
@[simp] theorem State.voice_setSensor_other (k : Fin 3) (p : Fin 4) (x : Sensor) :
    (s.setSensor p x).voice k = s.voice k := rfl
@[simp] theorem State.voice_setSignal_other (k : Fin 3) (i : Fin 16) (x : Signal) :
    (s.setSignal i x).voice k = s.voice k := rfl
@[simp] theorem State.voice_setEntry_other (k : Fin 3) (n : Fin 16) (x : Entry) :
    (s.setEntry n x).voice k = s.voice k := rfl
@[simp] theorem State.voice_setAudio_other (k : Fin 3) (x : Audio) :
    (s.setAudio x).voice k = s.voice k := rfl
@[simp] theorem State.voice_setHalt_other (k : Fin 3) (x : Halt) :
    (s.setHalt x).voice k = s.voice k := rfl
@[simp] theorem State.voice_setBus_other (k : Fin 3) (x : Bus) :
    (s.setBus x).voice k = s.voice k := rfl
@[simp] theorem State.voice_setLink_other (k : Fin 3) (x : Link) :
    (s.setLink x).voice k = s.voice k := rfl
@[simp] theorem State.voice_setClock_other (k : Fin 3) (x : Clock) :
    (s.setClock x).voice k = s.voice k := rfl
@[simp] theorem State.voice_setStation_other (k : Fin 3) (x : Station) :
    (s.setStation x).voice k = s.voice k := rfl
@[simp] theorem State.voice_setStaging_other (k : Fin 3) (x : List Staged) :
    (s.setStaging x).voice k = s.voice k := rfl
@[simp] theorem State.voice_setLane_other (k : Fin 3) (l : Fin 4) (x : Lane) :
    (s.setLane l x).voice k = s.voice k := rfl
@[simp] theorem State.signal_setPort_other (k : Fin 16) (p : Fin 4) (x : Port) :
    (s.setPort p x).signal k = s.signal k := rfl
@[simp] theorem State.signal_setSensor_other (k : Fin 16) (p : Fin 4) (x : Sensor) :
    (s.setSensor p x).signal k = s.signal k := rfl
@[simp] theorem State.signal_setVoice_other (k : Fin 16) (v : Fin 3) (x : Voice) :
    (s.setVoice v x).signal k = s.signal k := rfl
@[simp] theorem State.signal_setEntry_other (k : Fin 16) (n : Fin 16) (x : Entry) :
    (s.setEntry n x).signal k = s.signal k := rfl
@[simp] theorem State.signal_setAudio_other (k : Fin 16) (x : Audio) :
    (s.setAudio x).signal k = s.signal k := rfl
@[simp] theorem State.signal_setHalt_other (k : Fin 16) (x : Halt) :
    (s.setHalt x).signal k = s.signal k := rfl
@[simp] theorem State.signal_setBus_other (k : Fin 16) (x : Bus) :
    (s.setBus x).signal k = s.signal k := rfl
@[simp] theorem State.signal_setLink_other (k : Fin 16) (x : Link) :
    (s.setLink x).signal k = s.signal k := rfl
@[simp] theorem State.signal_setClock_other (k : Fin 16) (x : Clock) :
    (s.setClock x).signal k = s.signal k := rfl
@[simp] theorem State.signal_setStation_other (k : Fin 16) (x : Station) :
    (s.setStation x).signal k = s.signal k := rfl
@[simp] theorem State.signal_setStaging_other (k : Fin 16) (x : List Staged) :
    (s.setStaging x).signal k = s.signal k := rfl
@[simp] theorem State.signal_setLane_other (k : Fin 16) (l : Fin 4) (x : Lane) :
    (s.setLane l x).signal k = s.signal k := rfl
@[simp] theorem State.entry_setPort_other (k : Fin 16) (p : Fin 4) (x : Port) :
    (s.setPort p x).entry k = s.entry k := rfl
@[simp] theorem State.entry_setSensor_other (k : Fin 16) (p : Fin 4) (x : Sensor) :
    (s.setSensor p x).entry k = s.entry k := rfl
@[simp] theorem State.entry_setVoice_other (k : Fin 16) (v : Fin 3) (x : Voice) :
    (s.setVoice v x).entry k = s.entry k := rfl
@[simp] theorem State.entry_setSignal_other (k : Fin 16) (i : Fin 16) (x : Signal) :
    (s.setSignal i x).entry k = s.entry k := rfl
@[simp] theorem State.entry_setAudio_other (k : Fin 16) (x : Audio) :
    (s.setAudio x).entry k = s.entry k := rfl
@[simp] theorem State.entry_setHalt_other (k : Fin 16) (x : Halt) :
    (s.setHalt x).entry k = s.entry k := rfl
@[simp] theorem State.entry_setBus_other (k : Fin 16) (x : Bus) :
    (s.setBus x).entry k = s.entry k := rfl
@[simp] theorem State.entry_setLink_other (k : Fin 16) (x : Link) :
    (s.setLink x).entry k = s.entry k := rfl
@[simp] theorem State.entry_setClock_other (k : Fin 16) (x : Clock) :
    (s.setClock x).entry k = s.entry k := rfl
@[simp] theorem State.entry_setStation_other (k : Fin 16) (x : Station) :
    (s.setStation x).entry k = s.entry k := rfl
@[simp] theorem State.entry_setStaging_other (k : Fin 16) (x : List Staged) :
    (s.setStaging x).entry k = s.entry k := rfl
@[simp] theorem State.entry_setLane_other (k : Fin 16) (l : Fin 4) (x : Lane) :
    (s.setLane l x).entry k = s.entry k := rfl
@[simp] theorem State.isRunning_setPort (p : Fin 4) (x : Port) :
    (s.setPort p x).isRunning = s.isRunning := rfl
@[simp] theorem State.isWithdrawn_setPort (p : Fin 4) (x : Port) :
    (s.setPort p x).isWithdrawn = s.isWithdrawn := rfl
@[simp] theorem State.isRunning_setSensor (p : Fin 4) (x : Sensor) :
    (s.setSensor p x).isRunning = s.isRunning := rfl
@[simp] theorem State.isWithdrawn_setSensor (p : Fin 4) (x : Sensor) :
    (s.setSensor p x).isWithdrawn = s.isWithdrawn := rfl
@[simp] theorem State.isRunning_setVoice (v : Fin 3) (x : Voice) :
    (s.setVoice v x).isRunning = s.isRunning := rfl
@[simp] theorem State.isWithdrawn_setVoice (v : Fin 3) (x : Voice) :
    (s.setVoice v x).isWithdrawn = s.isWithdrawn := rfl
@[simp] theorem State.isRunning_setSignal (i : Fin 16) (x : Signal) :
    (s.setSignal i x).isRunning = s.isRunning := rfl
@[simp] theorem State.isWithdrawn_setSignal (i : Fin 16) (x : Signal) :
    (s.setSignal i x).isWithdrawn = s.isWithdrawn := rfl
@[simp] theorem State.isRunning_setEntry (n : Fin 16) (x : Entry) :
    (s.setEntry n x).isRunning = s.isRunning := rfl
@[simp] theorem State.isWithdrawn_setEntry (n : Fin 16) (x : Entry) :
    (s.setEntry n x).isWithdrawn = s.isWithdrawn := rfl
@[simp] theorem State.isRunning_setAudio (x : Audio) : (s.setAudio x).isRunning = s.isRunning := rfl
@[simp] theorem State.isWithdrawn_setAudio (x : Audio) :
    (s.setAudio x).isWithdrawn = s.isWithdrawn := rfl
@[simp] theorem State.isWithdrawn_setHalt (x : Halt) :
    (s.setHalt x).isWithdrawn = s.isWithdrawn := rfl
@[simp] theorem State.isRunning_setBus (x : Bus) : (s.setBus x).isRunning = s.isRunning := rfl
@[simp] theorem State.isRunning_setLink (x : Link) : (s.setLink x).isRunning = s.isRunning := rfl
@[simp] theorem State.isWithdrawn_setLink (x : Link) :
    (s.setLink x).isWithdrawn = s.isWithdrawn := rfl
@[simp] theorem State.isRunning_setClock (x : Clock) : (s.setClock x).isRunning = s.isRunning := rfl
@[simp] theorem State.isWithdrawn_setClock (x : Clock) :
    (s.setClock x).isWithdrawn = s.isWithdrawn := rfl
@[simp] theorem State.isRunning_setStation (x : Station) :
    (s.setStation x).isRunning = s.isRunning := rfl
@[simp] theorem State.isWithdrawn_setStation (x : Station) :
    (s.setStation x).isWithdrawn = s.isWithdrawn := rfl
@[simp] theorem State.isRunning_setStaging (x : List Staged) :
    (s.setStaging x).isRunning = s.isRunning := rfl
@[simp] theorem State.isWithdrawn_setStaging (x : List Staged) :
    (s.setStaging x).isWithdrawn = s.isWithdrawn := rfl

/-- R186: a part that is not held in reset carries the event out. -/
theorem State.whenAwake_awake {s : State} (h : s.resetHeld = []) (f : State → State) :
    s.whenAwake f = ends (f s) := by simp [State.whenAwake, h]

/-- R186: a part that is held in reset ignores it. -/
theorem State.whenAwake_held {s : State} (h : s.resetHeld ≠ []) (f : State → State) :
    s.whenAwake f = .next s := by simp [State.whenAwake, h]

end Sys2Proof.Machine
end

