-- ==== Sys2Proof/Laws/Reach.lean ====
section
/-! SUPPORT. How far each shared operation reaches: the records of the state it can change. One
lemma per operation says that everything else stands. -/

namespace Sys2Proof.Machine

/-- `t` is `s` but for the tablet link. -/
def OnlyLink (s t : State) : Prop := ∃ k, t = s.setLink k

/-- `t` is `s` but for the bus station and the tablet link. -/
def OnlyBusLink (s t : State) : Prop := ∃ b k, t = (s.setBus b).setLink k

/-- `t` is `s` but for what an update of a signal can reach: the ports, the voices and their gate,
the signals, the listen table, stage miss, the bus station and the tablet link. -/
def OnlyUpdate (s t : State) : Prop :=
  ∃ ports voices audio signals entries miss b k,
    t = { s with ports := ports, voices := voices, audio := audio, signals := signals,
                 entries := entries, stageMiss := miss, bus := b, link := k }

/-- `t` is `s` but for what a halt cause can reach: all that an update can, the staging list and the
halt controller. -/
def OnlyHalt (s t : State) : Prop :=
  ∃ ports voices audio signals entries staging miss halt b k,
    t = { s with ports := ports, voices := voices, audio := audio, signals := signals,
                 entries := entries, staging := staging, stageMiss := miss, halt := halt, bus := b,
                 link := k }

theorem OnlyLink.refl (s : State) : OnlyLink s s := ⟨s.link, rfl⟩

theorem OnlyLink.trans {s t u : State} (h : OnlyLink s t) (g : OnlyLink t u) : OnlyLink s u := by
  obtain ⟨k, rfl⟩ := h; obtain ⟨k', rfl⟩ := g; exact ⟨k', rfl⟩

theorem OnlyBusLink.refl (s : State) : OnlyBusLink s s := ⟨s.bus, s.link, rfl⟩

theorem OnlyBusLink.trans {s t u : State} (h : OnlyBusLink s t) (g : OnlyBusLink t u) :
    OnlyBusLink s u := by
  obtain ⟨b, k, rfl⟩ := h; obtain ⟨b', k', rfl⟩ := g; exact ⟨b', k', rfl⟩

theorem OnlyUpdate.refl (s : State) : OnlyUpdate s s :=
  ⟨s.ports, s.voices, s.audio, s.signals, s.entries, s.stageMiss, s.bus, s.link, rfl⟩

theorem OnlyUpdate.trans {s t u : State} (h : OnlyUpdate s t) (g : OnlyUpdate t u) :
    OnlyUpdate s u := by
  obtain ⟨_, _, _, _, _, _, _, _, rfl⟩ := h
  obtain ⟨p, v, a, i, e, m, b, k, rfl⟩ := g
  exact ⟨p, v, a, i, e, m, b, k, rfl⟩

theorem OnlyHalt.refl (s : State) : OnlyHalt s s :=
  ⟨s.ports, s.voices, s.audio, s.signals, s.entries, s.staging, s.stageMiss, s.halt, s.bus, s.link,
    rfl⟩

theorem OnlyHalt.trans {s t u : State} (h : OnlyHalt s t) (g : OnlyHalt t u) : OnlyHalt s u := by
  obtain ⟨_, _, _, _, _, _, _, _, _, _, rfl⟩ := h
  obtain ⟨p, v, a, i, e, l, m, c, b, k, rfl⟩ := g
  exact ⟨p, v, a, i, e, l, m, c, b, k, rfl⟩

theorem OnlyLink.bus {s t : State} (h : OnlyLink s t) : OnlyBusLink s t := by
  obtain ⟨k, rfl⟩ := h; exact ⟨s.bus, k, rfl⟩

theorem OnlyBusLink.update {s t : State} (h : OnlyBusLink s t) : OnlyUpdate s t := by
  obtain ⟨b, k, rfl⟩ := h
  exact ⟨s.ports, s.voices, s.audio, s.signals, s.entries, s.stageMiss, b, k, rfl⟩

theorem OnlyUpdate.halt {s t : State} (h : OnlyUpdate s t) : OnlyHalt s t := by
  obtain ⟨p, v, a, i, e, m, b, k, rfl⟩ := h
  exact ⟨p, v, a, i, e, s.staging, m, s.halt, b, k, rfl⟩

/-- A fold of operations reaches as far as each of them. -/
theorem foldl_reaches {α : Type} {R : State → State → Prop} (refl : ∀ s, R s s)
    (trans : ∀ {s t u}, R s t → R t u → R s u) {f : State → α → State}
    (h : ∀ s x, R s (f s x)) (l : List α) (s : State) : R s (l.foldl f s) := by
  induction l generalizing s with
  | nil => exact refl s
  | cons x l ih => exact trans (h s x) (ih (f s x))

/-! ### The tablet link -/

theorem setLane_only (l : Fin 4) (x : Lane) (s : State) : OnlyLink s (s.setLane l x) := ⟨_, rfl⟩

theorem tell_only (l : Fin 4) (m : OutMsg) (s : State) : OnlyLink s (tell l m s) := by
  unfold tell; split
  · exact setLane_only _ _ s
  · exact .refl s

theorem notify_only (a b c : Nat) (s : State) : OnlyLink s (notify a b c s) := tell_only _ _ s

theorem tabletReply_only (st tk : Nat) (r : Result) (d : List Byte) (s : State) :
    OnlyLink s (tabletReply st tk r d s) := tell_only _ _ s

theorem statusAsk_only (s : State) : OnlyLink s (statusAsk s) := by
  unfold statusAsk; split
  · exact .refl s
  · exact tell_only _ _ s

theorem reportOrigin_only (o : Option Origin) (r : Option Result) (s : State) :
    OnlyLink s (reportOrigin o r s) := by
  unfold reportOrigin
  cases o with
  | none => exact .refl s
  | some o =>
    cases r with
    | none => exact ⟨_, rfl⟩
    | some r => exact OnlyLink.trans ⟨_, rfl⟩ (tabletReply_only ..)

/-! ### The transmit queue -/

theorem setBus_only (b : Bus) (s : State) : OnlyBusLink s (s.setBus b) := ⟨b, s.link, rfl⟩

theorem frameLost_only (f : Frame) (s : State) : OnlyBusLink s (frameLost f s) := by
  unfold frameLost
  split
  · exact (reportOrigin_only ..).bus
  · exact setBus_only _ s
  · exact .refl s

theorem frameDropped_only (r : Result) (f : Frame) (s : State) :
    OnlyLink s (frameDropped r f s) := by
  unfold frameDropped
  split
  · exact reportOrigin_only ..
  · exact .refl s

theorem joinQueue_only (f : Frame) (s : State) : OnlyBusLink s (joinQueue f s).1 := by
  unfold joinQueue
  split
  · exact setBus_only _ s
  · split
    · exact .refl s
    · split
      · exact (setBus_only _ s).trans (frameLost_only ..)
      · exact .refl s

theorem addFrame_only (k : FrameKind) (r : Nat) (p : List Byte) (o : Option Origin) (s : State) :
    OnlyBusLink s (addFrame k r p o s).1 := (setBus_only _ s).trans (joinQueue_only ..)

theorem publishRequest_only (i : Fin 16) (s : State) : OnlyBusLink s (publishRequest i s) := by
  unfold publishRequest
  dsimp only
  split
  · exact .refl s
  · split
    · exact setBus_only _ s
    · exact addFrame_only ..

theorem goRequest_only (g : Nat) (s : State) : OnlyBusLink s (goRequest g s).1 := by
  unfold goRequest
  split
  · exact .refl s
  · split
    · exact .refl s
    · exact addFrame_only ..

theorem replyRequest_only (d : Nat) (p : List Byte) (s : State) :
    OnlyBusLink s (replyRequest d p s) := by
  unfold replyRequest
  split
  · exact .refl s
  · exact addFrame_only ..

theorem announceRequest_only (s : State) : OnlyBusLink s (announceRequest s) := by
  unfold announceRequest
  dsimp only
  split
  · exact .refl s
  · split
    · exact .refl s
    · split
      · exact addFrame_only ..
      · exact (addFrame_only ..).trans (setBus_only ..)

theorem commandRequest_only (o : Origin) (b c : Nat) (a : List Byte) (s : State) :
    OnlyBusLink s (commandRequest o b c a s) := by
  unfold commandRequest
  dsimp only
  split
  · exact (tabletReply_only ..).bus
  · split
    · exact (addFrame_only ..).trans ⟨_, _, rfl⟩
    · exact (addFrame_only ..).trans (tabletReply_only ..).bus

theorem busReply_only (d tk : Nat) (a : Answer) (s : State) :
    OnlyBusLink s (busReply d tk a s) :=
  foldl_reaches (R := OnlyBusLink) OnlyBusLink.refl OnlyBusLink.trans
    (fun s _ => replyRequest_only _ _ s) _ s

theorem dropSending_only (s : State) : OnlyBusLink s (dropSending s) := by
  unfold dropSending
  split
  · exact .refl s
  · exact (setBus_only ..).trans (frameDropped_only ..).bus

theorem abandonFrame_only (s : State) : OnlyBusLink s (abandonFrame s) := by
  unfold abandonFrame
  split
  · exact .refl s
  · dsimp only
    split
    · exact dropSending_only s
    · refine (setBus_only { s.bus with sending := none } s).trans ?_
      split
      · exact .refl _
      · split
        · exact .refl _
        · split
          · exact (frameDropped_only ..).bus
          · split
            · exact joinQueue_only ..
            · exact (joinQueue_only ..).trans (frameLost_only ..)

theorem startBreak_only (s : State) : OnlyBusLink s (startBreak s) := by
  unfold startBreak
  split
  · exact .refl s
  · exact (abandonFrame_only s).trans (setBus_only ..)

/-! ### Updates of signals -/

theorem OnlyUpdate.setPort (p : Fin 4) (x : Port) (s : State) : OnlyUpdate s (s.setPort p x) :=
  ⟨_, s.voices, s.audio, s.signals, s.entries, s.stageMiss, s.bus, s.link, rfl⟩

theorem OnlyUpdate.setVoice (v : Fin 3) (x : Voice) (s : State) : OnlyUpdate s (s.setVoice v x) :=
  ⟨s.ports, _, s.audio, s.signals, s.entries, s.stageMiss, s.bus, s.link, rfl⟩

theorem OnlyUpdate.setAudio (x : Audio) (s : State) : OnlyUpdate s (s.setAudio x) :=
  ⟨s.ports, s.voices, x, s.signals, s.entries, s.stageMiss, s.bus, s.link, rfl⟩

theorem OnlyUpdate.setSignal (i : Fin 16) (x : Signal) (s : State) :
    OnlyUpdate s (s.setSignal i x) :=
  ⟨s.ports, s.voices, s.audio, _, s.entries, s.stageMiss, s.bus, s.link, rfl⟩

theorem OnlyUpdate.setEntry (n : Fin 16) (x : Entry) (s : State) : OnlyUpdate s (s.setEntry n x) :=
  ⟨s.ports, s.voices, s.audio, s.signals, _, s.stageMiss, s.bus, s.link, rfl⟩

theorem suspendEntry_only (n : Fin 16) (s : State) : OnlyUpdate s (suspendEntry n s) := by
  unfold suspendEntry; split
  · exact .setEntry ..
  · exact .refl s

theorem suspendSource_only (src : Source) (s : State) : OnlyUpdate s (suspendSource src s) := by
  unfold suspendSource; split
  · exact suspendEntry_only ..
  · exact .refl s

theorem suspendVoiceSource_only (src : VoiceSource) (s : State) :
    OnlyUpdate s (suspendVoiceSource src s) := by
  unfold suspendVoiceSource; split
  · exact suspendEntry_only ..
  · exact .refl s

theorem reportQueueLow_only (v : Fin 3) (s : State) : OnlyUpdate s (reportQueueLow v s) :=
  (tell_only ..).bus.update

theorem reportIdle_only (v : Fin 3) (s : State) : OnlyUpdate s (reportIdle v s) :=
  (tell_only ..).bus.update

theorem startStopTimer_only (s : State) : OnlyUpdate s (startStopTimer s) := by
  unfold startStopTimer; split
  · exact .setAudio ..
  · exact .refl s

theorem becomeIdle_only (v : Fin 3) (s : State) : OnlyUpdate s (becomeIdle v s) := by
  unfold becomeIdle
  dsimp only
  split
  · exact .setVoice ..
  · exact (OnlyUpdate.setVoice ..).trans ((reportIdle_only ..).trans (startStopTimer_only _))

theorem startSound_only (v : Fin 3) (snd : Sound) (s : State) :
    OnlyUpdate s (startSound v snd s) := by
  unfold startSound
  dsimp only
  split
  · split
    · exact (OnlyUpdate.setVoice ..).trans (reportQueueLow_only ..)
    · exact .setVoice ..
  · exact .setVoice ..

theorem leaveWaiting_only (v : Fin 3) (s : State) : OnlyUpdate s (leaveWaiting v s) := by
  unfold leaveWaiting; split
  · exact startSound_only ..
  · exact becomeIdle_only ..

theorem requestClock_only (v : Fin 3) (s : State) : OnlyUpdate s (requestClock v s) := by
  unfold requestClock
  split
  · split
    · exact .setAudio ..
    · exact .refl s
  · exact .refl s
  · exact (OnlyUpdate.setAudio _ s).trans (leaveWaiting_only ..)

theorem enterWaiting_only (v : Fin 3) (s : State) : OnlyUpdate s (enterWaiting v s) :=
  (OnlyUpdate.setVoice v _ s).trans (requestClock_only ..)

theorem chooseSound_only (v : Fin 3) (s : State) : OnlyUpdate s (chooseSound v s) := by
  unfold chooseSound
  split
  · exact becomeIdle_only ..
  · split
    · exact enterWaiting_only ..
    · exact startSound_only ..

theorem endSound_only (v : Fin 3) (s : State) : OnlyUpdate s (endSound v s) :=
  (OnlyUpdate.setVoice v _ s).trans (chooseSound_only ..)

theorem enterRelease_only (v : Fin 3) (level : Nat) (s : State) :
    OnlyUpdate s (enterRelease v level s) := by
  unfold enterRelease
  dsimp only
  split
  · exact endSound_only ..
  · exact .setVoice ..

theorem cutNote_only (v : Fin 3) (s : State) : OnlyUpdate s (cutNote v s) := by
  unfold cutNote
  dsimp only
  split
  · split
    · split
      · exact endSound_only ..
      · exact enterRelease_only ..
    · exact .refl s
  · exact .refl s

theorem cutTone_only (v : Fin 3) (s : State) : OnlyUpdate s (cutTone v s) := by
  unfold cutTone
  dsimp only
  split
  · exact enterRelease_only ..
  · exact .refl s

theorem bindingEnded_only (v : Fin 3) (s : State) : OnlyUpdate s (bindingEnded v s) := by
  unfold bindingEnded
  split
  · split
    · exact .refl s
    · exact chooseSound_only ..
  · exact cutTone_only ..

theorem bindPitch_only (v : Fin 3) (n : Fin 16) (s : State) : OnlyUpdate s (bindPitch v n s) :=
  (OnlyUpdate.setVoice v _ s).trans (cutNote_only ..)

theorem valuePitch_only (v : Fin 3) (n : Fin 16) (x : Int) (s : State) :
    OnlyUpdate s (valuePitch v n x s) := by
  unfold valuePitch
  dsimp only
  split
  · split
    · exact .setVoice ..
    · split
      · exact (OnlyUpdate.setVoice v _ s).trans (chooseSound_only ..)
      · exact .setVoice ..
  · exact .refl s

theorem releasePitch_only (v : Fin 3) (n : Fin 16) (s : State) :
    OnlyUpdate s (releasePitch v n s) := by
  unfold releasePitch
  split
  · exact (OnlyUpdate.setVoice v _ s).trans (bindingEnded_only ..)
  · exact .refl s

theorem valueVolume_only (v : Fin 3) (n : Fin 16) (x : Int) (s : State) :
    OnlyUpdate s (valueVolume v n x s) := by
  unfold valueVolume; split
  · exact .setVoice ..
  · exact .refl s

theorem releaseVolume_only (v : Fin 3) (n : Fin 16) (s : State) :
    OnlyUpdate s (releaseVolume v n s) := by
  unfold releaseVolume; split
  · exact .setVoice ..
  · exact .refl s

theorem valuePort_only (p : Fin 4) (n : Fin 16) (v : Int) (s : State) :
    OnlyUpdate s (valuePort p n v s) := by
  unfold valuePort
  dsimp only
  split
  · split
    · exact .setPort ..
    · exact .setPort ..
    · exact .setPort ..
    · exact .refl s
  · exact .refl s

theorem goTrigger_only (n : Fin 16) (g : Nat) (out : Int) (s : State) :
    OnlyUpdate s (goTrigger n g out s).1 := by
  unfold goTrigger
  dsimp only
  split
  · split
    · split
      · exact (OnlyUpdate.setEntry ..).trans (goRequest_only ..).update
      · exact .setEntry ..
    · exact .refl s
  · exact .setEntry ..

theorem sendOutput_only (n : Fin 16) (d : Destination) (out : Int) (s : State) :
    OnlyUpdate s (sendOutput n d out s).1 := by
  unfold sendOutput
  cases d with
  | motorPower | motorSpeed | motorPosition => exact valuePort_only ..
  | voicePitch => exact valuePitch_only ..
  | voiceVolume => exact valueVolume_only ..
  | goTrigger => exact goTrigger_only ..

theorem takeValue_only (n : Fin 16) (v : Int) (s : State) :
    OnlyUpdate s (takeValue n v s).1 := by
  unfold takeValue
  dsimp only
  split
  · exact .refl s
  · exact (OnlyUpdate.setEntry n _ s).trans (sendOutput_only ..)

theorem offerEntry_only (src : Nat) (i : Fin 16) (v : Int) (t : State × Nat) (n : Fin 16) :
    OnlyUpdate t.1 (offerEntry src i v t n).1 := by
  unfold offerEntry; split
  · exact takeValue_only ..
  · exact .refl _

theorem offerValue_only (src : Nat) (i : Fin 16) (v : Int) (s : State) :
    OnlyUpdate s (offerValue src i v s).1 := by
  suffices h : ∀ (l : List (Fin 16)) (t : State × Nat),
      OnlyUpdate t.1 (l.foldl (offerEntry src i v) t).1 from h sixteen (s, 0)
  intro l
  induction l with
  | nil => exact fun t => .refl t.1
  | cons n l ih => exact fun t => (offerEntry_only src i v t n).trans (ih _)

theorem offerOwn_only (i : Fin 16) (v : Int) (s : State) :
    OnlyUpdate s (offerOwn i v s).1 := by
  unfold offerOwn
  split
  · exact offerValue_only ..
  · exact .refl s

theorem testPublish_only (i : Fin 16) (s : State) : OnlyBusLink s (testPublish i s) := by
  unfold testPublish; split
  · exact publishRequest_only ..
  · exact .refl s

theorem publishUpdate_only (i : Fin 16) (s : State) : OnlyBusLink s (publishUpdate i s) := by
  unfold publishUpdate; split
  · exact publishRequest_only ..
  · exact testPublish_only ..

theorem watchOwn_only (i : Fin 16) (v : Int) (s : State) : OnlyLink s (watchOwn i v s) := by
  unfold watchOwn
  split
  · exact .refl s
  · dsimp only
    split
    · exact OnlyLink.trans ⟨_, rfl⟩ (tell_only ..)
    · exact ⟨_, rfl⟩

theorem watchHeard_only (st ix : Nat) (v : Int) (s : State) :
    OnlyLink s (watchHeard st ix v s) := by
  unfold watchHeard; split
  · exact tell_only ..
  · exact .refl s

section

variable {miss : State → State} (hm : ∀ s, OnlyUpdate s (miss s))
include hm

theorem afterMisses_only (t : State × Nat) : OnlyUpdate t.1 (afterMisses miss t) := by
  obtain ⟨s, k⟩ := t
  induction k with
  | zero => exact .refl s
  | succ k ih => exact ih.trans (hm _)

theorem updateWith_only (i : Fin 16) (v : Int) (s : State) :
    OnlyUpdate s (updateWith miss i v s) :=
  (OnlyUpdate.setSignal i _ s).trans ((offerOwn_only ..).trans
    ((publishUpdate_only ..).update.trans ((watchOwn_only ..).bus.update.trans
      (afterMisses_only hm (_, _)))))

end

theorem missAgain_only (s : State) : OnlyUpdate s (missAgain s) := (notify_only ..).bus.update

/-- R116: setting stage miss reaches what an update of signal 15 reaches. -/
theorem setStageMiss_only (s : State) : OnlyUpdate s (setStageMiss s) := by
  unfold setStageMiss
  split
  · exact missAgain_only s
  · dsimp only
    refine OnlyUpdate.trans ?_ ((updateWith_only missAgain_only ..).trans (missAgain_only _))
    exact ⟨s.ports, s.voices, s.audio, s.signals, s.entries, true, s.bus, s.link, rfl⟩

/-- R87: an update of a signal. -/
theorem updateSignal_only (i : Fin 16) (v : Int) (s : State) : OnlyUpdate s (updateSignal i v s) :=
  updateWith_only setStageMiss_only ..

theorem clearStageMiss_only (s : State) : OnlyUpdate s (clearStageMiss s) := by
  unfold clearStageMiss
  split
  · refine OnlyUpdate.trans ?_ (updateSignal_only ..)
    exact ⟨s.ports, s.voices, s.audio, s.signals, s.entries, false, s.bus, s.link, rfl⟩
  · exact .refl s

theorem noteEvents_only (p : Fin 4) (was : Port) (s : State) :
    OnlyUpdate s (noteEvents p was s) := by
  unfold noteEvents
  dsimp only
  split
  · exact .refl s
  · exact updateSignal_only ..

/-! ### Halt causes -/

theorem OnlyHalt.setHalt (h : Halt) (s : State) : OnlyHalt s (s.setHalt h) :=
  ⟨s.ports, s.voices, s.audio, s.signals, s.entries, s.staging, s.stageMiss, h, s.bus, s.link, rfl⟩

theorem OnlyHalt.setStaging (l : List Staged) (s : State) : OnlyHalt s (s.setStaging l) :=
  ⟨s.ports, s.voices, s.audio, s.signals, s.entries, l, s.stageMiss, s.halt, s.bus, s.link, rfl⟩

theorem putPort_only (p : Fin 4) (x : Port) (s : State) : OnlyHalt s (putPort p x s) :=
  (OnlyUpdate.setPort p x s).halt.trans (.setHalt ..)

theorem testHalted_only (s : State) : OnlyHalt s (testHalted s) := by
  unfold testHalted; split
  · exact (OnlyHalt.setHalt _ s).trans (updateSignal_only ..).halt
  · exact .refl s

theorem coastPort_only (p : Fin 4) (s : State) : OnlyHalt s (coastPort p s) :=
  (putPort_only ..).trans (testHalted_only _)

theorem silenceAll_only (s : State) : OnlyUpdate s (silenceAll s) := by
  refine OnlyUpdate.trans ?_ (.setAudio ..)
  refine foldl_reaches (R := OnlyUpdate) OnlyUpdate.refl OnlyUpdate.trans (fun s v => ?_) _ s
  exact (OnlyUpdate.setVoice v _ s).trans (becomeIdle_only ..)

theorem haltEntry_only (c : CauseKind) (at_ : Option CausePort) (s : State) :
    OnlyHalt s (haltEntry c at_ s) := by
  refine OnlyHalt.trans (t := recordFirst c at_ s) (.setHalt ..) ?_
  refine OnlyHalt.trans (t := haltBreak c (recordFirst c at_ s)) ?_ ?_
  · unfold haltBreak; split
    · exact (startBreak_only _).update.halt
    · exact .refl _
  refine OnlyHalt.trans (t := fourPorts.foldl (haltPort c at_) (haltBreak c (recordFirst c at_ s)))
    (foldl_reaches OnlyHalt.refl OnlyHalt.trans (fun s p => putPort_only p _ s) _ _) ?_
  refine (silenceAll_only _).halt.trans ((OnlyHalt.setStaging [] _).trans ?_)
  refine OnlyHalt.trans ?_ (testHalted_only _)
  refine OnlyHalt.trans ?_ (notify_only ..).bus.update.halt
  exact OnlyHalt.trans (setBus_only ..).update.halt (updateSignal_only ..).halt

theorem furtherCause_only (c : CauseKind) (at_ : Option CausePort) (s : State) :
    OnlyHalt s (furtherCause c at_ s) := by
  unfold furtherCause
  dsimp only
  refine OnlyHalt.trans ?_ (foldl_reaches (R := OnlyHalt) OnlyHalt.refl OnlyHalt.trans
    (fun s p => ?_) _ _)
  · split
    · exact .refl s
    · exact .setHalt ..
  · split
    · exact coastPort_only ..
    · exact .refl s

/-- R121, R127: a halt cause. -/
theorem giveCause_only (c : CauseKind) (at_ : Option CausePort) (s : State) :
    OnlyHalt s (giveCause c at_ s) := by
  unfold giveCause; split
  · exact haltEntry_only ..
  · exact furtherCause_only ..

/-- R160, R116: the answer of a command. -/
theorem answered_only (via : Via) (t : Taken) : OnlyUpdate t.1 (answered via t) := by
  unfold answered
  split
  · exact .refl _
  · split
    · exact (tabletReply_only ..).bus.update
    · exact (busReply_only ..).update
    · exact .refl _
    · split
      · exact .refl _
      · exact setStageMiss_only _

/-- R160: the answer of a command that was not staged, or was accepted, reaches the bus station and
the tablet link alone. -/
theorem answered_onlyBusLink (via : Via) (s : State) (a : Answer)
    (h : via ≠ .staged ∨ a.result.accepted = true) :
    OnlyBusLink s (answered via (s, some a)) := by
  unfold answered
  cases via with
  | tablet => exact (tabletReply_only ..).bus
  | bus => exact busReply_only ..
  | broadcast => exact .refl s
  | staged =>
    rcases h with h | h
    · exact absurd rfl h
    · simp [h]; exact .refl s

/-! ### Restart and resets -/

/-- R163: a pending Restart touches the Station block alone. -/
theorem awaitRestart_only (r : RestartReply) (s : State) :
    ∃ x, awaitRestart r s = s.setStation x ∧ x.restartPending = some r
      ∧ x.resetCause = s.station.resetCause ∧ x.recordInvalid = s.station.recordInvalid
      ∧ x.propagateHalt = s.station.propagateHalt := ⟨_, rfl, rfl, rfl, rfl, rfl⟩

/-- R163: what the leaving of frames does to a pending Restart: nothing, or the reset. -/
theorem restartAfter_cases (s : State) :
    (restartFrameGone s = false ∧ restartAfter s = s)
      ∨ (restartFrameGone s = true ∧ restartAfter s = beginReset .command s) := by
  cases h : restartFrameGone s <;> simp [restartAfter, h]

theorem restartAfter_none {s : State} (h : s.station.restartPending = none) : restartAfter s = s := by
  simp [restartAfter, restartFrameGone, h]

theorem restartAfter_message {s : State} (h : s.station.restartPending = some .message) :
    restartAfter s = s := by
  simp [restartAfter, restartFrameGone, h]

/-- R163: while the Reply frame waits or is in transmission, the Restart waits for it. -/
theorem restartAfter_waits {s : State} {stamp : Nat}
    (h : s.station.restartPending = some (.frame stamp))
    (hf : ∃ f ∈ s.bus.sending.toList ++ s.bus.queue, f.stamp = stamp) : restartAfter s = s := by
  obtain ⟨f, hm, hs⟩ := hf
  have gone : restartFrameGone s = false := by
    simp only [restartFrameGone, h, Bool.not_eq_false', List.any_eq_true]
    exact ⟨f, hm, by simp [hs]⟩
  simp [restartAfter, gone]

/-- R163: all that the end of an event can do: nothing, or the reset of a Restart whose Reply frame is gone. -/
theorem ends_cases {s t : State} (h : ends s = .next t) :
    (restartFrameGone s = false ∧ t = s) ∨ (restartFrameGone s = true ∧ t = beginReset .command s) := by
  cases h
  exact restartAfter_cases s

/-- R163: an event at whose end no Restart waits for a frame leaves its effects as they are. -/
theorem ends_next {s : State} (h : ∀ k, s.station.restartPending ≠ some (.frame k)) :
    ends s = .next s := by
  have gone : restartFrameGone s = false := by
    unfold restartFrameGone
    split
    · exact absurd ‹_› (h _)
    · rfl
    · rfl
  simp [ends, restartAfter, gone]

/-- R163, R186: no Restart is pending in the image of a reset. -/
@[simp] theorem readImage_restartPending (k : ResetKind) (straps : Nat) (s : State) :
    (readImage k straps s).station.restartPending = none := by
  unfold readImage
  split <;> rfl

@[simp] theorem beginReset_restartPending (k : ResetKind) (s : State) :
    (beginReset k s).station.restartPending = none := readImage_restartPending ..

/-- R186: a reset that begins keeps the serial, the bytes of the record and the waiting commands, and
holds the part. -/
theorem beginReset_keeps (k : ResetKind) (s : State) :
    (beginReset k s).bus.serial = s.bus.serial ∧ (beginReset k s).pending = s.pending
      ∧ (beginReset k s).record.bytes = s.record.bytes ∧ k ∈ (beginReset k s).resetHeld := by
  unfold beginReset readImage resetImage
  split <;> simp [Bus.fresh] <;> split <;> simp_all

end Sys2Proof.Machine
end

