-- ==== Sys2Proof/Tests/Slice0.lean ====
section
/-! SUPPORT. Tests: an ill-formed command for each check of WellFormed, the reading of a table word,
steps with the values of the manual's own tables and worked examples, and, for each statement of
Certificates/Slice0/Obligations.lean that has hypotheses, a witness that meets those of each of its
clauses. -/

namespace Sys2Proof.Tests

open Sys2Proof Sys2Proof.Machine

-- One test after another: elaborated side by side they take more threads than a build may have.
set_option Elab.async false

/-! ### Helpers -/

/-- A station that is awake: its clock on the PLL, not Withdrawn, its bus receiver Idle and its
tablet link Present. -/
def ready : State := { State.reset with
  clock := ⟨.onPLL, .running, .locked, none, some 1, none⟩
  bus := { State.reset.bus with withdrawn := [], receiver := .idle }
  link := { State.reset.link with present := true, timer := some 2000, receiver := .ready }
  signals := State.reset.signals.set 15 { Signal.freshStatus with value := 256 } }

def onPort (f : Port → Port) : State := ready.setPort 0 (f (ready.port 0))
def onSensor (f : Sensor → Sensor) : State := ready.setSensor 0 (f (ready.sensor 0))
def onVoice (f : Voice → Voice) : State := ready.setVoice 0 (f (ready.voice 0))
def onEntry (f : Entry → Entry) : State := ready.setEntry 0 (f (ready.entry 0))
def onBus (f : Bus → Bus) : State := ready.setBus (f ready.bus)
def onLink (f : Link → Link) : State := ready.setLink (f ready.link)
def onClock (f : Clock → Clock) : State := ready.setClock (f ready.clock)
def halted : State := ready.setHalt { ready.halt with state := .halted, first := some .tabletHalt }
def halting : State := ready.setHalt { ready.halt with
  state := .halting, first := some .tabletHalt, safeTimer := some 3000 }

/-- The state a command leaves. -/
def run (c : Instr) (s : State) : State :=
  match exec c s with
  | .next t => t
  | _ => s

/-- The tablet's own path, to this station, with token 7. -/
def here : Via := .tablet 15 7

/-! ### Well-formed commands: one that each check refuses -/

theorem test_wf_index : (Instr.coast here 16).wellFormed = false := by decide
theorem test_wf_path : (Instr.coast (.tablet 16 0) 0).wellFormed = false := by decide
theorem test_wf_path_token : (Instr.coast (.bus 3 256) 0).wellFormed = false := by decide
theorem test_wf_path_source : (Instr.coast (.bus 16 0) 0).wellFormed = false := by decide
theorem test_wf_staged : (Instr.halt .staged 0).wellFormed = false := by decide
theorem test_wf_signed16 : (Instr.setPower here 0 32768).wellFormed = false := by decide
theorem test_wf_signed24 : (Instr.setPosition here 0 (-8388609)).wellFormed = false := by decide
theorem test_wf_byte : (Instr.setRamp here 0 0 256).wellFormed = false := by decide
theorem test_wf_word : (Instr.setLimits here 0 65536 0 0 0).wellFormed = false := by decide
theorem test_wf_note_wave : (Instr.note here 1 ⟨0, 4, 0, 60, 100, 80⟩).wellFormed = false := by decide
theorem test_wf_note_kind : (Instr.note here 1 ⟨4, 0, 0, 60, 100, 80⟩).wellFormed = false := by decide
theorem test_wf_note_form : (Instr.note here 1 ⟨0, 0, 2, 60, 100, 80⟩).wellFormed = false := by decide
theorem test_wf_note_pitch :
    (Instr.note here 1 ⟨0, 0, 0, 65536, 100, 80⟩).wellFormed = false := by decide
theorem test_wf_stale : (Instr.setEntryStale here 0 0 1 (some 40000)).wellFormed = false := by decide
theorem test_wf_stage_args :
    (Instr.stage here 1 1 0 22 (List.replicate 8 0)).wellFormed = false := by decide
theorem test_wf_stage_index : (Instr.stage here 1 1 16 22 []).wellFormed = false := by decide
theorem test_wf_lane : (Instr.setLaneMode 256 0 0).wellFormed = false := by decide
theorem test_wf_store : (Instr.storeStartRecord 0 (List.replicate 29 0)).wellFormed = false := by decide
theorem test_wf_hold : (Instr.watchHoldExpiry 8).wellFormed = false := by decide
theorem test_wf_slot : (Instr.queueTimeout (.queued 8)).wellFormed = false := by decide
theorem test_wf_message : (Instr.tabletMessageValid [0x7E, 0]).wellFormed = false := by decide
theorem test_wf_frame : (Instr.frameCompletion (List.replicate 16 0)).wellFormed = false := by decide
theorem test_wf_good : (Instr.setPattern here 1 2 7 255).wellFormed = true
    ∧ (Instr.frameCompletion (List.replicate 15 0)).wellFormed = true
    ∧ (Instr.coast .staged 15).wellFormed = true := by decide

/-! ### Words of the table: the table gives no bits, so no word spells a command -/

theorem test_decode_none : decodeTableWord 16 0x1010 = none := by decide
theorem test_fetch_unchanged : State.reset.withFetchWord 16 0x1010 = State.reset := by decide +kernel

/-! ### Motor ports -/

/-- Table 1-4: port C at period `k`, its position `pos` and its accumulator `acc`; the duty limit 1000
and the supply ceiling 400 of the example. -/
def table14 (pos acc : Int) : Int × Int :=
  let s := { ready with battery := { ready.battery with ceiling := 400, filtered := 6000 } }
  let x := { s.port 2 with mode := .position, target := 1200, reference := 1200, position := pos,
                           acc := acc }
  let t := run (.regulationPeriod 2 0) (s.setPort 2 x)
  ((t.port 2).duty, (t.port 2).acc)

theorem test_regulator_table_1_4 :
    [table14 1000 0, table14 1050 0, table14 1100 0, table14 1160 200, table14 1210 280]
      = [(400, 0), (400, 0), (300, 200), (121, 280), (-29, 260)] := by decide +kernel

/-- R10, worked example of chapter 5: 14 counts in 8 periods are 350 counts/s; duty 225. -/
theorem test_speed_regulator :
    let s := onPort fun x => { x with
      mode := .speed, target := 933, reference := 400, position := 14, acc := 51200,
      dutyLimit := 700 }
    let t := run (.regulationPeriod 0 0) s
    (t.port 0).speed = 350 ∧ (t.port 0).duty = 225 ∧ (t.port 0).acc = 51400 := by decide +kernel

/-- Table 1-9: a command takes a bound port, and its entry becomes Suspended. -/
theorem test_set_speed_suspends :
    let s := (ready.setPort 0 { ready.port 0 with mode := .speed, source := .listen 2 }).setEntry 2
      { Entry.fresh with state := .enabled, route := some ⟨3, 1, .motorSpeed 0⟩ }
    let t := run (.setSpeed here 0 (-300)) s
    (t.port 0).source = .command ∧ (t.port 0).target = -300 ∧ (t.entry 2).state = .suspended
      ∧ (t.lane 1).outbound.map OutSlot.msg = [.reply 15 7 0 []] := by decide +kernel

/-- Table 1-10: port D at a halt that a Stall on port B begins. -/
theorem test_safe_ramp_table_1_10 :
    let x := { ready.port 3 with
      mode := .position, target := 5000, reference := 4990, position := 4990, stepCode := 6,
      periodCode := 2, safeAction := .rampLowerThenCoast }
    let t := giveCause .stall (some (.motor 1)) (ready.setPort 3 x)
    (t.port 3).mode = .safeRamp ∧ (t.port 3).captured = some (-180) ∧ (t.port 3).target = -180
      ∧ t.halt.state = .halting ∧ (run .safeTimerExpiry t).halt.state = .halted
      ∧ ((run .safeTimerExpiry t).port 3).mode = .coast
      ∧ ((run (.setPresets here 3 (-500) 500) t).port 3).captured = some (-180) := by decide +kernel

/-- R14: a change to Coast leaves the stall count at 0, also when the port is driven again at once. -/
theorem test_coast_clears_stall_count :
    let s := onPort fun x => { x with mode := .power, duty := 900, stallCount := 7 }
    ((run (.setPower here 0 900) (run (.coast here 0) s)).port 0).stallCount = 0
      ∧ ((run (.setPower here 0 900) s).port 0).stallCount = 7 := by decide +kernel

theorem test_coast_and_brake :
    let s := onPort fun x => { x with mode := .speed, target := 90, duty := 40, bridge := .driven }
    ((run (.coast here 0) s).port 0).bridge = .floating ∧ ((run (.coast here 0) s).port 0).duty = 0
      ∧ ((run (.brake here 0) s).port 0).bridge = .shorted := by decide +kernel

/-- R12: a Power target beyond the effective limit, applied at once. -/
theorem test_power_clamped :
    let s := onPort fun x => { x with dutyLimit := 600 }
    ((run (.setPower here 0 (-1500)) s).port 0).target = -1000
      ∧ ((run (.setPower here 0 (-1500)) s).port 0).duty = -600 := by decide +kernel

/-- R20: a Plain port takes no position command. -/
theorem test_plain_port_refuses :
    (run (.setPosition here 0 50) (onPort fun x => { x with kind := .plain })).lane 1
      = { ready.lane 1 with outbound := [⟨.reply 15 7 8 [], true⟩] } := by decide +kernel

/-- R6: the fourth illegal transition within 100 ms loses the encoder; the one at 100 ms does not. -/
theorem test_encoder_lost :
    let s := onPort fun x => { x with mode := .speed, illegal := [0, 40000, 60000] }
    ((run (.encoderIllegalTransition 0 99999) s).port 0).encoderLost = true
      ∧ ((run (.encoderIllegalTransition 0 99999) s).port 0).mode = .coast
      ∧ ((run (.encoderIllegalTransition 0 100000) s).port 0).encoderLost = false := by decide +kernel

/-- R5: the counter holds at its end. -/
theorem test_position_limit :
    let s := onPort fun x => { x with position := 8388607 }
    ((run (.encoderTransition 0 true) s).port 0).position = 8388607
      ∧ ((run (.encoderTransition 0 true) s).port 0).positionLimit = true
      ∧ ((run (.encoderTransition 0 false) s).port 0).position = 8388606 := by decide +kernel

/-- R13: four samples above the limit. -/
theorem test_overcurrent :
    let s := onPort fun x => { x with overCount := 3 }
    (run (.regulationPeriod 0 1501) s).halt.first = some .overcurrent
      ∧ (run (.regulationPeriod 0 1500) s).halt.first = none := by decide +kernel

/-- R16: the driver is Hot at 125 °C. -/
theorem test_thermal :
    (run (.temperatureSample 125) ready).halt.first = some .thermal
      ∧ (run (.temperatureSample 124) ready).halt.first = none := by decide +kernel

/-! ### Profiles and patterns -/

/-- The reference after one expiry of the step timer of a port in mode Position. -/
def rampStep (stepCode : Nat) (reference target : Int) : Int :=
  ((run (.profileStep 0) (onPort fun x => { x with
    mode := .position, stepCode := stepCode, periodCode := 5, stepTimer := some 30,
    reference := reference, target := target })).port 0).reference

theorem test_ramp_table_2_9 :
    [rampStep 4 100 160, rampStep 4 118 120, rampStep 4 120 50, rampStep 6 102 50, rampStep 6 54 50]
      = [106, 120, 114, 86, 50] := by decide +kernel

theorem test_move_by_table_2_9 :
    ((run (.moveBy here 0 (-40)) (onPort fun x => { x with
      mode := .position, target := 160, reference := 118, periodCode := 5 })).port 0).target = 120 := by
  decide +kernel

theorem test_sine_points_table_2_10 :
    ([8, 9, 10, 11, 12, 13, 14, 15, 16, 17, 24].map
      (Port.sinePoint { Port.fresh .encoded with lower := 0, upper := 301 }))
      = [300, 297, 289, 275, 256, 233, 207, 179, 150, 121, 0] := by decide +kernel

theorem test_sine_tie :
    let x := { Port.fresh .encoded with lower := 0, upper := 128 }
    x.sinePoint 1 = 77 ∧ x.sinePoint 17 = 51 := by decide +kernel

/-- Table 2-11: one step of port C from leg `leg` and reference `r`. -/
def triangleFrom (leg : Nat) (r : Int) : Int × Nat × Bool :=
  let x := ((run (.profileStep 0) (onPort fun x => { x with
    mode := .pattern, source := .pattern, waveform := some .triangle, stepCode := 7,
    periodCode := 1, stepTimer := some 5, startPoint := some 100, cyclesWanted := 1,
    pointIndex := leg, reference := r })).port 0)
  (x.reference, x.pointIndex, x.patternDone)

theorem test_triangle_table_2_11 :
    [triangleFrom 0 100, triangleFrom 0 164, triangleFrom 0 180, triangleFrom 1 (-172),
      triangleFrom 2 (-180), triangleFrom 2 76]
      = [(132, 0, false), (180, 0, false), (148, 1, false), (-180, 2, false), (-148, 2, false),
         (108, 2, true)] := by decide +kernel

/-- Table 2-10: the start of the Sine pattern of port B. -/
theorem test_set_pattern_start :
    let s := onPort fun x => { x with lower := 0, upper := 301, periodCode := 3, position := 40 }
    let x := (run (.setPattern here 0 2 2 2) s).port 0
    x.mode = .pattern ∧ x.reference = 300 ∧ x.target = 297 ∧ x.stepTimer = some 15
      ∧ x.source = .pattern := by decide +kernel

theorem test_presets_order :
    (run (.setPresets here 0 10 10) ready).port 0 = ready.port 0
      ∧ ((run (.setPresets here 0 10 11) ready).port 0).upper = 11 := by decide +kernel

/-- Table 2-4: a new period code restarts the timer; the same one lets it go on. -/
theorem test_set_ramp :
    let s := onPort fun x => { x with mode := .position, periodCode := 5, stepTimer := some 30 }
    ((run (.setRamp here 0 6 5) s).port 0).stepTimer = some 30
      ∧ ((run (.setRamp here 0 6 2) s).port 0).stepTimer = some 10
      ∧ ((run (.setRamp here 0 6 0) s).port 0).stepTimer = none := by decide +kernel

theorem test_motor_settings :
    ((run (.setGains here 0 1 9 3) ready).port 0).spdKp = 9
      ∧ ((run (.setLimits here 0 400 99 500 1) ready).port 0).currentLimit = 100
      ∧ ((run (.setSafeAction here 0 3) ready).port 0).safeAction = .rampUpperThenCoast
      ∧ ((run (.setArrival here 0 9) ready).port 0).window = 9
      ∧ ((run (.zeroPosition here 0 77) ready).port 0).position = 77 := by decide +kernel

/-! ### Sensor ports and the battery monitor -/

/-- A seeded Level port at `filt`, with `n` samples of its condition counted. -/
def levelAt (filt : Int) (n : Nat) (active : Bool) (raw : Nat) : Int × Nat × Bool :=
  let t := run (.sensorSample 1 raw) (ready.setSensor 1 { ready.sensor 1 with
    seeded := true, filt := filt, debounce := n, active := active })
  ((t.sensor 1).filt, (t.sensor 1).debounce, (t.sensor 1).active)

theorem test_level_filter_table_3_4 :
    ([1000, 1003, 1005, 1006, 1007, 1008, 1009].map fun f => (levelAt f 0 false 1010).1)
      = [1003, 1005, 1006, 1007, 1008, 1009, 1009] := by decide +kernel

theorem test_level_port_table_3_6 :
    [levelAt 2000 0 false 2100, levelAt 2044 0 false 2100, levelAt 2069 2 false 2100,
      levelAt 2077 0 true 1950, levelAt 1990 0 true 1950, levelAt 1972 2 true 1950]
      = [(2025, 0, false), (2058, 1, false), (2077, 0, true), (2045, 0, true), (1980, 1, true),
         (1966, 0, false)] := by decide +kernel

/-- Table 3-7: the measurement of sensor port 4 ends with the count `a`. -/
def tuneMeasures (phase : TunePhase) (g o a : Nat) : Option Tune × Nat × Nat × TuneResult :=
  let x := ((run (.sensorSample 3 a) (ready.setSensor 3 { Sensor.fresh .touch 2000 false with
    tuning := some ⟨phase, 5, 3 * a⟩, gain := g, offset := o })).sensor 3)
  (x.tuning, x.gain, x.offset, x.tuneResult)

theorem test_tune_table_3_7 :
    [tuneMeasures .gain 1 0 900, tuneMeasures .gain 3 0 2650, tuneMeasures (.offset 32 0) 3 32 1530,
      tuneMeasures (.offset 16 0) 3 16 2090, tuneMeasures (.offset 2 16) 3 18 2020,
      tuneMeasures (.offset 1 18) 3 19 1985, tuneMeasures .final 3 18 2018,
      tuneMeasures .final 3 18 2140]
      = [(some ⟨.gain, 0, 0⟩, 2, 0, .none), (some ⟨.offset 32 0, 0, 0⟩, 3, 32, .none),
         (some ⟨.offset 16 0, 0, 0⟩, 3, 16, .none), (some ⟨.offset 8 16, 0, 0⟩, 3, 24, .none),
         (some ⟨.offset 1 18, 0, 0⟩, 3, 19, .none), (some ⟨.final, 0, 0⟩, 3, 18, .none),
         (none, 3, 18, .tuneDone), (none, 3, 18, .outOfWindow)] := by decide +kernel

/-- Table 3-10: the monitor after a reading. -/
def batteryAt (filtered : Int) (lowCount : Nat) (low : Bool) (mv : Nat) : Int × Nat × Nat × Nat × Bool :=
  let b := (run (.batteryReading mv) { ready with
    battery := ⟨filtered, supplyCeiling filtered, supplyPercentage filtered, lowCount, low⟩ }).battery
  (b.filtered, b.ceiling, b.percentage, b.lowCount, b.low)

theorem test_battery_table_3_10 :
    [batteryAt 6200 0 false 5400, batteryAt 5850 0 false 5400, batteryAt 5653 0 false 5400,
      batteryAt 5590 1 false 5400, batteryAt 5542 0 true 6400, batteryAt 5918 0 true 6400]
      = [(6000, 400, 40, 0, false), (5737, 400, 40, 0, false), (5590, 400, 40, 1, false),
         (5542, 400, 40, 0, true), (5757, 400, 40, 0, true), (6039, 419, 41, 0, false)] := by
  decide +kernel

theorem test_supply_table_3_8 :
    [(supplyCeiling 6600, supplyPercentage 6600), (supplyCeiling 7199, supplyPercentage 7199)]
      = [(700, 70), (999, 99)] := by decide +kernel

theorem test_switch_port :
    let s := ready.setSensor 0 { Sensor.fresh .switch 2000 false with length := 1 }
    ((run (.sensorSample 0 1) s).signal 0).value = 1
      ∧ ((run (.sensorSample 0 1) s).signal 13).value = 1 := by decide +kernel

/-! ### Voices -/

theorem test_pitch_table_4_6 :
    [pitchIncrement (.number 24), pitchIncrement (.number 60), pitchIncrement (.number 69),
      pitchIncrement (.number 95), pitchIncrement (.number 108), pitchIncrement (.hertz 440),
      pitchIncrement (.hertz 8000), pitchIncrement (.number 64)]
      = [17556, 140445, 236223, 1060642, 2247342, 236223, 4294967, 176953] := by decide +kernel

/-- Table 4-8: one sample of a square at full envelope and a sine halfway through its attack. -/
def table48 : State :=
  let a := { Voice.fresh with
    state := .sustain, sound := some (.note ⟨false, some (.number 69), 1000, 80, .square⟩),
    env := 256, acc := 3000000 - 236223, inc := 236223, lastWave := some .square, noteTime := 32000 }
  let b := { Voice.fresh with
    state := .attack, sound := some (.note ⟨false, some (.number 60), 1000, 50, .sine⟩),
    phaseMs := 10, phaseTime := 4968, env := 127, volumeScale := 60, acc := 2800000 - 140445,
    inc := 140445, lastWave := some .sine }
  { ready with
    voices := #v[a, b, Voice.fresh]
    audio := { Audio.fresh with gate := .on }
    battery := ⟨6600, 700, 70, 0, false⟩ }

theorem test_mix_table_4_8 :
    let t := run .audioSample table48
    (t.voice 0).level = 818 ∧ (t.voice 1).level = 127 ∧ (t.voice 2).level = 0
      ∧ t.audio.speaker = 41 := by decide +kernel

/-- Table 4-10, at 0 and 2 ms. -/
theorem test_note_table_4_10 :
    let t := run (.note here 2 ⟨0, 1, 0, 60, 200, 100⟩) ready
    let u := run .gateStartExpiry t
    (t.voice 1).state = .waiting ∧ (t.voice 1).queue.length = 1 ∧ t.audio.gate = .starting
      ∧ t.audio.startTimer = some 2 ∧ (u.voice 1).state = .attack ∧ (u.voice 1).queue = []
      ∧ (u.voice 1).inc = 140445 ∧ u.audio.gate = .on
      ∧ (u.lane 2).outbound.map OutSlot.msg = [.progress false 2 0] := by decide +kernel

theorem test_wave_values_table_4_7 :
    (waveValue .square 0, waveValue .sawtooth 0, waveValue .triangle 0, waveValue .sine 0)
      = (1023, -1024, -1024, 0) := by decide +kernel

theorem test_voice_settings :
    ((run (.setEnvelope here 1 600 90) ready).voice 0).attackMs = 500
      ∧ ((run (.setVoiceScale here 3 101) ready).voice 2).volumeScale = 100
      ∧ (run (.setMasterVolume here 1 20) ready).audio.master = 20
      ∧ (run (.clearVoice here 1) table48).voice 0 ≠ table48.voice 0 := by decide +kernel

/-! ### Signals and the listen table -/

/-- Table 5-8: the transform of an entry. -/
def transformed (weight offset lower upper : Int) (d : Destination) (v : Int) : Int :=
  Entry.transform { Entry.fresh with weight := weight, offset := offset, lower := lower, upper := upper }
    d v

theorem test_transform_table_5_8 :
    [transformed 640 (-600) (-1200) 1200 (.motorSpeed 1) 613,
      transformed 640 (-600) (-1200) 1200 (.motorSpeed 1) (-613),
      transformed 512 0 (-32768) 32767 (.motorPower 0) 900,
      transformed 128 0 (-32768) 32767 (.motorPower 0) (-3),
      transformed 3 60 (-32768) 32767 (.voicePitch 0) 2000,
      transformed 32767 0 (-32768) 32767 (.goTrigger 1) 32767]
      = [933, -1200, 1000, -2, 83, 32767] := by decide +kernel

/-- Table 5-4, at 20 and 30 ms: the deadband is met, and a queued frame is refreshed. -/
theorem test_publish_table_5_4 :
    let s := ready.setSignal 1 { Signal.fresh with
      policy := .onChange, deadband := 20, value := 512, lastPublished := some 500 }
    let t := updateSignal 1 525 s
    let u := updateSignal 1 531 t
    t.bus.queue.map Frame.payload = [charsOf 2 525] ∧ u.bus.queue.map Frame.payload = [charsOf 2 531]
      ∧ (updateSignal 1 519 s).bus.queue = [] := by decide +kernel

/-- Table 5-12: a switch on this station that starts group 4. -/
theorem test_trigger_table_5_12 :
    let s := ready.setEntry 9 { Entry.fresh with
      state := .enabled, route := some ⟨1, 0, .goTrigger 4⟩, trigger := some 1 }
    let t := updateSignal 0 1 s
    (t.entry 9).armed = false ∧ t.bus.queue.map Frame.kind = [.go]
      ∧ (updateSignal 0 0 t).entry 9 = { t.entry 9 with
          armed := true, lastInput := some 0, lastOutput := some 0 } := by decide +kernel

/-- R97, R116: triggers on signal 15 whose Go is refused: every entry holds the newest word, which the
stage miss of the first one refused leaves. -/
theorem test_refused_triggers_on_status :
    let trigger := fun n : Nat => ({ Entry.fresh with
      state := .enabled, route := some ⟨1, 15, .goTrigger 1⟩, trigger := some n } : Entry)
    let s := ((ready.setBus { ready.bus with withdrawn := [.clock], number := some 1 }).setEntry 0
      (trigger 1)).setEntry 9 (trigger 30000)
    let t := updateSignal 15 320 s
    t.stageMiss = true ∧ (t.signal 15).value = 320 + 128 ∧ (t.entry 0).lastInput = some 448
      ∧ (t.entry 9).lastInput = some 448 := by decide +kernel

/-- Table 5-11: the fallback of entry 5 written to port B. -/
theorem test_age_table_5_11 :
    let s := (ready.setPort 1 { ready.port 1 with
        mode := .speed, source := .listen 5, target := 933, reference := 933, periodCode := 4 }).setEntry 5
      { Entry.fresh with
        state := .enabled, route := some ⟨3, 1, .motorSpeed 1⟩, timeout := 300, age := some 300,
        staleAction := .fallback, fallback := some 0 }
    let t := run (.ageTimerExpiry 5) s
    (t.entry 5).state = .stale ∧ (t.entry 5).lastOutput = some 0 ∧ (t.port 1).target = 0
      ∧ (t.port 1).reference = 933 := by decide +kernel

theorem test_enable_binds :
    let s := ready.setEntry 0 { Entry.fresh with
      state := .disabled, route := some ⟨3, 1, .motorPower 2⟩ }
    let t := run (.enable here 0) s
    (t.port 2).source = .listen 0 ∧ (t.port 2).mode = .power ∧ (t.entry 0).state = .enabled
      ∧ ((run (.disable here 0) t).port 2).mode = .coast
      ∧ (run (.free here 0) t).entry 0 = Entry.fresh := by decide +kernel

/-- R86, R193: the status word after reset is 64: Running, withdrawn, clock off the PLL. -/
theorem test_status_after_reset : (State.reset.signal 15).value = 64 := by decide +kernel

/-! ### Staging and group start -/

/-- Tables 6-2 and 6-3 at station 5: the list of group 3 with its corrected phase, and what the Go does. -/
def walker : State :=
  let s := (ready.setPort 2 (Port.fresh .none))
  let s := s.setPort 0 { s.port 0 with periodCode := 3 }
  let s := s.setPort 1 { s.port 1 with periodCode := 3 }
  s.setStaging [⟨3, 1, 0, 22, [2, 0, 0]⟩, ⟨3, 1, 1, 22, [2, 4, 0]⟩, ⟨3, 1, 2, 22, [2, 0, 0]⟩]

theorem test_stage_replaces_table_6_2 :
    let t := run (.stage here 3 1 1 22 [2, 3, 0]) walker
    t.staging.map Staged.args = [[2, 0, 0], [2, 3, 0], [2, 0, 0]]
      ∧ (t.lane 1).outbound.map OutSlot.msg = [.reply 15 7 1 [2, 3]] := by decide +kernel

theorem test_go_table_6_3 :
    let t := goApplied 3 walker
    (t.port 0).mode = .pattern ∧ (t.port 0).startIndex = 0 ∧ (t.port 1).startIndex = 16
      ∧ (t.port 2).mode = .coast ∧ t.staging = [] ∧ t.stageMiss = true
      ∧ (run (.cancelGroup here 3) walker).staging = [] := by decide +kernel

theorem test_go_queued :
    (run (.go here 3) ready).bus.queue.map (fun f => (f.kind, f.payload)) = [(.go, [3])] := by
  decide +kernel

/-! ### Halt, the Station block, clocks and resets -/

theorem test_halt_and_resume :
    let t := run (.halt here 0) ready
    t.halt.state = .halted ∧ t.halt.first = some .tabletHalt ∧ t.bus.breakSending = some 0
      ∧ (t.signal 15).value = 256 + 2 + 4 * 1
      ∧ (run (.resume here 0) t).halt.state = .running := by decide +kernel

/-- Table 7-5, station 2: a sensor that is still Active holds the station. -/
theorem test_resume_cause_active :
    let s := halted.setHalt { halted.halt with first := some .busBreak, further := [.sensorHalt] }
    let s := s.setSensor 0 { s.sensor 0 with haltInput := true, active := true }
    (run (.resume here 0) s).lane 1 = { s.lane 1 with
      outbound := [⟨.reply 15 7 14 [0, 1], true⟩] } := by decide +kernel

theorem test_restart_and_reset :
    let t := run (.restart here 0) (onPort fun x => { x with position := 9 })
    t.station.restartPending = some .message ∧ (run .restartReset t).resetHeld = [.command]
      ∧ ((run .restartReset t).port 0).position = 0
      ∧ (run (.resetEnd .command 6 6600) (run .restartReset t)).bus.number = some 6
      ∧ (run (.resetEnd .command 6 6600) (run .restartReset t)).battery.ceiling = 700
      ∧ (run (.resetEnd .command 6 6600) (run .restartReset t)).station.resetCause = .command := by
  decide +kernel

/-- R163: the reset of a Restart comes when its reply has left: as a message on the UART, or as the
station's own Reply frame on the bus. -/
theorem test_restart_follows_its_reply :
    let t := run .uartMessageStart (run (.restart here 0) ready)
    let u := run (.restart (.bus 3 7) 0) ready
    let w := run .busFrameStart u
    (t.link.sending.any SentMessage.restart = true ∧ t.resetHeld = []
        ∧ (run .uartMessageSent t).resetHeld = [.command])
      ∧ (u.resetHeld = [] ∧ w.resetHeld = []
        ∧ (run (.frameCompletion (encodeFrame (some 1) ⟨.reply, 3, [7, 0], 0, none, false⟩))
            w).resetHeld = [.command]) := by decide +kernel

/-- R163: so it does when a Go evicts the Reply frame from a full queue, and when a halt's break drops it from
transmission with the queue full. -/
def crowded (n : Nat) : State := onBus fun b => { b with
  queue := (List.range n).map (fun k => ⟨.command, 4, [0x10, 0x10, 9], k, none, false⟩), nextStamp := n }

theorem test_restart_reply_evicted :
    let t := run (.restart (.bus 3 7) 0) (crowded 7)
    t.station.restartPending = some (.frame 7) ∧ t.resetHeld = []
      ∧ (run .audioSample t).resetHeld = [] ∧ (run (.go here 1) t).resetHeld = [.command] := by
  decide +kernel

theorem test_restart_reply_dropped_by_break :
    let t := (crowded 8).setBus { (crowded 8).bus with
      sending := some ⟨.reply, 3, [7, 0], 0, none, false⟩, nextStamp := 9 }
    let t := t.setStation { t.station with restartPending := some (.frame 8) }
    let u := t.setBus { t.bus with sending := some ⟨.reply, 3, [7, 0], 8, none, false⟩ }
    (run (.halt here 0) u).resetHeld = [.command] ∧ (run .audioSample u).resetHeld = [] := by
  decide +kernel

/-- R116, R86: stage miss is bit 7 of signal 15, set and cleared. -/
theorem test_stage_miss :
    let t := setStageMiss ready
    t.stageMiss = true ∧ (t.signal 15).value = 256 + 128
      ∧ (clearStageMiss t).stageMiss = false ∧ ((clearStageMiss t).signal 15).value = 256 := by
  decide +kernel

/-- R152: a withdrawal drops the frame in transmission and then the queue, and tells the tablet BusFull
(15) for each of its Command frames. -/
theorem test_withdrawal_bus_full :
    let f := fun d : Nat => (⟨.command, d, [0x10, 0x10, 7], d, some ⟨d, 7⟩, false⟩ : Frame)
    let s := (onBus fun b => { b with queue := [f 4], sending := some (f 3), lineFaults := 15 }).setLink
      { ready.link with forwarded := 2 }
    let t := run .lineFault s
    (t.lane 1).outbound.map OutSlot.msg = [.reply 3 7 15 [], .reply 4 7 15 []]
      ∧ t.link.forwarded = 0 ∧ t.bus.queue = [] ∧ getBits 6 1 (t.signal 15).value = 1 := by
  decide +kernel

/-- R148, R140 case 1: a clock failure gives BusFull (15), not BusTimeout, to a Command in transmission whose
200 ms have passed, break or no break. -/
theorem test_clock_failure_expired_command :
    let s := fun propagate : Bool =>
      let s := (onBus fun b => { b with
        sending := some ⟨.command, 3, [0x10, 0x10, 7], 0, some ⟨3, 7⟩, true⟩ }).setLink
          { ready.link with forwarded := 1 }
      run .pllLockLost (s.setStation { s.station with propagateHalt := propagate })
    (((s true).lane 1).outbound.map OutSlot.msg = [.reply 3 7 15 []]
        ∧ (s true).bus.breakSending = some 0 ∧ (s true).link.forwarded = 0)
      ∧ ((s false).lane 1).outbound.map OutSlot.msg = [.reply 3 7 15 []] := by decide +kernel

/-- Table 11-4: from the crystal to the first Event and Announce. -/
theorem test_start_up_table_11_4 :
    let t := run .crystalDetected State.reset
    let u := run .pllLock t
    let w := run .switchComplete u
    t.clock.startTimer = some 10 ∧ u.clock.state = .switching ∧ w.clock.state = .onPLL
      ∧ w.bus.withdrawn = [] ∧ w.bus.queue.map Frame.kind = [.event, .announce]
      ∧ (w.signal 15).value = 256 := by decide +kernel

/-- R181: the start timer's expiry. -/
theorem test_clock_start_fails :
    let t := run .clockStartTimerExpiry State.reset
    t.clock.state = .onRCFailed ∧ t.halt.first = some .clockLost
      ∧ (run (.clockRetry here 0) t).clock.state = .onRCStarting := by decide +kernel

/-- R188: the CRC-8 of one character 0xFF from 0xFF is 0, of 0x00 the remainder of eight ones. -/
theorem test_crc8 : crc8 [0xFF] = 0 ∧ crc8 [0x00] = 0xF3 := by decide +kernel

/-- R188: the CRC-16 of "123456789", polynomial 0x1021 from 0xFFFF, is the known check 0x29B1. -/
theorem test_crc16 :
    crc16 [0x31, 0x32, 0x33, 0x34, 0x35, 0x36, 0x37, 0x38, 0x39] = 0x29B1 := by decide +kernel

/-! ### The tablet link and the brick bus -/

/-- Table 10-6: C3 waits at the head once two Command frames are under way, and C4 behind it. -/
theorem test_burst_table_10_6 :
    let s := (onLink fun k => { k with forwarded := 2 })
    let message := fun (body : List Byte) =>
      Instr.tabletMessageValid (0x7E#8 :: BitVec.ofNat 8 (64 + body.length) :: body
        ++ [crc8 (BitVec.ofNat 8 (64 + body.length) :: body)])
    let t := run (message [4, 0x12, 0x10, 43]) s
    (t.lane 1).inbound = [[4, 0x12, 0x10, 43]] ∧ t.bus.queue = []
      ∧ ((run (message [4, 0x12, 0x10, 43]) ready).bus.queue.map fun f => (f.kind, f.route, f.payload))
        = [(.command, 4, [0x12, 0x10, 43])] := by decide +kernel

/-- Table 9-7: the SetPosition frame of station 2 is carried out by port B of station 9. -/
theorem test_command_frame_table_9_7 :
    let s := (onBus fun b => { b with number := some 9, receiver := .inFrame })
    let chars := encodeFrame (some 2) ⟨.command, 9, [0x11, 20, 37, 0x88, 0x13, 0], 0, none, false⟩
    let t := run (.frameCompletion chars) s
    chars.take 2 = [0x22, 0x96] ∧ (t.port 1).target = 5000 ∧ (t.port 1).mode = .position
      ∧ (t.bus.queue.map fun f => (f.kind, f.route, f.payload)) = [(.reply, 2, [37, 0])] := by
  decide +kernel

/-- Table 8-12: X, of the higher serial, withdraws; Y's own request is dropped while Withdrawn. -/
theorem test_duplicate_table_8_12 :
    let s := fun n : Nat => onBus fun b => { b with
      number := some 5, serial := BitVec.ofNat 32 n, receiver := .inFrame }
    let heard := fun n : Nat => Instr.frameCompletion (encodeFrame (some 5)
      ⟨.announce, 0, charsOf 4 n ++ [0], 0, none, false⟩)
    (run (heard 65000) (s 70000)).bus.withdrawn = [.duplicate]
      ∧ (run (heard 70000) (s 65000)).bus.withdrawn = []
      ∧ (run (heard 70000) (s 65000)).bus.queue.map Frame.kind = [.announce] := by decide +kernel

theorem test_break_halts :
    let t := run .breakDetected ready
    t.halt.first = some .busBreak ∧ t.bus.breakSending = none ∧ t.bus.breakCount = 22 := by
  decide +kernel

/-- R147: a second break, heard after the first, is a cause again. -/
theorem test_second_break :
    let t := run .breakDetected ready
    (run .breakDetected { t with halt := ready.halt }).halt.first = some .busBreak := by
  decide +kernel

theorem test_line_faults :
    let s := onBus fun b => { b with
      sending := some ⟨.reply, 3, [7, 0], 0, none, false⟩, lineFaults := 15 }
    (run .lineFault s).bus.withdrawn = [.lineFault] ∧ (run .lineFault s).bus.queue = [] := by
  decide +kernel

theorem test_link_loss :
    let s := onPort fun x => { x with mode := .power, target := 9 }
    (run .linkTimeout s).link.present = false ∧ (run .linkTimeout s).halt.first = some .linkLost
      ∧ (run .linkTimeout ready).halt.first = none := by decide +kernel

theorem test_watch_list :
    let s := run (.watchAdd 0 20) ready
    s.link.watch = [⟨1, 15, .stopped⟩] ∧ (run (.watchRemove 1 15) s).link.watch = []
      ∧ (run .watchClear s).link.watch = [] := by decide +kernel

/-- R168, R174: a status request and the message the transmitter takes for it. -/
theorem test_status_message :
    let s := run .statusRequest (onLink fun k => { k with badSeen := true })
    let t := run .uartMessageStart s
    (s.lane 0).outbound = [⟨.status, true⟩] ∧ t.link.badSeen = false
      ∧ (t.link.sending.map SentMessage.lane) = some 0
      ∧ (run .uartMessageSent t).link.sending = none := by decide +kernel

/-- R170: a Note for another station, with a voice byte that is not 1 to 3, keeps an index outside 1 to
3, whatever the byte. -/
theorem test_remote_note_voice :
    let message := fun voice : Byte =>
      let body : List Byte := [4, voice, 7, 0, 60, 0, 100, 0, 50]
      run (.tabletMessageValid (frameMessage 2 body)) ready
    (message 2).bus.queue.map Frame.payload = [[0x32, 0x30, 7, 0, 60, 0, 100, 0, 50]]
      ∧ (message 0).bus.queue.map Frame.payload = [[0x30, 0x30, 7, 0, 60, 0, 100, 0, 50]]
      ∧ ∀ n, badVoiceIndex n ≠ 1 ∧ badVoiceIndex n ≠ 2 ∧ badVoiceIndex n ≠ 3 := by
  refine ⟨by decide +kernel, by decide +kernel, by decide⟩

/-- R190: a reply as the UART carries it: the start, the header of lane 1 and three characters, the body and
the check. -/
theorem test_message_characters :
    let m := frameMessage 1 [15, 7, 0]
    m = [0x7E, 0x43, 15, 7, 0, crc8 [0x43, 15, 7, 0]] ∧ readMessage m = some ⟨1, [15, 7, 0]⟩ := by
  decide +kernel

theorem test_store :
    let s := run (.storeStartRecord 5 (List.replicate 30 0x0F#8)) ready
    s.link.store.isSome = true ∧ (run .storeWriteDone s).record.checks = true := by decide +kernel

/-- Assumption 8: an empty queue idles. -/
theorem test_step_idles : step ready = .next ready := rfl

/-! ### Witnesses: a state and operands for the hypotheses of each clause of a statement, in the
order of its clauses -/

def held : State := { ready with resetHeld := [.pin] }
/-- `n` messages wait in the Command outbound FIFO. -/
def told (n : Nat) : State :=
  ready.setLane 1 { ready.lane 1 with outbound := List.replicate n ⟨.progress true 1 0, true⟩ }
/-- `n` Reply frames wait in the transmit queue. -/
def queued (n : Nat) : State := onBus fun b => { b with
  queue := List.replicate n ⟨.reply, 3, [7, 0], 0, none, false⟩ }
/-- Seven Reply frames and a Signal frame wait. -/
def fullQueue : State := onBus fun b => { b with
  queue := (List.range 7).map (fun n => ⟨.reply, 3, [7, 0], n, none, false⟩)
    ++ [⟨.signal, 2, [0, 0], 3, none, false⟩] }
def withdrawn : State := onBus fun b => { b with withdrawn := [.clock] }
/-- Port A bound to entry 0, which acts. -/
def bound (m : Mode) (d : Destination) : State :=
  (onPort fun x => { x with mode := m, source := .listen 0 }).setEntry 0
    { Entry.fresh with state := .enabled, route := some ⟨3, 1, d⟩ }

theorem witness_EveryCommandCompletes :
    held.resetHeld ≠ [] ∧ Instr.audioSample ≠ .powerOnReset ∧ Instr.audioSample ≠ .resetPin
      ∧ ∀ k straps mv, Instr.audioSample ≠ .resetEnd k straps mv :=
  ⟨by decide, by decide, by decide, fun _ _ _ h => by cases h⟩

theorem witness_CommandsMatchTheirCharacters :
    (Instr.setPosition here 3 8388607).wellFormed = true
      ∧ partsOf (.setPosition here 3 8388607) = some ⟨here, 1, 3, 20, [0xFF, 0xFF, 0x7F]⟩
      ∧ ready.resetHeld = [] := by decide +kernel

theorem witness_PathChecksInOrder :
    (0x20 / 16 ≠ 1 ∧ (blockCommands 1).length ≤ 0x1F % 16)
      ∧ (0x10 / 16 = 1 ∧ (blockCommands 1)[0x10 % 16]? = some .coast ∧ ¬IndexInRange 1 4)
      ∧ (0x66 / 16 = 6 ∨ (blockCommands 2)[0x26 % 16]? = some .querySensor ∧ ¬IndexInRange 2 0)
      ∧ (IndexInRange 1 3 ∧ countOk .coast 1 = false) := by
  refine ⟨by decide, ⟨by decide, by decide, by simp [IndexInRange]⟩,
    .inr ⟨by decide, by simp [IndexInRange]⟩, by simp [IndexInRange], by decide⟩

theorem witness_AnswerGoesBackByPath :
    (Result.staged = .done ∨ Result.staged = .staged) ∧ (Result.busy ≠ .done ∧ Result.busy ≠ .staged)
      ∧ State.reset.link.present = false
      ∧ ((told 5).link.present = true ∧ ((told 5).lane 1).outbound.length < 6)
      ∧ ((told 6).link.present = true ∧ ((told 6).lane 1).outbound.length = 6)
      ∧ State.reset.isWithdrawn = true
      ∧ ((queued 7).isWithdrawn = false ∧ [List.replicate 10 0#8].flatten.length ≤ 10
          ∧ (queued 7).bus.queue.length < 8)
      ∧ ((queued 8).isWithdrawn = false ∧ 8 ≤ (queued 8).bus.queue.length
          ∧ ∀ h ∈ (queued 8).bus.queue, h.kind.code ≤ 3)
      ∧ (fullQueue.isWithdrawn = false ∧ 8 ≤ fullQueue.bus.queue.length
          ∧ fullQueue.bus.queue.getLast? = some ⟨.signal, 2, [0, 0], 3, none, false⟩
          ∧ 3 < FrameKind.signal.code) := by decide +kernel

theorem witness_ReplyPartsHoldWholeFields :
    ((∀ f ∈ [List.replicate 9 0#8, [1]], f.length ≤ 9)
        ∧ [List.replicate 9 0#8, [1]].flatten.length ≤ 10)
      ∧ ((∀ f ∈ [List.replicate 9 0#8, [1, 2]], f.length ≤ 9)
        ∧ 10 < [List.replicate 9 0#8, [1, 2]].flatten.length)
      ∧ ((ready.setBus { ready.bus with number := some 3 }).bus.number = some 3
        ∧ (255 : Nat) < 256) := by decide

theorem witness_BlockCommandsKeepOtherBlocks :
    partsOf (.coast here 0) = some ⟨here, 1, 0, 16, []⟩
      ∧ partsOf (.querySensor here 1) = some ⟨here, 2, 1, 38, []⟩
      ∧ partsOf (.clearVoice here 1) = some ⟨here, 3, 1, 49, []⟩
      ∧ partsOf (.free here 15) = some ⟨here, 5, 15, 87, []⟩
      ∧ partsOf (.go here 7) = some ⟨here, 6, 7, 98, []⟩ ∧ ready.resetHeld = [] := by decide +kernel

theorem witness_MotorChecksInOrder :
    let kinds := fun k : MotorKind => onPort fun x => { x with kind := k }
    let lost := onPort fun x => { x with encoderLost := true }
    (partsOf (.zeroPosition here 0 0) = some ⟨here, 1, 0, 29, [0, 0, 0]⟩ ∧ ready.resetHeld = [])
      ∧ ((kinds .none).port 0).kind = .none
      ∧ (((kinds .plain).port 0).kind = .plain ∧ needsEncoder (.setSpeed here 0 1) = true)
      ∧ ((lost.port 0).kind = .encoded ∧ (lost.port 0).encoderLost = true
          ∧ needsEncoder (.moveBy here 0 1) = true)
      ∧ ((halted.port 0).kind ≠ .none
          ∧ ¬(needsEncoder (.coast here 0) = true
              ∧ ((halted.port 0).kind = .plain ∨ (halted.port 0).encoderLost = true))
          ∧ isMotion (.coast here 0) = true ∧ halted.halt.state ≠ .running) := by decide +kernel

theorem witness_CoastBrakeAndPowerTakeThePort :
    let s := bound .power (.motorPower 0)
    s.resetHeld = [] ∧ s.halt.state = .running ∧ (s.port 0).kind ≠ .none
      ∧ (s.port 0).stallYielded = false ∧ (s.port 0).patternDone = false := by decide +kernel

theorem witness_RampedMotionTakesThePort :
    let s := bound .position (.motorPosition 0)
    s.resetHeld = [] ∧ s.halt.state = .running ∧ (s.port 0).kind = .encoded
      ∧ (s.port 0).encoderLost = false ∧ (s.port 0).stallYielded = false
      ∧ (s.port 0).patternDone = false := by decide +kernel

theorem witness_SetPatternStartsPattern :
    let s := onPort fun x => { x with periodCode := 1 }
    (ready.resetHeld = [] ∧ ready.halt.state = .running ∧ (ready.port 0).kind = .encoded
        ∧ (ready.port 0).encoderLost = false ∧ (ready.port 0).periodCode = 0)
      ∧ (s.resetHeld = [] ∧ s.halt.state = .running ∧ (s.port 0).kind = .encoded
          ∧ (s.port 0).encoderLost = false ∧ 2 ≤ 2 ∧ (s.port 0).periodCode ≠ 0
          ∧ (s.port 0).stallYielded = false ∧ (s.port 0).patternDone = false) := by decide +kernel

theorem witness_ModeChangeSteps :
    let x := ready.port 0
    let looped := fun n : Mode => n = .position ∨ n = .pattern ∨ n = .safeRamp
    x.mode = .coast ∧ x.mode ≠ .brake ∧ ¬looped x.mode ∧ looped .safeRamp
      ∧ looped ({ x with mode := .position }).mode ∧ ({ x with mode := .pattern }).mode = .pattern := by
  decide +kernel

theorem witness_MotorSettingsReplaceFields :
    halted.resetHeld = [] ∧ (halted.port 0).kind ≠ .none ∧ 1 < 2 ∧ 3 < 4
      ∧ (onPort fun x => { x with kind := .plain, mode := .power }).resetHeld = []
      ∧ ((onPort fun x => { x with kind := .plain, mode := .power }).port 0).kind ≠ .none := by
  decide +kernel

theorem witness_PresetsAndRampByMode :
    let mode := fun (m : Mode) (pe : Nat) => onPort fun x => { x with mode := m, periodCode := pe }
    let pattern := (mode .pattern 1).port 0
    let done := { pattern with patternDone := true }
    ((mode .coast 0).resetHeld = [] ∧ ((mode .coast 0).port 0).kind ≠ .none)
      ∧ clamp24 9000000 ≤ clamp24 8388607
      ∧ (clamp24 (-9000000) < clamp24 (-8388607) ∧ ((mode .coast 0).port 0).mode ≠ .pattern)
      ∧ (clamp24 8388606 < clamp24 9000000 ∧ pattern.mode = .pattern)
      ∧ ((mode .brake 0).port 0).mode = .brake
      ∧ (((mode .speed 0).port 0).mode = .speed ∧ clampN 0 15 0 = 0)
      ∧ (pattern.mode = .pattern ∧ pattern.patternDone = false ∧ clampN 0 15 0 = 0)
      ∧ (clampN 0 15 1 ≠ 0 ∧ clampN 0 15 1 = pattern.periodCode)
      ∧ (clampN 0 15 16 ≠ 0 ∧ clampN 0 15 16 ≠ pattern.periodCode)
      ∧ (done.mode = .pattern ∧ done.patternDone = true) := by decide +kernel

theorem witness_ZeroAndQueryPort :
    let speed := (onPort fun x => { x with mode := .speed })
    (speed.resetHeld = [] ∧ (speed.port 0).kind = .encoded ∧ (speed.port 0).mode ≠ .coast
        ∧ (speed.port 0).mode ≠ .brake)
      ∧ (ready.resetHeld = [] ∧ (ready.port 0).kind = .encoded ∧ (ready.port 0).mode = .coast
          ∧ (ready.port 0).encoderLost = false)
      ∧ (ready.port 0).kind ≠ .none := by decide +kernel

theorem witness_EncoderTransitions :
    let at_ := fun n : Int => onPort fun x => { x with position := n }
    let times := fun (m : Mode) (l : List Nat) => onPort fun x => { x with illegal := l, mode := m }
    (ready.resetHeld = [] ∧ (ready.port 0).kind = .encoded)
      ∧ ((at_ 8388606).port 0).position + 1 ≤ 8388607 ∧ -8388608 ≤ ((at_ (-8388607)).port 0).position - 1
      ∧ 8388607 < ((at_ 8388607).port 0).position + 1
      ∧ ((at_ (-8388608)).port 0).position - 1 < -8388608
      ∧ ((times .coast [0, 1]).port 0).illegal.length < 3
      ∧ (((times .coast [5, 6, 7]).port 0).illegal = [5, 6, 7] ∧ 5 + 100000 ≤ 100005)
      ∧ (((times .brake [5, 6, 7]).port 0).illegal = [5, 6, 7] ∧ 100004 < 5 + 100000
          ∧ ((times .brake [5, 6, 7]).port 0).mode = .brake)
      ∧ (((times .pattern [5, 6, 7]).port 0).illegal = [5, 6, 7]
          ∧ ((times .pattern [5, 6, 7]).port 0).mode ≠ .coast
          ∧ ((times .pattern [5, 6, 7]).port 0).mode ≠ .brake
          ∧ ((times .pattern [5, 6, 7]).port 0).mode ≠ .power)
      ∧ ((bound .speed (.motorSpeed 0)).port 0).source = .listen 0
      ∧ ((onPort fun x => { x with kind := .plain }).port 0).kind ≠ .encoded := by decide +kernel

theorem witness_PortAndDriverProtection :
    let count := fun n : Nat => onPort fun x => { x with overCount := n }
    let slow := fun (d : Int) (n : Nat) (p : StallPolicy) (k : MotorKind) => (onPort fun x => { x with
      kind := k, mode := .position, duty := d, speed := 49, stallCount := n, stallPolicy := p }).port 0
    let stalling := fun x : Port => 500 ≤ x.duty.natAbs ∧ x.speed.natAbs < 50
    let due := fun x : Port => x.stallTime ≤ (x.stallCount + 1) * 5
    let checked := fun x : Port => x.kind = .encoded ∧ x.encoderLost = false
    let ramp := fun n : Int => (onPort fun x => { x with mode := .safeRamp, position := n }).port 0
    let arrived := fun x : Port => x.reference = x.target ∧ (x.position - x.target).natAbs ≤ x.window
    min 1500 3000 ≤ (ready.port 0).currentLimit
      ∧ ((ready.port 0).currentLimit < min 1501 3000 ∧ ((count 2).port 0).overCount < 3)
      ∧ ((ready.port 0).currentLimit < min 4000 3000 ∧ 3 ≤ ((count 3).port 0).overCount)
      ∧ (checked (slow 499 0 .halt .encoded) ∧ ¬stalling (slow 499 0 .halt .encoded))
      ∧ (checked (slow 500 98 .halt .encoded) ∧ stalling (slow 500 98 .halt .encoded)
          ∧ ¬due (slow 500 98 .halt .encoded))
      ∧ (stalling (slow (-500) 99 .halt .encoded) ∧ due (slow (-500) 99 .halt .encoded)
          ∧ (slow (-500) 99 .halt .encoded).stallPolicy = .halt)
      ∧ (stalling (slow 500 99 .yield .encoded) ∧ due (slow 500 99 .yield .encoded)
          ∧ (slow 500 99 .yield .encoded).stallPolicy = .yield)
      ∧ ¬checked (slow 500 0 .halt .plain)
      ∧ (slow 0 0 .halt .encoded).mode = .position
      ∧ (checked (ramp 5) ∧ (ramp 5).mode = .safeRamp ∧ arrived (ramp 5))
      ∧ ((ramp 6).mode = .safeRamp ∧ ¬arrived (ramp 6))
      ∧ (ready.resetHeld = [] ∧ ready.hot = false ∧ (124 : Int) < 125 ∧ (125 : Int) ≤ 125)
      ∧ (({ ready with hot := true }).hot = true ∧ (109 : Int) < 110 ∧ (110 : Int) ≤ 110) := by
  decide +kernel

theorem witness_RegulationPeriodMeasuresAndReports :
    let kinds := fun k : MotorKind => onPort fun x => { x with kind := k }
    (ready.resetHeld = [] ∧ (7 : Fin 16).val = 4 + (3 : Fin 4).val
        ∧ (11 : Fin 16).val = 8 + (3 : Fin 4).val)
      ∧ ((kinds .none).port 0).kind = .none ∧ ((kinds .plain).port 0).kind = .plain
      ∧ ((kinds .encoded).port 0).kind = .encoded := by decide +kernel

theorem witness_ProfileStepMovesReference :
    let s := fun (m : Mode) (r t : Int) => onPort fun x => { x with
      mode := m, periodCode := 1, stepTimer := some 5, reference := r, target := t }
    ((s .speed 0 0).resetHeld = [] ∧ ((s .speed 0 0).port 0).stepTimer.isSome = true
        ∧ ((s .speed 0 0).port 0).mode = .speed)
      ∧ ((s .position 3 4).port 0).mode = .position
      ∧ ((s .position 3 4).port 0).reference ≤ ((s .position 3 4).port 0).target
      ∧ ((s .safeRamp 4 3).port 0).mode = .safeRamp
      ∧ ((s .safeRamp 4 3).port 0).target ≤ ((s .safeRamp 4 3).port 0).reference := by decide +kernel

theorem witness_PatternReferenceWithinPresets :
    let x := { ready.port 0 with mode := .pattern, waveform := some .triangle, startPoint := some 180,
                                 reference := 180 }
    x.lower < x.upper ∧ 7 ≤ 7 ∧ (-1 : Int) < 0 ∧ x.mode = .pattern ∧ x.lower ≤ x.reference
      ∧ x.reference ≤ x.upper := by decide +kernel

/-- The clauses of the same statement on a Sine step. -/
theorem witness_PatternReferenceWithinPresets_sine :
    let x := fun start wanted count : Nat => ({ Port.fresh .encoded with
      mode := .pattern, waveform := some .sine, pointIndex := 31, startIndex := start,
      cyclesWanted := wanted, cycleCount := count } : Port)
    let goesOn := fun x : Port => x.cyclesWanted = 0 ∨ x.cycleCount + 1 < x.cyclesWanted
    let k := fun x : Port => (x.pointIndex + 1) % 32
    ((x 4 1 0).mode = .pattern ∧ (x 4 1 0).waveform = some .sine ∧ (x 4 1 0).patternDone = false
        ∧ (x 4 1 0).lower < (x 4 1 0).upper ∧ k (x 4 1 0) ≠ (x 4 1 0).startIndex)
      ∧ (k (x 0 0 255) = (x 0 0 255).startIndex ∧ goesOn (x 0 0 255) ∧ goesOn (x 0 3 1))
      ∧ (k (x 0 3 2) = (x 0 3 2).startIndex ∧ ¬goesOn (x 0 3 2)) := by decide +kernel

theorem witness_TriangleAndSawtoothSteps :
    let at_ := fun (w : Waveform) (leg : Nat) (r : Int) => ({ Port.fresh .encoded with
      mode := .pattern, waveform := some w, stepCode := 7, startPoint := some 100, pointIndex := leg,
      reference := r } : Port)
    let narrow := { at_ .triangle 0 (-148) with upper := -148 }
    ((at_ .triangle 0 179).mode = .pattern ∧ (at_ .triangle 0 179).startPoint = some 100
        ∧ (at_ .triangle 0 179).waveform = some .triangle)
      ∧ (at_ .triangle 0 179).reference < (at_ .triangle 0 179).upper
      ∧ ((at_ .triangle 0 180).upper ≤ (at_ .triangle 0 180).reference
          ∧ (at_ .triangle 0 180).lower < (at_ .triangle 0 180).upper - positionStep 7)
      ∧ (narrow.upper ≤ narrow.reference ∧ narrow.upper - positionStep narrow.stepCode ≤ narrow.lower)
      ∧ ((at_ .triangle 1 (-147)).pointIndex = 1
          ∧ (at_ .triangle 1 (-147)).lower < (at_ .triangle 1 (-147)).reference - positionStep 7)
      ∧ ((at_ .triangle 1 (-148)).lower < (at_ .triangle 1 (-148)).reference
          ∧ (at_ .triangle 1 (-148)).reference - positionStep 7 ≤ (at_ .triangle 1 (-148)).lower)
      ∧ (at_ .triangle 1 (-180)).reference ≤ (at_ .triangle 1 (-180)).lower
      ∧ ((at_ .triangle 2 99).pointIndex = 2 ∧ (at_ .triangle 2 99).reference < 100)
      ∧ 100 ≤ (at_ .triangle 2 100).reference
      ∧ ((at_ .sawtooth 0 179).waveform = some .sawtooth
          ∧ (at_ .sawtooth 0 179).reference < (at_ .sawtooth 0 179).upper)
      ∧ (at_ .sawtooth 0 180).upper ≤ (at_ .sawtooth 0 180).reference
      ∧ ((at_ .sawtooth 1 99).pointIndex = 1 ∧ (at_ .sawtooth 1 99).reference < 100)
      ∧ 100 ≤ (at_ .sawtooth 1 100).reference := by decide +kernel

theorem witness_SineCycleIsDone :
    let s := onPort fun x => { x with
      mode := .pattern, source := .pattern, waveform := some .sine, startIndex := 28, pointIndex := 28,
      cyclesWanted := 1, periodCode := 1, stepTimer := some 5 }
    s.resetHeld = [] ∧ (s.port 0).mode = .pattern ∧ (s.port 0).waveform = some .sine
      ∧ (s.port 0).patternDone = false ∧ (s.port 0).startIndex < 32
      ∧ (s.port 0).pointIndex = (s.port 0).startIndex ∧ (s.port 0).cycleCount = 0
      ∧ (s.port 0).cyclesWanted = 1 ∧ (s.port 0).stepTimer.isSome = true
      ∧ (s.port 0).source = .pattern ∧ s.station.restartPending = none := by decide +kernel

/-- A station at which no Restart waits has none that waits for a frame. -/
theorem noFrameAwaited {s : State} (h : s.station.restartPending = none) :
    ∀ k, s.station.restartPending ≠ some (.frame k) := by simp [h]

/-- Sensor port 1 of a kind, seeded. -/
def sensorOf (k : SensorKind) (f : Sensor → Sensor) : State :=
  ready.setSensor 0 (f { Sensor.fresh k 2000 false with seeded := true })

theorem witness_SensorSettingsReplaceFields :
    let s := fun k => sensorOf k id
    let on := sensorOf .level fun x => { x with active := true }
    let refused := fun c : Instr => (partsOf c).map fun P => (P.block, P.index, P.code)
    ready.resetHeld = []
      ∧ (refused (.setHaltInput here 1 1) = some (2, 1, 37) ∧ ((s .off).sensor 0).kind = .off)
      ∧ (refused (.setThresholds here 1 0 0 0 0) = some (2, 1, 33) ∧ ((s .switch).sensor 0).kind = .switch)
      ∧ (refused (.tune here 1 0) = some (2, 1, 35) ∧ ((s .level).sensor 0).kind = .level)
      ∧ (refused (.setPolarity here 1 0) = some (2, 1, 34) ∧ ((s .touch).sensor 0).kind = .touch)
      ∧ ((s .switch).sensor 0).kind ≠ .off ∧ ((s .level).sensor 0).active = false
      ∧ ((on.sensor 0).kind = .level ∧ (on.sensor 0).active = true ∧ (on.sensor 0).haltInput = false)
      ∧ ((on.sensor 0).polarity = .rising ∧ ((sensorOf .level fun x => { x with
            active := true, polarity := .falling }).sensor 0).active = true)
      ∧ 1 < 2 ∧ ((sensorOf .touch fun x => { x with haltInput := true }).sensor 0).haltInput = true := by
  decide +kernel

theorem witness_DebounceRows :
    let counted := fun (n : Nat) (active halt : Bool) =>
      (sensorOf .switch fun x => { x with debounce := n, active := active, haltInput := halt }).sensor 0
    (if (counted 0 false false).active then true else false) = false
      ∧ (counted 1 false false).debounce + 1 < (counted 1 false false).length
      ∧ (counted 2 false true).length ≤ (counted 2 false true).debounce + 1
      ∧ ((counted 2 false true).active = false ∧ (counted 2 false true).haltInput = true)
      ∧ ((counted 2 true false).active = true ∨ (counted 2 true false).haltInput = false) := by
  decide +kernel

theorem witness_LevelSamples :
    let s := sensorOf .level fun x => { x with filt := 2048, beta := 6 }
    let falling := sensorOf .level fun x => { x with
      polarity := .falling, beta := 0, threshold := 4095, hysteresis := 0 }
    let low := sensorOf .level fun x => { x with threshold := 64 }
    (s.resetHeld = [] ∧ (3 : Fin 16).val = (3 : Fin 4).val ∧ (s.sensor 0).kind = .level
        ∧ (s.sensor 0).seeded = true ∧ (s.sensor 0).beta ≤ 6 ∧ 0 ≤ (s.sensor 0).hysteresis)
      ∧ (falling.sensor 0).beta = 0
      ∧ (s.sensor 0).filt ≤ (min 2048 4095 : Nat) ∧ ((min 0 4095 : Nat) : Int) ≤ (s.sensor 0).filt
      ∧ ((low.sensor 0).polarity = .rising ∧ (low.sensor 0).threshold - (low.sensor 0).hysteresis ≤ 0)
      ∧ ((falling.sensor 0).polarity ≠ .rising
          ∧ 4095 ≤ (falling.sensor 0).threshold + (falling.sensor 0).hysteresis)
      ∧ ¬((s.sensor 0).threshold ≤ 2047) ∧ ¬((2047 : Int) < (s.sensor 0).threshold - (s.sensor 0).hysteresis) := by
  decide +kernel

theorem witness_SwitchAndTouchSamples :
    let unseeded := fun k => sensorOf k fun x => { x with seeded := false }
    let s := sensorOf .touch fun x => { x with freezeTimer := some 2000, frozen := true }
    let flagged := fun k => sensorOf k fun x => { x with tuneAtStart := true }
    (ready.resetHeld = [] ∧ (s.sensor 0).kind = .touch ∧ (s.sensor 0).tuneAtStart = false)
      ∧ (((flagged .switch).sensor 0).kind = .switch ∧ ((flagged .level).sensor 0).kind = .level
          ∧ ((flagged .switch).sensor 0).tuneAtStart = true
          ∧ ((flagged .level).sensor 0).tuneAtStart = true)
      ∧ ((sensorOf .off id).sensor 0).kind = .off ∧ ((sensorOf .switch id).sensor 0).kind = .switch
      ∧ (((unseeded .level).sensor 0).kind = .level ∧ ((unseeded .level).sensor 0).seeded = false)
      ∧ (((unseeded .touch).sensor 0).kind = .touch ∧ ((unseeded .touch).sensor 0).tuning = none
          ∧ ((unseeded .touch).sensor 0).seeded = false)
      ∧ ((s.sensor 0).tuning = none ∧ (s.sensor 0).seeded = true)
      ∧ (s.sensor 0).freezeTimer.isSome = true ∧ ((sensorOf .touch id).sensor 0).freezeTimer = none := by
  decide +kernel

theorem witness_TunePhases :
    let tuning := fun (g : Nat) (t : Option Tune) =>
      sensorOf .touch fun x => { x with tuning := t, gain := g }
    let a := fun sum raw : Nat => (sum + min raw 65535) / 4
    let window := 2000 + 2000 / 16
    (ready.resetHeld = [] ∧ ((tuning 1 none).sensor 0).kind = .touch
        ∧ ((tuning 1 none).sensor 0).tuning = none ∧ ((tuning 1 none).sensor 0).tuneTarget = 2000)
      ∧ ((sensorOf .touch fun x => { x with retryTimer := some 5000 }).sensor 0).retryTimer.isSome = true
      ∧ ((sensorOf .touch fun x => { x with tuneAtStart := true }).sensor 0).tuneAtStart = true
      ∧ ((tuning 1 (some ⟨.gain, 4, 0⟩)).sensor 0).tuning = some ⟨.gain, 4, 0⟩
      ∧ (((tuning 8 (some ⟨.gain, 5, 6000⟩)).sensor 0).tuning = some ⟨.gain, 5, 6000⟩
          ∧ 2000 ≤ a 6000 2000 ∧ a 6000 1999 < 2000 ∧ 8 ≤ 8 ∧ 7 < 8)
      ∧ (((tuning 3 (some ⟨.offset 2 16, 5, 6000⟩)).sensor 0).tuning = some ⟨.offset 2 16, 5, 6000⟩ ∧ 2 ≤ 2)
      ∧ (((tuning 3 (some ⟨.offset 1 18, 5, 6000⟩)).sensor 0).tuning = some ⟨.offset 1 18, 5, 6000⟩)
      ∧ (((tuning 3 (some ⟨.final, 5, 6375⟩)).sensor 0).tuning = some ⟨.final, 5, 6375⟩
          ∧ a 6375 2125 ≤ window ∧ window < a 6375 2129)
      ∧ (((tuning 1 (some ⟨.gain, 0, 0⟩)).sensor 0).gain = 1 ∧ (List.replicate 90 0).length = 90
          ∧ (tuning 1 (some ⟨.gain, 0, 0⟩)).station.restartPending = none) := by
  decide +kernel

theorem witness_BatteryReading :
    let at_ := fun n : Nat => { ready with battery := ⟨5600, 400, 40, n, false⟩ }
    let v := fun mv : Nat => (5600 : Int) + roundDiv (mv - 5600) 4
    let full := { ready with battery := ⟨7200, 1000, 100, 0, false⟩ }
    ready.resetHeld = []
      ∧ ((at_ 1).battery.low = false ∧ v 5598 < 5600 ∧ 1 ≤ (at_ 1).battery.lowCount)
      ∧ ¬(v 5599 < 5600 ∧ 1 ≤ (at_ 1).battery.lowCount)
      ∧ supplyCeiling (7200 + roundDiv (7197 - 7200) 4) < full.battery.ceiling := by decide +kernel

theorem witness_VoiceSettingsReplaceFields :
    ready.resetHeld = [] ∧ (ready.voice 0).volumeSource = .own
      ∧ ((onVoice fun x => { x with volumeSource := .listen 15 }).voice 0).volumeSource = .listen 15 := by
  decide +kernel

theorem witness_NoteAndClearVoice :
    let tone : NoteArgs := ⟨0, 3, 1, 1, 0, 0⟩
    let rest : NoteArgs := ⟨1, 0, 0, 0, 65535, 255⟩
    let note : Note := ⟨true, none, 10, 0, .square⟩
    let full := fun n : Nat => onVoice fun x => { x with queue := List.replicate n note }
    let playing := onVoice fun x => { x with state := .sustain, sound := some (.note note) }
    let on := { ready with audio := { ready.audio with gate := .on } }
    let tied := onVoice fun x => { x with pitchSource := .listen 2 }
    let sings := fun (st : VoiceState) (ms : Nat) => (tied.setVoice 0 { tied.voice 0 with
      state := st, sound := some .tone, releaseMs := ms }).voice 0
    (ready.resetHeld = [] ∧ tone.form < 2 ∧ halted.halt.state ≠ .running)
      ∧ (ready.halt.state = .running ∧ tone.kind = 0 ∧ readNoteWave tone.wave = some .sine
          ∧ tone.pitch ≠ 0 ∧ rest.kind = 1)
      ∧ (2 ≤ (NoteArgs.mk 2 0 0 60 10 10).kind ∧ 4 ≤ (NoteArgs.mk 0 4 0 60 10 10).wave
          ∧ (NoteArgs.mk 0 0 0 0 10 10).pitch = 0)
      ∧ 8 ≤ ((full 8).voice 0).queue.length ∧ ((full 7).voice 0).queue.length < 8
      ∧ ((playing.voice 0).pitchSource = .own ∧ (playing.voice 0).state ≠ .idle
          ∧ (playing.voice 0).sound ≠ some .tone)
      ∧ ((ready.voice 0).state = .idle ∧ ready.audio.gate = .off ∧ ready.clock.state = .onPLL)
      ∧ ((on.voice 0).state = .idle ∧ (on.voice 0).queue = [] ∧ on.audio.gate = .on)
      ∧ (tied.voice 0).pitchSource = .listen 2
      ∧ ((sings .attack 1).sound = some .tone ∧ (sings .attack 1).state = .attack
          ∧ (sings .attack 1).releaseMs ≠ 0 ∧ (sings .attack 1).pitchSource = .listen 2)
      ∧ ((sings .release 1).state ≠ .idle ∧ (sings .release 1).state ≠ .attack
          ∧ (sings .release 1).state ≠ .sustain) := by decide +kernel

theorem witness_AudioSampleMixesVoices :
    let tone : Note := ⟨false, some (.number 60), 10, 50, .square⟩
    let x := fun (st : VoiceState) (phase time : Nat) => { Voice.fresh with
      state := st, sound := some (.note tone), phaseMs := 5,
      phaseTime := phase, noteTime := time, releaseStart := some 256 }
    let phaseOver := fun y : Voice => 1000 * y.phaseMs ≤ y.phaseTime + 32
    let noteOver := fun y : Voice => match y.sound with
      | some (.note n) => decide (1000 * n.duration ≤ y.noteTime + 32)
      | _ => false
    ready.resetHeld = [] ∧ ready.audio.gate ≠ .on ∧ table48.audio.gate = .on
      ∧ ({ halted with audio := table48.audio }).halt.state ≠ .running
      ∧ table48.halt.state = .running ∧ (table48.voice 2).state = .idle
      ∧ ((x .attack 4967 0).state = .attack ∧ ¬phaseOver (x .attack 4967 9967)
          ∧ noteOver (x .attack 4967 9967) = false)
      ∧ (phaseOver (x .attack 4968 0) ∧ noteOver (x .attack 4968 0) = false)
      ∧ (noteOver (x .sustain 4968 9967) = false
          ∧ noteOver { Voice.fresh with state := .sustain, sound := some .tone } = false)
      ∧ (noteOver (x .sustain 0 9968) = true ∧ tone.rest = false ∧ (x .sustain 0 9968).releaseMs ≠ 0)
      ∧ (¬phaseOver (x .release 4967 9968) ∧ phaseOver (x .release 4968 9968)
          ∧ (x .release 4968 9968).pitchSource = .own ∧ (x .release 4968 9968).queue = []) := by
  decide +kernel

theorem witness_VoicePhasesAndGateTimers :
    let tone : Note := ⟨false, some (.number 60), 10, 50, .square⟩
    let rest : Note := ⟨true, none, 10, 50, .square⟩
    let playing := fun (st : VoiceState) (n : Note) (q : List Note) =>
      let s := onVoice fun x => { x with state := st, sound := some (.note n), queue := q }
      { s with audio := { s.audio with gate := .on, stopTimer := some 100 } }
    let short := fun q : List Note =>
      let s := playing .sustain tone q
      s.setVoice 0 { s.voice 0 with releaseMs := 0 }
    let starting := { ready with audio := { ready.audio with gate := .starting, startTimer := some 2 } }
    ((playing .attack tone []).audio.gate = .on ∧ ((playing .attack tone []).voice 0).state = .attack
        ∧ ready.resetHeld = [])
      ∧ (((playing .sustain tone []).voice 0).sound = some (.note tone) ∧ tone.rest = false
          ∧ ((playing .sustain tone []).voice 0).state = .sustain
          ∧ ((playing .sustain tone []).voice 0).releaseMs ≠ 0)
      ∧ (((playing .attack tone []).voice 0).state = .attack
          ∧ ((playing .attack tone []).voice 0).sound = some (.note tone)
          ∧ ((playing .attack tone []).voice 0).releaseMs ≠ 0)
      ∧ (((short []).voice 0).releaseMs = 0 ∧ ((short []).voice 0).state = .sustain
          ∧ ((short []).voice 0).sound = some (.note tone) ∧ (short []).audio.gate = .on
          ∧ ((short []).voice 0).pitchSource = .own ∧ ((short []).voice 0).queue = [])
      ∧ (((short [rest]).voice 0).releaseMs = 0 ∧ ((short [rest]).voice 0).queue = rest :: []
          ∧ (short [rest]).halt.state = .running)
      ∧ (((playing .release tone []).voice 0).state = .release
          ∧ ((playing .release tone []).voice 0).pitchSource = .own
          ∧ ((playing .release tone []).voice 0).queue = [])
      ∧ (((playing .release tone [rest]).voice 0).queue = rest :: []
          ∧ (playing .release tone [rest]).halt.state = .running)
      ∧ (((playing .sustain rest []).voice 0).sound = some (.note rest) ∧ rest.rest = true)
      ∧ (starting.audio.gate = .starting ∧ starting.audio.startTimer.isSome = true
          ∧ (starting.voice 0).state ≠ .waiting)
      ∧ (playing .attack tone []).audio.stopTimer.isSome = true
      ∧ ¬ready.audio.gate = .on := by decide +kernel

theorem witness_PitchIncrements :
    let s := onVoice fun x => { x with sound := some .tone, pitchSource := .listen 3 }
    (24 ≤ 24 ∧ 24 ≤ 108 ∧ 20 ≤ 20 ∧ 20 ≤ 8000) ∧ (24 ≤ 108 ∧ 108 ≤ 108 ∧ 20 ≤ 8000 ∧ 8000 ≤ 8000)
      ∧ ((s.voice 0).sound = some .tone ∧ (s.voice 0).pitchSource = .listen 3
          ∧ s.halt.state = .running) := by decide +kernel

theorem witness_SignalCommands :
    let s := ready.setSignal 0 { Signal.fresh with
      value := 30, lastPublished := some 10, timer := some 100, policy := .periodic }
    (ready.resetHeld = [] ∧ 3 < 4)
      ∧ (readPolicy 3 = some .both ∧ clampN 0 1000 20 ≤ ((s.signal 0).value - 10).natAbs
          ∧ 1 ≤ ((s.signal 0).value - 10).natAbs ∧ (s.signal 0).lastPublished = some 10)
      ∧ (readPolicy 1 = some .onChange ∧ ((s.signal 0).value - 10).natAbs < clampN 0 1000 21)
      ∧ readPolicy 0 = some .off
      ∧ (s.signal 0).timer.isSome = true ∧ (ready.signal 0).timer = none := by decide +kernel

def oneSignal : State := onBus fun b => { b with queue := [⟨.signal, 2, [0, 0], 3, none, false⟩] }
def oneGo : State := onBus fun b => { b with queue := [⟨.go, 0, [3], 0, none, false⟩] }
def announced : State := onBus fun b => { b with
  queue := [⟨.announce, 0, [1, 0, 0, 0, 0], 0, none, false⟩] }
/-- Eight Command frames of the tablet wait. -/
def commanded : State := onBus fun b => { b with
  queue := (List.range 8).map fun n => ⟨.command, 3, [0x10, 0x10, 7], n, some ⟨3, 7⟩, false⟩ }

theorem witness_TransmitQueueRequests :
    (ready.QueueOrdered ∧ fullQueue.QueueOrdered ∧ withdrawn.QueueOrdered ∧ oneSignal.QueueOrdered
        ∧ oneGo.QueueOrdered)
      ∧ ready.bus.queue.length < 8
      ∧ (8 ≤ fullQueue.bus.queue.length
          ∧ fullQueue.bus.queue.getLast? = some ⟨.signal, 2, [0, 0], 3, none, false⟩
          ∧ FrameKind.event.code < FrameKind.signal.code
          ∧ ∀ h ∈ fullQueue.bus.queue, h.kind.code ≤ FrameKind.signal.code)
      ∧ withdrawn.isWithdrawn = true
      ∧ (oneSignal.isWithdrawn = false
          ∧ oneSignal.bus.queue.any
            (fun f => (f.kind == .signal || f.kind == .event) && f.route == 2) = true
          ∧ oneSignal.bus.queue.any
            (fun f => (f.kind == .signal || f.kind == .event) && f.route == 3) = false
          ∧ oneSignal.bus.queue.length < 8)
      ∧ ((∃ f ∈ announced.bus.queue, f.kind = .announce) ∧ announced.isWithdrawn = false
          ∧ ∀ f ∈ fullQueue.bus.queue, f.kind ≠ .announce)
      ∧ ((∀ f ∈ oneGo.bus.queue, f.kind = .go → f.payload ≠ [2]) ∧ oneGo.isWithdrawn = false
          ∧ ∀ f ∈ fullQueue.bus.queue, f.kind = .go → f.payload ≠ [3])
      ∧ (8 ≤ commanded.bus.queue.length ∧ commanded.QueueOrdered
          ∧ commanded.bus.queue.getLast? = some ⟨.command, 3, [0x10, 0x10, 7], 7, some ⟨3, 7⟩, false⟩
          ∧ FrameKind.go.code < FrameKind.command.code)
      ∧ (oneGo.isWithdrawn = false ∧ (∃ f ∈ oneGo.bus.queue, f.kind = .go ∧ f.payload = [3])
          ∧ ∀ f ∈ oneGo.bus.queue, f.kind = .go →
            1 ≤ readU f.payload ∧ readU f.payload ≤ 7 ∧ f.payload.length = 1)
      ∧ (1 ≤ 7 ∧ 7 ≤ 7) := by
  have ordered : fullQueue.QueueOrdered ∧ oneSignal.QueueOrdered ∧ oneGo.QueueOrdered
      ∧ commanded.QueueOrdered := by
    refine ⟨?_, ?_, ?_, ?_⟩ <;>
      repeat' (first | exact trivial | refine And.intro (by decide +kernel) ?_)
  exact ⟨⟨trivial, ordered.1, trivial, ordered.2.1, ordered.2.2.1⟩, by decide +kernel,
    by decide +kernel, by decide +kernel, by decide +kernel, by decide +kernel, by decide +kernel,
    ⟨by decide +kernel, ordered.2.2.2, by decide +kernel⟩, by decide +kernel, by decide +kernel⟩

theorem witness_UpdateReachesItsUsers :
    let s := ready.setSignal 3 { Signal.fresh with policy := .onChange, lastPublished := some 0, deadband := 2 }
    let heard := ready.setEntry 0 { Entry.fresh with
      state := .enabled, route := some ⟨1, 3, .goTrigger 1⟩ }
    ((3 : Fin 16) ≠ 15 ∧ (4 : Fin 16) ≠ 3 ∧ (4 : Fin 16) ≠ 15)
      ∧ ((heard.entry 0).acting = true ∧ heard.bus.number = some 1)
      ∧ ((∀ n, (s.entry n).acting = false) ∧ s.link.watch = [] ∧ (s.signal 3).policy = .onChange
          ∧ 1 ≤ ((2 : Int) - 0).natAbs ∧ (s.signal 3).deadband ≤ ((2 : Int) - 0).natAbs)
      ∧ (s.bus.queue = [] ∧ ¬(s.signal 3).deadband ≤ ((1 : Int) - 0).natAbs)
      ∧ ({ s with stageMiss := true }).stageMiss = true := by decide +kernel

/-- The telemetry clauses of the same statement. -/
theorem witness_UpdateReachesItsUsers_watch :
    let watched := fun h : Hold => onLink fun k => { k with watch := [⟨2, 3, .stopped⟩, ⟨1, 3, h⟩] }
    watchDistinct (watched .stopped).link.watch
      ∧ ((watched .stopped).link.watch[1]? = some ⟨1, 3, .stopped⟩
          ∧ (watched .stopped).bus.number = some 1
          ∧ (watched (.running true)).link.watch[1]? = some ⟨1, 3, .running true⟩)
      ∧ (∀ w ∈ (watched .stopped).link.watch, ¬((watched .stopped).bus.number = some w.station
          ∧ w.index = 4)) := by
  refine ⟨⟨by decide +kernel, by decide +kernel, trivial⟩, by decide +kernel⟩

theorem witness_EntrySettings :
    let at_ := fun (st : EntryState) (d : Destination) => onEntry fun e => { e with
      state := st, route := some ⟨14, 15, d⟩, trigger := some 0 }
    let trigger := fun d : Destination => d = .goTrigger d.indexCode
    let was := fun s : State => (s.entry 0).route.any fun r => r.dest.isTrigger
    ready.resetHeld = []
      ∧ ((3 = 3 ∨ 3 = 4) ∧ 3 < 4 ∧ 14 < 15 ∧ 15 < 16 ∧ 5 < 6 ∧ 7 < 8)
      ∧ (1 ≤ 14 ∧ 14 ≤ 14 ∧ trigger (.goTrigger 7) ∧ ¬trigger (.motorPower 3))
      ∧ ((at_ .stale (.goTrigger 7)).entry 0).state = .stale
      ∧ (ready.entry 0).state = .free
      ∧ (((at_ .disabled (.motorPower 0)).entry 0).state = .disabled
          ∧ was (at_ .disabled (.motorPower 0)) = false)
      ∧ (((at_ .suspended (.goTrigger 1)).entry 0).state = .suspended
          ∧ was (at_ .suspended (.goTrigger 1)) = true)
      ∧ clampI (-32768) 32767 (-32768) < clampI (-32768) 32767 (-32767)
      ∧ ¬((at_ .suspended (.goTrigger 1)).entry 0).state = .free ∧ 1 < 2 := by decide +kernel

theorem witness_EnableDisableFree :
    let dest := fun (st : EntryState) (d : Destination) => onEntry fun e => { e with
      state := st, route := some ⟨3, 1, d⟩ }
    let rests := fun (s : State) (d : Destination) =>
      ((s.entry 0).state = .disabled ∨ (s.entry 0).state = .suspended)
        ∧ (s.entry 0).route = some ⟨3, 1, d⟩ ∧ s.resetHeld = []
    let motor := dest .disabled (.motorSpeed 0)
    let wrong := motor.setEntry 0 { motor.entry 0 with lower := 1, upper := 0 }
    let kind := fun k : MotorKind => motor.setPort 0 { motor.port 0 with kind := k }
    let other := motor.setEntry 1 { Entry.fresh with
      state := .stale, route := some ⟨4, 2, .motorPower 0⟩ }
    let pitch := dest .suspended (.voicePitch 2)
    let second := pitch.setEntry 1 { Entry.fresh with
      state := .enabled, route := some ⟨4, 2, .voicePitch 2⟩ }
    let tied := fun d => dest .enabled d
    let voice := ((tied (.voiceVolume 0)).setVoice 0 { Voice.fresh with
      volumeSource := .listen 0, pitchSource := .listen 0 })
    (ready.resetHeld = [] ∧ (ready.entry 0).state = .free)
      ∧ ((tied (.goTrigger 1)).entry 0).state = .enabled
      ∧ (rests wrong (.motorSpeed 0) ∧ ¬(wrong.entry 0).lower ≤ (wrong.entry 0).upper)
      ∧ (rests motor (.motorSpeed 0) ∧ (motor.entry 0).lower ≤ (motor.entry 0).upper
          ∧ motor.halt.state = .running ∧ (motor.port 0).kind ≠ .none
          ∧ ¬((motor.port 0).kind = .plain ∨ (motor.port 0).encoderLost = true)
          ∧ (motor.port 0).stallYielded = false ∧ (motor.port 0).patternDone = false)
      ∧ (motor.setHalt halted.halt).halt.state ≠ .running
      ∧ ((kind .none).port 0).kind = .none
      ∧ (((kind .plain).port 0).kind ≠ .none ∧ ((kind .plain).port 0).kind = .plain)
      ∧ ((other.entry 1).acting = true ∧ (1 : Fin 16) ≠ 0
          ∧ (Destination.motorSpeed 0).conflicts (.motorPower 0) = true)
      ∧ (rests pitch (.voicePitch 2) ∧ (pitch.voice 2).sound = none
          ∧ (second.entry 1).acting = true
          ∧ (Destination.voicePitch 2).conflicts (.voicePitch 2) = true)
      ∧ (rests (dest .disabled (.voiceVolume 2)) (.voiceVolume 2)
          ∧ ∀ m, m ≠ 0 → ((dest .disabled (.voiceVolume 2)).entry m).acting = false)
      ∧ rests (dest .disabled (.goTrigger 7)) (.goTrigger 7)
      ∧ (((bound .speed (.motorSpeed 0)).port 0).source = .listen 0
          ∧ (bound .speed (.motorSpeed 0)).halt.state ≠ .halting
          ∧ ((bound .speed (.motorSpeed 0)).entry 0).state = .enabled)
      ∧ ((voice.voice 0).volumeSource = .listen 0 ∧ (voice.entry 0).state = .enabled
          ∧ (voice.voice 0).pitchSource = .listen 0) := by decide +kernel

/-- The clauses of the same statement on an acting entry while Halting, and of Free. -/
theorem witness_EnableDisableFree_halting :
    let ending := (bound .safeRamp (.motorSpeed 0)).setHalt { halting.halt with
      settled := #v[false, true, true, true] }
    let waiting := ending.setHalt { ending.halt with settled := #v[false, false, true, true] }
    let tied := fun d : Destination => onEntry fun e => { e with
      state := .enabled, route := some ⟨3, 1, d⟩ }
    ((ending.entry 0).acting = true ∧ (ending.port 0).source = .listen 0
        ∧ ending.halt.state = .halting ∧ ∀ q : Fin 4, q ≠ 0 → ending.halt.settled[q] = true)
      ∧ ((1 : Fin 4) ≠ 0 ∧ (waiting.entry 0).acting = true ∧ (waiting.port 0).source = .listen 0
          ∧ waiting.halt.state = .halting ∧ waiting.halt.settled[(1 : Fin 4)] = false)
      ∧ (((tied (.motorPower 0)).entry 0).acting = true
          ∧ ((tied (.motorPower 0)).port 0).source ≠ .listen 0)
      ∧ (((tied (.goTrigger 1)).entry 0).acting = true
          ∧ ((tied (.voicePitch 0)).entry 0).acting = true) := by decide +kernel

/-- The clauses of the same statement on the note or the tone of a voice that is bound or released. -/
theorem witness_EnableDisableFree_voice :
    let note := fun rest : Bool => (⟨rest, some (.number 60), 100, 50, .sine⟩ : Note)
    let voice := fun (st : EntryState) (f : Voice → Voice) =>
      (onEntry fun e => { e with state := st, route := some ⟨3, 1, .voicePitch 0⟩ }).setVoice 0
        (f Voice.fresh)
    let plays := fun (rest : Bool) (ms : Nat) => voice .disabled fun x => { x with
      state := .sustain, sound := some (.note (note rest)), releaseMs := ms }
    let held := fun (f : Voice → Voice) => voice .enabled fun x => f { x with pitchSource := .listen 0 }
    let sings := fun (ms : Nat) (q : List Note) => held fun x => { x with
      state := .sustain, sound := some .tone, releaseMs := ms, queue := q }
    let rests := held fun x => { x with queue := [note false] }
    let gate := fun (g : Gate) (s : State) => s.setAudio { s.audio with gate := g }
    let acts := fun s : State => (s.entry 0).state = .enabled
      ∧ (s.entry 0).route = some ⟨3, 1, .voicePitch 0⟩ ∧ (s.voice 0).pitchSource = .listen 0
    let stops := fun s : State => s.setHalt halted.halt
    (((plays false 50).voice 0).state = .sustain ∧ ((plays false 50).voice 0).releaseMs ≠ 0
        ∧ ((plays false 50).entry 0).state = .disabled ∧ (plays false 50).resetHeld = []
        ∧ ∀ m, m ≠ 0 → ((plays false 50).entry m).acting = false)
      ∧ (((plays true 50).voice 0).sound = some (.note (note true)) ∧ (note true).rest = true
          ∧ ((plays false 0).voice 0).releaseMs = 0)
      ∧ (((voice .disabled id).voice 0).state ≠ .attack ∧ ((voice .disabled id).voice 0).state ≠ .sustain)
      ∧ (acts (held fun x => { x with state := .waiting })
          ∧ ((held fun x => { x with state := .waiting }).voice 0).sound ≠ some .tone)
      ∧ (acts (sings 50 []) ∧ ((sings 50 []).voice 0).releaseMs ≠ 0)
      ∧ (acts (sings 0 []) ∧ ((sings 0 []).voice 0).queue = []
          ∧ (stops (sings 0 [note true])).halt.state ≠ .running)
      ∧ (acts (held id) ∧ ((held id).voice 0).state = .idle ∧ ((held id).voice 0).queue = [])
      ∧ (acts rests ∧ (rests.voice 0).queue = note false :: [] ∧ rests.halt.state = .running
          ∧ rests.audio.gate = .off ∧ rests.clock.state = .onPLL)
      ∧ ((stops rests).halt.state ≠ .running ∧ ((stops rests).voice 0).queue ≠ [])
      ∧ (acts (gate .starting (sings 0 [note true]))
          ∧ (gate .starting (sings 0 [note true])).audio.gate = .starting)
      ∧ (acts (gate .on rests) ∧ (gate .on rests).audio.gate = .on)
      ∧ (((voice .enabled id).entry 0).state = .enabled
          ∧ ((voice .enabled id).voice 0).pitchSource ≠ .listen 0) := by decide +kernel

theorem witness_TransformStages :
    (-1 : Int) ≤ -1 ∧ (-32768 : Int) ≤ 32767 ∧ (2 : Int) < 3
      ∧ (-32768 : Int) ≤ -32768 ∧ (32767 : Int) ≤ 32767
      ∧ ((-32768 : Int) * -32768).natAbs = 1073741824
      ∧ 2 * (roundDiv (3 * 128) 256 * 256 - 3 * 128).natAbs = 256 := by decide +kernel

theorem witness_EntryTakesValues :
    let s := fun (m : Mode) (d : Destination) => (bound m d).setEntry 0 { (bound m d).entry 0 with
      age := some 300, timeout := 300, trigger := some 1 }
    let falls := (s .speed (.motorSpeed 0)).setEntry 0 { (s .speed (.motorSpeed 0)).entry 0 with
      staleAction := .fallback, fallback := some 0 }
    let voice := (s .coast (.voiceVolume 2)).setVoice 2 { Voice.fresh with volumeSource := .listen 0 }
    let go := s .coast (.goTrigger 7)
    let pitch := fun x : Sound => (s .coast (.voicePitch 2)).setVoice 2 { Voice.fresh with
      pitchSource := .listen 0, state := .sustain, sound := some x }
    let note := pitch (.note ⟨true, none, 10, 50, .square⟩)
    let idle := (s .coast (.voicePitch 2)).setVoice 2 { Voice.fresh with pitchSource := .listen 0 }
    let late := fun (m : Mode) (d : Destination) => (s m d).setEntry 0 { (s m d).entry 0 with
      staleAction := .fallback, fallback := some 1 }
    ((s .power (.motorPower 0)).resetHeld = []
        ∧ ((s .power (.motorPower 0)).entry 0).route = some ⟨3, 1, .motorPower 0⟩
        ∧ ((s .power (.motorPower 0)).entry 0).acting = true)
      ∧ ((3 : Nat) ≠ 4 ∧ Destination.motorPower 0 ≠ .goTrigger (Destination.motorPower 0).indexCode)
      ∧ (((s .power (.motorPower 0)).port 0).source = .listen 0
          ∧ ((s .power (.motorPower 0)).port 0).mode = .power
          ∧ (s .power (.motorPower 0)).halt.state = .running)
      ∧ ((s .position (.motorPosition 0)).port 0).mode = .position
      ∧ ((s .speed (.motorSpeed 0)).setHalt halted.halt).halt.state ≠ .running
      ∧ ((voice.voice 2).volumeSource = .listen 0 ∧ voice.halt.state = .running)
      ∧ ((go.entry 0).route = some ⟨3, 1, .goTrigger 7⟩ ∧ (go.entry 0).trigger = some 1
          ∧ (go.entry 0).transform (.goTrigger 7) 1 = 1 ∧ (go.entry 0).armed = true
          ∧ (go.entry 0).transform (.goTrigger 7) 0 = 0)
      ∧ ((go.entry 0).age.isSome = true ∧ (go.entry 0).staleAction = .hold)
      ∧ ((falls.entry 0).age.isSome = true ∧ (falls.entry 0).staleAction = .fallback
          ∧ (falls.entry 0).fallback = some 0 ∧ (falls.port 0).mode = .speed)
      ∧ (Entry.fresh).age = none ∧ (Destination.goTrigger 7).clamp 0 < 1
      ∧ (((pitch .tone).voice 2).pitchSource = .listen 0 ∧ ((pitch .tone).voice 2).sound = some .tone
          ∧ (pitch .tone).halt.state = .running
          ∧ ((pitch .tone).entry 0).route = some ⟨3, 1, .voicePitch 2⟩)
      ∧ ((note.voice 2).pitchSource = .listen 0 ∧ (note.voice 2).sound ≠ some .tone
          ∧ (note.voice 2).state ≠ .idle)
      ∧ ((idle.voice 2).pitchSource = .listen 0 ∧ (idle.voice 2).sound ≠ some .tone
          ∧ (idle.voice 2).state = .idle ∧ idle.audio.gate ≠ .on
          ∧ ({ idle with audio := { idle.audio with gate := .on } }).audio.gate = .on)
      ∧ ((s .coast (.voiceVolume 2)).voice 2).volumeSource ≠ .listen 0
      ∧ ((s .coast (.voicePitch 2)).voice 2).pitchSource ≠ .listen 0
      ∧ (((late .power (.motorPower 0)).port 0).mode = .power
          ∧ ((late .power (.motorPower 0)).port 0).source = .listen 0
          ∧ ((late .power (.motorPower 0)).entry 0).age.isSome = true
          ∧ ((late .power (.motorPower 0)).entry 0).staleAction = .fallback)
      ∧ ((late .coast (.motorPower 1)).port 1).source ≠ .listen 0
      ∧ (((late .coast (.goTrigger 7)).entry 0).trigger = some 1
          ∧ ((late .coast (.goTrigger 7)).entry 0).fallback = some 1
          ∧ 1 ≤ (Destination.goTrigger 7).clamp 1
          ∧ ((late .coast (.goTrigger 7)).entry 0).armed = true
          ∧ ({ (late .coast (.goTrigger 7)).entry 0 with armed := false }).armed = false) := by
  decide +kernel

theorem witness_StagingAndGo :
    let item := fun n : Nat => (⟨1, 5, n, 0x50, []⟩ : Staged)
    let full := ready.setStaging ((List.range 8).map item)
    let one := ready.setStaging [item 0]
    let miss := { ready with stageMiss := true }
    let named := fun (block code : Nat) (c : CommandName) =>
      code / 16 = block ∧ (blockCommands block)[code % 16]? = some c
    (ready.resetHeld = [] ∧ 1 ≤ 1 ∧ 7 ≤ 7) ∧ halted.halt.state ≠ .running
      ∧ (ready.halt.state = .running ∧ 0x50 / 16 ≠ 4 ∧ (blockCommands 4).length ≤ 0x42 % 16)
      ∧ (named 7 0x70 .halt ∧ (named 1 0x10 .coast ∧ countOk .coast 1 = false))
      ∧ (named 5 0x55 .enable ∧ countOk .enable 0 = true ∧ stageable .enable = true)
      ∧ (one.staging[0]? = some (item 0) ∧ (item 0).group = 1 ∧ (item 0).block = 5
          ∧ (item 0).index = 0)
      ∧ ((∀ x ∈ one.staging, ¬(x.group = 1 ∧ x.block = 5 ∧ x.index = 15)) ∧ one.staging.length < 8)
      ∧ ((∀ x ∈ full.staging, ¬(x.group = 1 ∧ x.block = 5 ∧ x.index = 8)) ∧ 8 ≤ full.staging.length)
      ∧ (goRequest 1 ready).2 = true ∧ (goRequest 1 withdrawn).2 = false
      ∧ ready.staging.filter (fun x => x.group == 1) = [] ∧ (∀ x ∈ full.staging, x.block ≠ 6)
      ∧ ready.stageMiss = false ∧ miss.stageMiss = true := by decide +kernel

theorem witness_StagingAndGo_index : IndexInRange 5 15 ∧ ¬IndexInRange 1 4 := by
  simp [IndexInRange]

theorem witness_CausesHaltTheStation :
    let port := fun (k : MotorKind) (m : Mode) (a : SafeAction) =>
      let s := onPort fun x => { x with kind := k, mode := m, safeAction := a }
      s.setHalt { s.halt with settled := s.halt.settled.set 0 m.settled }
    let flagged := fun s : State => ∀ p : Fin 4, s.halt.settled[p] = (s.port p).mode.settled
    let ramp := port .encoded .position .rampUpperThenCoast
    (flagged ready ∧ ready.halt.state = .running)
      ∧ (flagged (port .encoded .speed .coast) ∧ (port .encoded .speed .coast).halt.state = .running
          ∧ ((port .encoded .speed .coast).port 0).kind ≠ .none)
      ∧ (ready.station.propagateHalt = true ∧ CauseKind.stall ≠ .busBreak)
      ∧ (some (CausePort.motor 0) = some (.motor 0) ∧ CauseKind.thermal ≠ .undervoltage
          ∧ CauseKind.thermal ≠ .stall ∧ CauseKind.thermal ≠ .overcurrent)
      ∧ ((port .none .coast .coast).port 0).kind = .none
      ∧ ((port .plain .power .brake).port 0).safeAction = .brake
      ∧ (flagged ramp ∧ (ramp.port 0).safeAction = .rampUpperThenCoast
          ∧ (ramp.port 0).mode = .position ∧ (ramp.port 0).kind = .encoded
          ∧ (ramp.port 0).encoderLost = false)
      ∧ ((port .plain .power .rampLowerThenCoast).port 0).mode = .power
      ∧ ((port .encoded .brake .rampLowerThenCoast).port 0).mode = .brake
      ∧ ((ramp.setPort 0 { ramp.port 0 with encoderLost := true }).port 0).encoderLost = true
      ∧ (ready.link.present = true ∧ ready.link.watch = [] ∧ (ready.lane 3).outbound.length < 6)
      ∧ (flagged halted ∧ halted.halt.state ≠ .running ∧ flagged halting
          ∧ halting.halt.state ≠ .running) := by decide +kernel

theorem witness_HaltAndResume :
    let h := halted.halt
    let active := (halted.setHalt { h with first := some .sensorHalt, firstPort := some (.sensor 0) }).setSensor 0
      { ready.sensor 0 with haltInput := true, active := true }
    let tied := (bound .coast (.motorPower 0)).setHalt h
    let tone := ((bound .coast (.voicePitch 0)).setHalt h).setVoice 0 { Voice.fresh with
      pitchSource := .listen 0, boundPitch := some 60 }
    let moving := (halting.setPort 0 { halting.port 0 with mode := .safeRamp }).setHalt { halting.halt with
      settled := halting.halt.settled.set 0 false }
    (ready.resetHeld = [] ∧ ready.halt.state = .running) ∧ halting.halt.state = .halting
      ∧ (h.state = .halted ∧ ((active.sensor 0).active && (active.sensor 0).haltInput) = true
          ∧ active.halt.first = some .sensorHalt ∧ active.halt.firstPort = some (.sensor 0))
      ∧ (h.first = some .tabletHalt ∧ h.further = [] ∧ (halted.port 0).kind ≠ .none)
      ∧ ((tied.entry 0).route = some ⟨3, 1, .motorPower 0⟩ ∧ (tied.entry 0).acting = true
          ∧ tied.halt.state = .halted)
      ∧ ((tone.voice 0).pitchSource = .listen 0 ∧ (tone.voice 0).boundPitch.isSome = true
          ∧ (tone.voice 0).state = .idle ∧ tone.audio.gate ≠ .on ∧ tone.halt.state = .halted
          ∧ ({ tone with audio := { tone.audio with gate := .on } }).audio.gate = .on
          ∧ (tone.voice 1).pitchSource = .own)
      ∧ (halted.link.present = true ∧ (∀ k, (halted.entry k).acting = false)
          ∧ halted.link.watch = [] ∧ (halted.lane 3).outbound.length < 6)
      ∧ ready.halt.safeTimer = none
      ∧ (moving.halt.state = .halting ∧ moving.halt.safeTimer.isSome = true
          ∧ (∀ q : Fin 4, moving.halt.settled[q] = (moving.port q).mode.settled)
          ∧ moving.halt.settled[(0 : Fin 4)] = false) := by decide +kernel

/-- The clause of the same statement on a stage miss whose clearing reaches no entry, and the case it leaves
to the entry: one that hears signal 15 of this station. -/
theorem witness_StagingAndGo_miss :
    let hears := onEntry fun e => { e with state := .enabled, route := some ⟨1, 15, .goTrigger 1⟩ }
    (∀ n, (ready.entry n).acting = false)
      ∧ (ready.bus.number = some 1 ∧ (hears.entry 0).acting = true
          ∧ (hears.entry 0).route = some ⟨1, 15, .goTrigger 1⟩) := by decide +kernel

theorem witness_StationCommands :
    let pending := fun r : RestartReply =>
      ready.setStation { ready.station with restartPending := some r }
    let sent := (pending .message).setLink { ready.link with sending := some ⟨1, [], true⟩ }
    let waits := (pending (.frame 3)).setBus { ready.bus with
      queue := [⟨.reply, 4, [7, 0], 3, none, false⟩] }
    let full := (queued 8).setBus { (queued 8).bus with nextStamp := 1 }
    (ready.resetHeld = [] ∧ ready.station.restartPending = none)
      ∧ (pending (.frame 3)).station.restartPending.isSome = true
      ∧ (withdrawn.isWithdrawn = true ∧ withdrawn.station.restartPending = none)
      ∧ (ready.isWithdrawn = false ∧ ready.bus.queue.length < 8 ∧ here = .tablet 15 7)
      ∧ (full.isWithdrawn = false ∧ full.station.restartPending = none
          ∧ 8 ≤ full.bus.queue.length ∧ (∀ f ∈ full.bus.queue, f.kind.code ≤ 3)
          ∧ ∀ f ∈ full.bus.sending.toList ++ full.bus.queue, f.stamp ≠ full.bus.nextStamp)
      ∧ (sent.link.sending = some ⟨1, [], true⟩ ∧ sent.station.restartPending = some .message)
      ∧ (waits.station.restartPending = some (.frame 3)
          ∧ (∃ f ∈ waits.bus.sending.toList ++ waits.bus.queue, f.stamp = 3)
          ∧ ¬∃ f ∈ (pending (.frame 3)).bus.sending.toList ++ (pending (.frame 3)).bus.queue,
              f.stamp = 3)
      ∧ here ≠ .broadcast ∧ ready.clock.state = .onPLL
      ∧ State.reset.clock.state = .onRCStarting
      ∧ (onClock fun k => { k with state := .switching }).clock.state = .switching
      ∧ (onClock fun k => { k with state := .onRCFailed }).clock.state = .onRCFailed := by
  decide +kernel

theorem witness_ClockUnitEvents :
    let r := State.reset
    let locking := r.setClock { r.clock with crystal := .running, pll := .locking, startTimer := some 10 }
    let switching := r.setClock { r.clock with state := .switching, pll := .locked, startTimer := none }
    let waiting := switching.setVoice 0 { Voice.fresh with state := .waiting }
    (r.resetHeld = [] ∧ r.clock.state = .onRCStarting ∧ r.clock.crystal = .starting
        ∧ r.clock.startTimer.isSome = true)
      ∧ (locking.clock.state = .onRCStarting ∧ locking.clock.pll = .locking
          ∧ locking.clock.crystal ≠ .starting)
      ∧ (r.clock.pll ≠ .locking ∧ ready.clock.startTimer = none)
      ∧ (switching.clock.state = .switching ∧ switching.bus.withdrawn = [.clock])
      ∧ (waiting.audio.gate = .off ∧ (waiting.voice 0).state = .waiting)
      ∧ (ready.clock.state = .onPLL ∧ ready.clock.edgeMonitor.isSome = true
          ∧ ready.isWithdrawn = false ∧ ready.station.propagateHalt = true
          ∧ ready.halt.state = .running)
      ∧ (halted.halt.state ≠ .running ∧ halted.halt.first ≠ some .clockLost)
      ∧ r.clock.edgeMonitor = none := by decide +kernel

/-- The clauses of the same statement on a voice at the loss of the audio clock. -/
theorem witness_ClockUnitEvents_voice :
    let s := fun (g : Gate) (f : Voice → Voice) =>
      ((onVoice f).setAudio { ready.audio with gate := g }).setClock { ready.clock with
        state := .onRCFailed }
    let note : Note := ⟨true, none, 10, 0, .square⟩
    (s .on id).audio.gate ≠ .off ∧ (s .on id).clock.state ≠ .onPLL ∧ ((s .on id).voice 0).state = .idle
      ∧ (((s .on fun x => { x with state := .sustain, queue := [note] }).voice 0).state = .sustain
          ∧ ((s .on fun x => { x with state := .sustain, queue := [note] }).voice 0).pitchSource = .own
          ∧ ((s .on fun x => { x with state := .sustain, queue := [note] }).voice 0).queue ≠ [])
      ∧ ((s .starting fun x => { x with state := .release }).voice 0).queue = []
      ∧ ((s .on fun x => { x with state := .sustain }).setHalt halted.halt).halt.state ≠ .running := by
  decide +kernel

theorem witness_StartRecordReadsBack :
    let two := fun x i : Nat => x / 4 ^ i % 4
    let good : List Byte := 6 :: 0xAA :: List.replicate 28 0
    let bad : List Byte := 6 :: 0xC0 :: List.replicate 28 0
    (good.length = 30 ∧ ∀ i : Fin 4, two (good.getD 1 0).toNat i ≠ 3)
      ∧ (bad.length = 30 ∧ two (bad.getD 1 0).toNat 3 = 3)
      ∧ (StartRecord.mk good true).torn = true ∧ good.getD 29 0 ≠ 1 := by decide +kernel

theorem witness_ResetsSetEveryBlock :
    let pending := ready.setStation { ready.station with restartPending := some .message }
    let both := { ready with resetHeld := [.powerOn, .pin] }
    (pending.resetHeld = [] ∧ pending.station.restartPending.isSome = true)
      ∧ .pin ∉ ready.resetHeld
      ∧ (.pin ∈ both.resetHeld ∧ both.resetHeld.filter (fun k => k != .pin) ≠ [])
      ∧ (.pin ∈ held.resetHeld ∧ held.resetHeld.filter (fun k => k != .pin) = [])
      ∧ ((11 : Fin 16) ≠ 12 ∧ (11 : Fin 16) ≠ 15 ∧ (14 : Fin 16) ≠ 12 ∧ (14 : Fin 16) ≠ 15) := by
  decide +kernel

/-- `n` messages wait in the Link outbound FIFO. -/
def statuses (n : Nat) (m : OutMsg) : State :=
  ready.setLane 0 { ready.lane 0 with outbound := List.replicate n ⟨m, false⟩ }

theorem witness_LinkMessages :
    let watched := fun n : Nat => onLink fun k => { k with
      watch := (List.range n).map fun i => ⟨1, i, .stopped⟩ }
    let storing := onLink fun k => { k with store := some ⟨7, List.replicate 30 0⟩ }
    (ready.resetHeld = [] ∧ ready.link.present = true
        ∧ (∀ y ∈ ((statuses 5 (.notice 1 0 0)).lane 0).outbound, y.msg ≠ .status)
        ∧ ((statuses 5 (.notice 1 0 0)).lane 0).outbound.length < 6
        ∧ ((statuses 5 (.notice 1 0 0)).lane 0).mode ≠ .batched)
      ∧ (∃ y ∈ ((statuses 1 .status).lane 0).outbound, y.msg = .status)
      ∧ (State.reset.link.present = false ∧ (State.reset.lane 0).outbound = [])
      ∧ (4 ≤ 4 ∧ 3 ≤ 3)
      ∧ (∃ w ∈ (watched 1).link.watch, w.station = clampN 1 14 0 ∧ w.index = clampN 0 15 0)
      ∧ ((∀ w ∈ (watched 7).link.watch, ¬(w.station = clampN 1 14 1 ∧ w.index = clampN 0 15 16))
          ∧ (watched 7).link.watch.length < 8)
      ∧ ((∀ w ∈ (watched 8).link.watch, ¬(w.station = clampN 1 14 15 ∧ w.index = clampN 0 15 7))
          ∧ 8 ≤ (watched 8).link.watch.length)
      ∧ ((List.replicate 30 0#8).length = 30 ∧ ready.link.store = none)
      ∧ storing.link.store = some ⟨7, List.replicate 30 0⟩ ∧ (List.replicate 29 0#8).length ≠ 30 := by
  decide +kernel

/-- `n` messages wait in an inbound FIFO. -/
def inboundOf (l : Fin 4) (n : Nat) : State :=
  ready.setLane l { ready.lane l with inbound := List.replicate n [4, 0x10, 0x10, 1] }

theorem witness_TabletReceiverTakesMessages :
    let receiver := fun r : TabletReceiver => onLink fun k => { k with receiver := r }
    let queue := fun n : Nat => onVoice fun x => { x with
      queue := List.replicate n ⟨true, none, 10, 0, .square⟩ }
    (ready.resetHeld = [] ∧ (List.replicate 32 0#8).length ≤ 32 ∧ (List.replicate 9 0#8).length ≤ 9
        ∧ (15#8).toNat < 16)
      ∧ (receiver .hunting).link.receiver = .hunting
      ∧ (ready.link.receiver ≠ .hunting ∧ (1#8) ≠ 0#8)
      ∧ 6 ≤ ((inboundOf 3 6).lane 3).inbound.length ∧ ((inboundOf 3 5).lane 3).inbound.length < 6
      ∧ ((ready.lane 1).inbound = [] ∧ ready.bus.number = some (1#8).toNat)
      ∧ (¬((2#8) = 15#8 ∨ ready.bus.number = some (2#8).toNat)
          ∧ (onLink fun k => { k with forwarded := 1 }).link.forwarded < 2
          ∧ 2 ≤ (onLink fun k => { k with forwarded := 2 }).link.forwarded)
      ∧ ((List.replicate 6 0#8).length = 6 ∧ (((queue 7).voice 0).queue).length < 8
          ∧ 8 ≤ ((queue 8).voice 0).queue.length ∧ ((queue 8).lane 2).inbound = [])
      ∧ ((15#8).toNat < 16 ∧ 16 ≤ (16#8).toNat ∧ ¬((2#8) = 15#8 ∨ ready.bus.number = some (2#8).toNat))
      ∧ (BadMessage.shortBody = .shortBody ∧ BadMessage.crc ≠ .shortBody)
      ∧ ready.link.receiver = .ready
      ∧ (receiver .inMessage).link.receiver = .inMessage
      ∧ ((∀ l, (ready.lane l).inbound = []) ∧ (List.replicate 30 0#8).length = 30) := by decide +kernel

/-- The clause of the same statement on a body that names no message of its lane: a code of none, or a
length that is not the message's. -/
theorem witness_TabletReceiverTakesMessages_bodies :
    let names := fun (l : Fin 4) (type size : Nat) => decide (
      (l = 0 ∧ ((type = 0 ∧ size = 1) ∨ (type = 1 ∧ size = 4) ∨ (type = 2 ∧ size = 2)))
        ∨ (l = 1 ∧ ((type < 16 ∧ 4 ≤ size ∧ size ≤ 13) ∨ (16 ≤ type ∧ type < 32 ∧ size = 32)))
        ∨ (l = 2 ∧ size = 9)
        ∨ (l = 3 ∧ ((type ≤ 1 ∧ size = 3) ∨ (type = 2 ∧ size = 1))))
    ¬names 0 0 0 ∧ ¬names 0 3 1 ∧ ¬names 0 1 3 ∧ ¬names 1 15 3 ∧ ¬names 1 0 14 ∧ ¬names 1 31 31
      ∧ ¬names 1 32 32 ∧ ¬names 2 15 8 ∧ ¬names 2 15 10 ∧ ¬names 3 2 3 ∧ ¬names 3 3 1
      ∧ names 1 15 4 ∧ names 1 31 32 ∧ names 3 1 3 := by decide

theorem witness_LinkTransmitterAndTimers :
    let command : List Byte := [2, 0x10, 0x10, 1]
    let note : List Byte := [15, 1, 1, 0, 60, 0, 100, 0, 50]
    let one := fun (l : Fin 4) (b : List Byte) (n : Nat) =>
      (onLink fun k => { k with forwarded := n }).setLane l { ready.lane l with inbound := [b] }
    let full := (one 2 note 0).setVoice 0 { Voice.fresh with
      queue := List.replicate 8 ⟨true, none, 10, 0, .square⟩ }
    let out := fun m : OutMsg => ready.setLane 3 { ready.lane 3 with
      outbound := [⟨.notice 1 1 0, false⟩, ⟨m, true⟩], timer := some 100 }
    let hold := fun (h : Hold) => onLink fun k => { k with watch := [⟨1, 15, h⟩] }
    let driven := onPort fun x => { x with mode := .pattern }
    let filled := fun l : List OutMsg =>
      ((ready.setLane 3 { ready.lane 3 with outbound := l.map fun m => ⟨m, false⟩ }).lane 3).outbound
    (ready.resetHeld = [] ∧ (2#8).toNat < 16 ∧ 2#8 ≠ 15#8 ∧ ready.bus.number ≠ some (2#8).toNat)
      ∧ (((one 1 command 1).lane 1).inbound = [command] ∧ ((one 1 command 1).lane 2).inbound = []
          ∧ (one 1 command 1).link.forwarded < 2 ∧ 2 ≤ (one 1 command 2).link.forwarded)
      ∧ (((one 2 note 0).lane 2).inbound = [note] ∧ ((one 2 note 0).voice 0).queue.length < 8
          ∧ note.length = 3 + 6)
      ∧ ((full.lane 2).inbound = [note] ∧ 8 ≤ (full.voice 0).queue.length)
      ∧ (onLink fun k => { k with sending := some ⟨0, [], false⟩ }).link.sending.isSome = true
      ∧ (ready.link.sending = none ∧ ∀ j, ∀ y ∈ (ready.lane j).outbound, y.released = false)
      ∧ (((out .status).lane 3).outbound = [⟨.notice 1 1 0, false⟩] ++ ⟨.status, true⟩ :: []
          ∧ (out .status).link.sending = none
          ∧ (∀ j, j < 3 → ∀ y ∈ ((out .status).lane j).outbound, y.released = false))
      ∧ (((out (.notice 2 1 0)).lane 3).timer.isSome = true ∧ OutMsg.notice 2 1 0 ≠ .status)
      ∧ (ready.lane 3).timer = none
      ∧ ((hold (.running false)).link.watch[0]? = some ⟨1, 15, .running false⟩
          ∧ (hold (.running true)).link.watch[0]? = some ⟨1, 15, .running true⟩ ∧ 15 < 16
          ∧ (hold .stopped).link.watch[0]? = some ⟨1, 15, .stopped⟩ ∧ (hold .stopped).link.watch[1]? = none)
      ∧ State.reset.link.timer = none
      ∧ (ready.link.timer.isSome = true ∧ ready.link.haltOnLoss = true
          ∧ (∀ p, (ready.port p).mode = .coast) ∧ (driven.port 0).mode = .pattern
          ∧ driven.link.timer.isSome = true ∧ driven.link.haltOnLoss = true)
      ∧ (onLink fun k => { k with haltOnLoss := false }).link.haltOnLoss = false
      ∧ State.reset.link.present = false
      ∧ (ready.link.present = true ∧ OutMsg.isTelemetry .status = false
          ∧ (filled (List.replicate 5 .status)).length < 6
          ∧ 6 ≤ (filled (List.replicate 6 .status)).length)
      ∧ ((filled [.telemetry 1 3 7]).any (fun z => z.msg == .telemetry 1 3 7) = true
          ∧ (filled [.telemetry 1 4 7]).any (fun z => z.msg == .telemetry 1 3 7) = false)
      ∧ (filled (.status :: .telemetry 1 4 7 :: List.replicate 4 .status)
            = [⟨.status, false⟩] ++ ⟨.telemetry 1 4 7, false⟩ :: filled (List.replicate 4 .status)
          ∧ 6 ≤ (filled (.status :: .telemetry 1 4 7 :: List.replicate 4 .status)).length)
      ∧ (filled (List.replicate 6 .status)).any (fun z => z.msg.isTelemetry) = false
      ∧ ¬((onLink fun k => { k with sending := some ⟨0, [], false⟩ }).link.sending.any
          SentMessage.restart = true) := by decide +kernel

theorem witness_FramesReadBack :
    let f : Frame := ⟨.announce, 0, [1, 0, 0, 0, 128], 0, none, false⟩
    let c : Frame := ⟨.command, 14, List.replicate 3 0 ++ List.replicate 9 0xFF, 0, none, false⟩
    (14 < 16 ∧ rangesOk f.kind f.route f.payload = true ∧ rangesOk c.kind c.route c.payload = true)
      ∧ readFrame (encodeFrame (some 14) c) = some ⟨.command, 14, 14, c.payload⟩
      ∧ (encodeFrame (some 14) f)[7]?.any (fun x => x != 0xAB) = true := by decide +kernel

theorem witness_BusLineAndSending :
    let f : Frame := ⟨.command, 3, [0x10, 0x10, 7], 0, some ⟨3, 7⟩, false⟩
    let g : Frame := ⟨.go, 0, [7], 0, none, false⟩
    let r : Frame := ⟨.reply, 3, [7, 0], 1, none, false⟩
    let receiver := fun x : BusReceiver => onBus fun b => { b with receiver := x }
    let sends := fun (x : Frame) (n : Nat) => onBus fun b => { b with
      sending := some x, lineFaults := n }
    let breaks := onBus fun b => { b with breakSending := some 0 }
    let waits := onBus fun b => { b with queue := [f, r] }
    let pending := onBus fun b => { b with
      announcePending := true, queue := List.replicate 7 r }
    let full := onBus fun b => { b with
      announcePending := true, queue := List.replicate 8 r }
    let late := sends { f with expired := true } 0
    let cut := (sends f 0).setBus { (sends f 0).bus with withdrawn := [.lineFault] }
    let twice := (sends g 0).setBus { (sends g 0).bus with queue := [g] }
    (ready.resetHeld = [] ∧ breaks.bus.breakSending ≠ none)
      ∧ (ready.bus.breakSending = none ∧ ready.bus.receiver ≠ .inFrame ∧ ready.bus.receiver = .idle)
      ∧ (receiver .inFrame).bus.receiver = .inFrame ∧ (receiver .hunting).bus.receiver ≠ .idle
      ∧ (ReceptionError.check ≠ .framingBreak ∧ ReceptionError.check ≠ .earlyGap)
      ∧ (waits.bus.receiver = .idle ∧ waits.isWithdrawn = false ∧ waits.bus.sending = none
          ∧ waits.bus.queue = f :: [r] ∧ ready.bus.queue = [])
      ∧ (pending.bus.announcePending = true ∧ pending.bus.queue.length < 8
          ∧ pending.isWithdrawn = false ∧ 8 ≤ full.bus.queue.length)
      ∧ (waits.bus.queue[1]? = some r ∧ r.kind = .reply ∧ waits.bus.queue[0]? = some f
          ∧ f.kind = .command ∧ waits.bus.queue[2]? = none ∧ twice.bus.queue[0]? = some g
          ∧ ¬(g.kind = .command ∨ g.kind = .reply))
      ∧ ((sends f 14).bus.sending = some f ∧ (sends f 14).bus.lineFaults + 1 < 16
          ∧ 15 ≤ (sends f 15).bus.lineFaults ∧ (sends g 0).bus.sending = some g
          ∧ (sends f 0).isWithdrawn = false ∧ (sends f 0).bus.queue.length < 8 ∧ f.expired = false)
      ∧ (cut.bus.sending = some f ∧ cut.isWithdrawn = true ∧ r.kind ≠ .command)
      ∧ ((sends g 0).setHalt halted.halt).halt.state ≠ .running
      ∧ (g ∈ twice.bus.queue ∧ g.payload = g.payload ∧ twice.bus.sending = some g
          ∧ twice.isWithdrawn = false ∧ twice.halt.state = .running)
      ∧ (late.bus.sending.any Frame.expired = true ∧ late.isWithdrawn = false) := by decide +kernel

/-- The clauses of the same statement on a frame that returns to the queue. -/
theorem witness_BusLineAndSending_returns :
    let r : Frame := ⟨.reply, 3, [7, 0], 1, none, false⟩
    let event : Frame := ⟨.event, 2, [1, 0], 0, none, false⟩
    let sends := fun (s : State) (f : Frame) => s.setBus { s.bus with sending := some f }
    let filled := sends (queued 8) r
    let evicts := sends fullQueue r
    (sends ready { r with expired := true }).bus.sending = some { r with expired := true }
      ∧ (filled.bus.sending = some r ∧ 8 ≤ filled.bus.queue.length ∧ filled.isWithdrawn = false
          ∧ ∀ h ∈ filled.bus.queue, h.kind.code ≤ r.kind.code)
      ∧ (evicts.bus.sending = some r ∧ 8 ≤ evicts.bus.queue.length ∧ evicts.isWithdrawn = false
          ∧ evicts.bus.queue.getLast? = some ⟨.signal, 2, [0, 0], 3, none, false⟩
          ∧ r.kind.code < FrameKind.signal.code)
      ∧ ((sends oneSignal event).bus.sending = some event
          ∧ (∃ h ∈ oneSignal.bus.queue, h.kind = .signal ∧ h.route = event.route)
          ∧ event.kind = .event)
      ∧ (∃ h ∈ announced.bus.queue, h.kind = .announce) := by decide +kernel

theorem witness_FrameCompletionDispatches :
    let go : Frame := ⟨.go, 0, [7], 0, none, false⟩
    let signal : Frame := ⟨.signal, 12, [0xFF, 0x7F], 0, none, false⟩
    let command := fun d : Nat => (⟨.command, d, [0x10, 0x10, 7], 0, some ⟨d, 7⟩, false⟩ : Frame)
    let reply : Frame := ⟨.reply, 1, [7, 0], 0, none, false⟩
    let announce := fun n : Nat => (⟨.announce, 0, charsOf 4 n ++ [0], 0, none, false⟩ : Frame)
    let inFrame := onBus fun b => { b with receiver := .inFrame, serial := 5 }
    let owns := fun f : Frame => inFrame.setBus { inFrame.bus with sending := some f }
    let heard := fun f : Frame => readFrame (encodeFrame (some 2) f)
    let mine := fun f : Frame => readFrame (encodeFrame (some 1) f)
    (ready.resetHeld = [] ∧ ready.bus.receiver ≠ .inFrame)
      ∧ (inFrame.bus.receiver = .inFrame ∧ inFrame.bus.breakSending = none ∧ readFrame [0, 0, 0] = none)
      ∧ (mine go = some ⟨.go, 1, 0, [7]⟩ ∧ (owns go).bus.sending = some go
          ∧ encodeFrame (owns go).bus.number go = encodeFrame (some 1) go)
      ∧ (heard go = some ⟨.go, 2, 0, [7]⟩ ∧ inFrame.bus.sending = none)
      ∧ (mine signal = some ⟨.signal, 1, 12, [0xFF, 0x7F]⟩ ∧ (12 : Fin 16).val = 12
          ∧ signal.origin = none ∧ heard signal = some ⟨.signal, 2, 12, [0xFF, 0x7F]⟩)
      ∧ (mine (command 0) = some ⟨.command, 1, 0, [0x10, 0x10, 7]⟩
          ∧ (command 0).origin = some ⟨0, 7⟩ ∧ heard (command 0) = some ⟨.command, 2, 0, [0x10, 0x10, 7]⟩)
      ∧ (heard (command 1) = some ⟨.command, 2, 1, [0x10, 0x10, 7]⟩ ∧ inFrame.bus.number = some 1
          ∧ mine (command 3) = some ⟨.command, 1, 3, [0x10, 0x10, 7]⟩ ∧ inFrame.bus.number ≠ some 3)
      ∧ (heard reply = some ⟨.reply, 2, 1, [7, 0]⟩)
      ∧ (heard { reply with route := 9 } = some ⟨.reply, 2, 9, [7, 0]⟩)
      ∧ (mine reply = some ⟨.reply, 1, 1, [7, 0]⟩ ∧ (owns reply).bus.sending = some reply
          ∧ mine { reply with route := 9 } = some ⟨.reply, 1, 9, [7, 0]⟩)
      ∧ (mine (announce 6) = some ⟨.announce, 1, 0, [6, 0, 0, 0, 0]⟩
          ∧ heard (announce 6) = some ⟨.announce, 2, 0, [6, 0, 0, 0, 0]⟩
          ∧ inFrame.bus.serial.toNat < readU [6, 0, 0, 0] ∧ readU [4, 0, 0, 0] < inFrame.bus.serial.toNat
          ∧ inFrame.isWithdrawn = false) := by decide +kernel

/-! The promises, in states from which a step goes on. -/

/-- A state with a temperature reading waiting, which changes nothing else. -/
def ticking (s : State) : State := { s with pending := [.temperatureSample 20] }

def stagedOne : State := ticking ((fullQueue.setStaging [⟨1, 5, 0, 0x55, []⟩]).setLink
  { fullQueue.link with watch := [⟨1, 0, .stopped⟩, ⟨1, 1, .stopped⟩] })

theorem witness_CapacityAndOrderKept :
    (stagedOne.WithinCapacity ∧ stagedOne.QueueOrdered ∧ stagingDistinct stagedOne.staging
        ∧ watchDistinct stagedOne.link.watch)
      ∧ step stagedOne = .next { stagedOne with pending := [] } := by
  refine ⟨⟨?_, ?_, ?_, ?_⟩, rfl⟩
  · unfold State.WithinCapacity; decide +kernel
  all_goals repeat' (first | exact trivial | refine And.intro (by decide +kernel) ?_)

theorem witness_HaltPromisesKept :
    ((ticking halted).HaltQuiet ∧ (ticking halted).HaltedAtRest ∧ (ticking halted).HaltRecordKept)
      ∧ step (ticking halted) = .next halted := by
  refine ⟨⟨?_, ?_, ?_⟩, rfl⟩
  · unfold State.HaltQuiet Voice.silent; decide +kernel
  · unfold State.HaltedAtRest; decide +kernel
  · unfold State.HaltRecordKept; decide +kernel

def retrying : State := withdrawn.setClock { State.reset.clock with retry := some here }

/-- A Restart waits for its Reply frame, which is queued. -/
def restarting : State := (onBus fun b => { b with
    queue := [⟨.reply, 3, [7, 0], 0, none, false⟩], nextStamp := 1 }).setStation
  { ready.station with restartPending := some (.frame 0) }

theorem witness_WithdrawnPromisesKept :
    ((ticking retrying).WithdrawnSilent ∧ (ticking retrying).ClockWithdrawn ∧ (ticking retrying).RetryKept
        ∧ (ticking retrying).RestartWaits)
      ∧ step (ticking retrying) = .next retrying := by
  unfold State.WithdrawnSilent State.ClockWithdrawn State.RetryKept
  exact ⟨⟨by decide +kernel, by decide +kernel, by decide +kernel,
    fun k h => absurd h (noFrameAwaited rfl k)⟩, rfl⟩

/-- The same with a Restart that waits: the temperature row leaves its frame queued. -/
theorem witness_WithdrawnPromisesKept_restart :
    ((ticking restarting).WithdrawnSilent ∧ (ticking restarting).ClockWithdrawn
        ∧ (ticking restarting).RetryKept ∧ (ticking restarting).RestartWaits)
      ∧ step (ticking restarting) = .next restarting := by
  unfold State.WithdrawnSilent State.ClockWithdrawn State.RetryKept
  refine ⟨⟨by decide +kernel, by decide +kernel, by decide +kernel, fun k h => ?_⟩, rfl⟩
  cases h
  exact ⟨_, List.mem_singleton_self _, rfl⟩

def fullPower : State := onPort fun x => { x with mode := .power, duty := -1000, bridge := .driven }

theorem witness_DutyLimitKept :
    (ticking fullPower).DutyBounded ∧ step (ticking fullPower) = .next fullPower := by
  refine ⟨?_, rfl⟩
  unfold State.DutyBounded
  decide +kernel

def listening : State := bound .power (.motorPower 0)

theorem witness_OwnersAndSourcesAgree :
    ((ticking listening).OneOwner ∧ (ticking listening).SourcesMatch)
      ∧ step (ticking listening) = .next listening := by
  refine ⟨⟨?_, ?_⟩, rfl⟩
  · unfold State.OneOwner Entry.wellKept; decide +kernel
  · unfold State.SourcesMatch; decide +kernel

end Sys2Proof.Tests
end

/-! PROOF. One regulation period of a motor port (R9 to R12): what stages 4 and 5 do in each mode, and the
statement about them. -/

namespace Sys2Proof.Machine

/-! ### Stages 3 to 5 of a period, by mode -/

/-- Table 1-3: Coast opens the switches of the bridge. -/
theorem Port.drive_of_coast (eff : Int) {x : Port} (h : x.mode = .coast) :
    x.drive eff = { x with duty := 0, bridge := .floating } := by
  simp only [Port.drive, h]

/-- Table 1-3: Brake shorts the windings. -/
theorem Port.drive_of_brake (eff : Int) {x : Port} (h : x.mode = .brake) :
    x.drive eff = { x with duty := 0, bridge := .shorted } := by
  simp only [Port.drive, h]

/-- R12: Power mode applies its target. -/
theorem Port.drive_of_power (eff : Int) {x : Port} (h : x.mode = .power) :
    x.drive eff = { x with duty := clampAbs eff x.target, bridge := .driven } := by
  simp only [Port.drive, h]

/-- R10: the loop of Speed mode is closed on the measured speed, with the speed gains. -/
theorem Port.drive_of_speed (eff : Int) {x : Port} (h : x.mode = .speed) :
    x.drive eff =
      { x.regulate eff x.spdKp x.spdKi (x.reference - x.speed) with bridge := .driven } := by
  simp only [Port.drive, h]

/-- R9: one loop serves Position, Pattern and SafeRamp, with the position gains. -/
theorem Port.drive_of_positional (eff : Int) {x : Port} (h : x.mode.positional = true) :
    x.drive eff =
      { x.regulate eff x.posKp x.posKi (x.reference - x.position) with bridge := .driven } := by
  cases hm : x.mode with
  | position | pattern | safeRamp => simp only [Port.drive, hm]
  | coast | brake | power | speed => simp [hm, Mode.positional] at h

/-- R9 and R11 as the manual computes them: division toward zero, and anti-windup that keeps the
accumulator when the duty saturates in the direction of the error. -/
theorem Port.regulate_eq (eff : Int) (kp ki : Nat) (err : Int) (x : Port) :
    x.regulate eff kp ki err =
      let e := clampAbs 32767 err
      let candidate := clampAbs (eff * 256) (x.acc + ki * e)
      let u := Int.tdiv (kp * e) 16 + Int.tdiv candidate 256
      { x with
        duty := clampAbs eff u
        acc := if (eff < u ∧ 0 < e) ∨ (u < -eff ∧ e < 0) then x.acc else candidate } := rfl

/-- R8: a period clamps the accumulator to the effective limit before the mode drives the bridge. -/
theorem driveStage_eq (p : Fin 4) (s : State) :
    driveStage p s = s.setPort p
      (((s.port p).clampAcc (effLimit s.battery.ceiling (s.port p))).drive
        (effLimit s.battery.ceiling (s.port p))) := rfl

/-! ### The statement -/

/-- Settles O17: the drive stage is a case split on the port's mode, each case the equation of that mode
on the port whose accumulator has been clamped. The modes of the position loop share one equation. -/
theorem regulatorOutput : Obligations.RegulatorOutput := by
  intro p s x eff held loop
  have clamped : x.clampAcc eff = held := rfl
  have positional (h : held.mode.positional = true) :
      held.drive eff = loop x.posKp x.posKi (x.reference - x.position) := by
    rw [Port.drive_of_positional eff h, Port.regulate_eq]
  rw [driveStage_eq]
  refine congrArg (s.setPort p) ?_
  change (x.clampAcc eff).drive eff = _
  rw [clamped]
  split
  case h_1 coast => exact Port.drive_of_coast eff (x := held) coast
  case h_2 brake => exact Port.drive_of_brake eff (x := held) brake
  case h_3 power => exact Port.drive_of_power eff (x := held) power
  case h_4 speed => rw [Port.drive_of_speed eff (x := held) speed, Port.regulate_eq]
  case h_5 position => exact positional (congrArg Mode.positional position)
  case h_6 pattern => exact positional (congrArg Mode.positional pattern)
  case h_7 safeRamp => exact positional (congrArg Mode.positional safeRamp)

end Sys2Proof.Machine

/-! PROOF. Pitches (R76): the rounding division, the tenths of a hertz and the increment that a pitch of the
manual's ranges gives, a new value for the continuous tone, and the statement about them. -/

namespace Sys2Proof.Machine

/-! ### The rounding division on numbers that are not negative -/

theorem roundDiv_of_nonneg {a : Int} (h : 0 ≤ a) (b : Nat) :
    roundDiv a b = (2 * a + b) / (2 * b) := if_pos h

theorem roundDiv_nonneg {a : Int} (h : 0 ≤ a) (b : Nat) : 0 ≤ roundDiv a b := by
  rw [roundDiv_of_nonneg h]
  exact Int.ediv_nonneg (by omega) (by omega)

theorem le_roundDiv_iff {a : Int} (h : 0 ≤ a) {b : Nat} (hb : 0 < b) (m : Int) :
    m ≤ roundDiv a b ↔ m * (2 * b) ≤ 2 * a + b := by
  rw [roundDiv_of_nonneg h]
  exact Int.le_ediv_iff_mul_le (by omega)

theorem roundDiv_le_self {a : Int} (h : 0 ≤ a) {b : Nat} (hb : 0 < b) : roundDiv a b ≤ a := by
  have grows : a * 1 ≤ a * b := mul_le_mul_of_nonneg_left (by omega) h
  rw [roundDiv_of_nonneg h, Int.ediv_le_iff_le_mul (by omega)]
  linarith

/-! ### Pitches in tenths of a hertz -/

/-- Table 4-5, as the list of its rows. -/
theorem topOctave_eq_getD (k : Fin 12) :
    topOctave k = ([20930, 22175, 23493, 24890, 26370, 27938, 29600, 31360, 33224, 35200, 37293,
      39511] : List Int).getD k 0 := by
  revert k; decide

theorem topOctave_bounds (k : Nat) : 20930 ≤ topOctave k ∧ topOctave k ≤ 39511 := by
  unfold topOctave
  split <;> decide

/-- R76: note 108 has a frequency of its own; a lower note from 24 up is a note of the top octave, at most
six octaves down. -/
theorem pitchTenths_number_bounds {n : Nat} (low : 24 ≤ n) :
    200 ≤ pitchTenths (.number n) ∧ pitchTenths (.number n) ≤ 80000 := by
  simp only [pitchTenths]
  split
  · decide
  · obtain ⟨lower, upper⟩ := topOctave_bounds (n % 12)
    have positive : 0 < 2 ^ ((96 + n % 12 - n) / 12) := Nat.two_pow_pos _
    have sixOctaves : 2 ^ ((96 + n % 12 - n) / 12) ≤ 2 ^ 6 :=
      Nat.pow_le_pow_right (by decide) (by omega)
    have shrinks := roundDiv_le_self (a := topOctave (n % 12)) (by omega) positive
    rw [le_roundDiv_iff (by omega) positive]
    omega

theorem pitchTenths_hertz (f : Nat) : pitchTenths (.hertz f) = f * 10 := rfl

/-! ### The phase increment -/

/-- R76: the increment is the rounded quotient itself, which is negative for no audible pitch. -/
theorem pitchIncrement_eq {p : Pitch} (h : 0 ≤ pitchTenths p) :
    (pitchIncrement p : Int) = roundDiv (pitchTenths p * 16777216) 312500 :=
  Int.toNat_of_nonneg (roundDiv_nonneg (by omega) _)

/-- R76: from 20 Hz to 8000 Hz the increment is 10,737 to 4,294,967. -/
theorem pitchIncrement_bounds {p : Pitch} (low : 200 ≤ pitchTenths p)
    (high : pitchTenths p ≤ 80000) : 10737 ≤ pitchIncrement p ∧ pitchIncrement p ≤ 4294967 := by
  have eq := pitchIncrement_eq (p := p) (by omega)
  rw [roundDiv_of_nonneg (by omega)] at eq
  omega

/-! ### A new value for the continuous tone -/

/-- R76 and R79: at a voice that sounds the continuous tone, a value of its entry replaces the bound pitch
and the increment, and nothing else. -/
theorem valuePitch_of_tone {v : Fin 3} {n : Fin 16} {s : State}
    (tone : (s.voice v).sound = some .tone) (source : (s.voice v).pitchSource = .listen n)
    (running : s.isRunning = true) (value : Int) :
    valuePitch v n value s = s.setVoice v { s.voice v with
      boundPitch := some value.toNat, inc := pitchIncrement (.number value.toNat) } := by
  simp only [valuePitch, source, running, tone, and_self, if_true]

/-! ### The statement -/

/-- Settles O34: both kinds of pitch lie between 20 Hz and 8000 Hz, where the increment is the rounded
quotient and has its range; the table's rows are the model's top octave. -/
theorem pitchIncrements : Obligations.PitchIncrements := by
  intro n f v e s low _ slow fast table octave tenths x
  have rows : topOctave (n % 12) = table.getD (n % 12) 0 :=
    topOctave_eq_getD ⟨n % 12, Nat.mod_lt n (by decide)⟩
  have number : pitchTenths (.number n) = tenths := by
    simp only [pitchTenths, rows, tenths, octave]
  have hertz := pitchTenths_hertz f
  obtain ⟨numberLow, numberHigh⟩ := pitchTenths_number_bounds low
  obtain ⟨hertzMin, hertzMax⟩ := pitchIncrement_bounds (p := .hertz f) (by omega) (by omega)
  obtain ⟨numberMin, numberMax⟩ := pitchIncrement_bounds numberLow numberHigh
  refine ⟨?_, pitchIncrement_eq (by omega), hertzMin, hertzMax, numberMin, numberMax, ?_⟩
  · rw [← number]
    exact pitchIncrement_eq (by omega)
  · intro tone source running
    exact valuePitch_of_tone tone source (by rw [State.isRunning, running]; rfl) n

end Sys2Proof.Machine

/-! PROOF. The transform of a listen entry (R99): the rounding division on numbers of either sign, the clamp,
and the statement about the stages. -/

namespace Sys2Proof.Machine

/-! ### The rounding division on numbers of either sign -/

/-- Rounding is symmetric about 0, so that its facts need a proof for one sign only. -/
theorem roundDiv_neg (a : Int) {b : Nat} (hb : 0 < b) : roundDiv (-a) b = -roundDiv a b := by
  obtain neg | rfl | pos := lt_trichotomy a 0
  · rw [roundDiv_of_nonneg (neg_nonneg.mpr neg.le), roundDiv, if_neg (by omega), neg_neg]
  · have half : (b : Int) / (2 * b) = 0 := Int.ediv_eq_zero_of_lt (by omega) (by omega)
    simp [roundDiv, half]
  · rw [roundDiv_of_nonneg pos.le, roundDiv, if_neg (by omega), neg_neg]

/-- On numbers that are not negative the error reaches half a divisor only upwards. -/
theorem roundDiv_mul_bounds {a : Int} (h : 0 ≤ a) {b : Nat} (hb : 0 < b) :
    2 * a - b < 2 * (roundDiv a b * b) ∧ 2 * (roundDiv a b * b) ≤ 2 * a + b := by
  have upper := (le_roundDiv_iff h hb (roundDiv a b)).mp le_rfl
  have lower := (le_roundDiv_iff h hb (roundDiv a b + 1)).not.mp (by omega)
  constructor <;> linarith

theorem roundDiv_nearest (a : Int) {b : Nat} (hb : 0 < b) :
    2 * (roundDiv a b * b - a).natAbs ≤ b := by
  wlog h : 0 ≤ a generalizing a
  · have mirrored := this (-a) (by omega)
    rw [roundDiv_neg a hb, Int.neg_mul] at mirrored
    omega
  · have := roundDiv_mul_bounds h hb
    omega

theorem roundDiv_tie_away (a : Int) {b : Nat} (hb : 0 < b)
    (tie : 2 * (roundDiv a b * b - a).natAbs = b) : a.natAbs ≤ (roundDiv a b * b).natAbs := by
  wlog h : 0 ≤ a generalizing a
  · have mirrored := this (-a)
    rw [roundDiv_neg a hb, Int.neg_mul] at mirrored
    omega
  · have := roundDiv_mul_bounds h hb
    omega

/-- Rounding does not leave a range whose ends are integers. -/
theorem natAbs_roundDiv_le {a : Int} {b m : Nat} (hb : 0 < b) (h : a.natAbs ≤ m * b) :
    (roundDiv a b).natAbs ≤ m := by
  have near := roundDiv_nearest a hb
  have size : (roundDiv a b * b).natAbs = (roundDiv a b).natAbs * b := by
    rw [Int.natAbs_mul, Int.natAbs_natCast]
  have below : (roundDiv a b).natAbs * b < (m + 1) * b := by
    rw [Nat.succ_mul]
    omega
  exact Nat.le_of_lt_succ (Nat.lt_of_mul_lt_mul_right below)

/-- The product of two numbers of 16 bits. -/
theorem natAbs_mul_le_of_word {v w : Int} (vLow : -32768 ≤ v) (vHigh : v ≤ 32767)
    (wLow : -32768 ≤ w) (wHigh : w ≤ 32767) : (v * w).natAbs ≤ 1073741824 := by
  rw [Int.natAbs_mul]
  exact Nat.mul_le_mul (show v.natAbs ≤ 32768 by omega) (show w.natAbs ≤ 32768 by omega)

/-! ### The clamp -/

theorem clampI_of_lt {lo x : Int} (h : x < lo) (hi : Int) : clampI lo hi x = lo := if_pos h

theorem clampI_of_mem {lo hi x : Int} (low : lo ≤ x) (high : x ≤ hi) : clampI lo hi x = x := by
  rw [clampI, if_neg (by omega), if_neg (by omega)]

theorem clampI_of_gt {lo hi x : Int} (ordered : lo ≤ hi) (h : hi < x) : clampI lo hi x = hi := by
  rw [clampI, if_neg (by omega), if_pos h]

theorem clampI_eq_max_min {lo hi : Int} (ordered : lo ≤ hi) (x : Int) :
    clampI lo hi x = max lo (min hi x) := by
  obtain below | low := lt_or_ge x lo
  · rw [clampI_of_lt below]
    omega
  · obtain above | high := lt_or_ge hi x
    · rw [clampI_of_gt ordered above]
      omega
    · rw [clampI_of_mem low high]
      omega

theorem clampI_bounds {lo hi : Int} (ordered : lo ≤ hi) (x : Int) :
    lo ≤ clampI lo hi x ∧ clampI lo hi x ≤ hi := by
  rw [clampI_eq_max_min ordered]
  omega

/-! ### The statement -/

/-- R99: the stages of the transform, in their order. -/
theorem Entry.transform_eq (e : Entry) (d : Destination) (v : Int) :
    e.transform d v = d.clamp (clampI e.lower e.upper (e.offset + roundDiv (v * e.weight) 256)) :=
  rfl

/-- Settles O40: the rounding is to nearest with ties away from zero and keeps the range of the product, the
entry's clamp is a case split on the sum, and each row of Table 5-7 is a clamp between ordered ends. -/
theorem transformStages : Obligations.TransformStages := by
  intro e v p u g product scaled clamped
  have divisor : 0 < 256 := by decide
  refine ⟨roundDiv_nearest product divisor, roundDiv_tie_away product divisor, ?range, ?entry, ?table⟩
  case range =>
    intro vLow vHigh wLow wHigh
    have size : product.natAbs ≤ 4194304 * 256 := natAbs_mul_le_of_word vLow vHigh wLow wHigh
    exact ⟨size, natAbs_roundDiv_le divisor size⟩
  case entry =>
    intro ordered
    obtain ⟨low, high⟩ := clampI_bounds ordered (e.offset + scaled)
    exact ⟨low, high, clampI_of_mem, fun below => clampI_of_lt below _, clampI_of_gt ordered⟩
  case table =>
    have row {d : Destination} {lo hi : Int} (ordered : lo ≤ hi)
        (clamps : d.clamp clamped = clampI lo hi clamped) :
        e.transform d v = max lo (min hi clamped) := by
      rw [Entry.transform_eq, ← clampI_eq_max_min ordered]
      exact clamps
    refine ⟨row ?_ rfl, row ?_ rfl, row ?_ rfl, row ?_ rfl, row ?_ rfl, row ?_ rfl⟩ <;> decide

end Sys2Proof.Machine

section

/-! PROOF. What a step can do to each record, as a relation between the record before and after, and the
invariants that every such change keeps. -/

namespace Sys2Proof.Machine

/-! ### The changes of one record

Each relation says what the tier 3 statements need to know of a change; every operation of the model changes a
record in this way. -/

/-- A duty within the effective limit, and 0 in Coast and Brake (R12). -/
def Port.DutyOk (ceiling : Nat) (x : Port) : Prop :=
  (x.duty.natAbs : Int) ≤ effLimit ceiling x ∧ (x.mode.settled = true → x.duty = 0)

/-- A change of a port that says nothing of its source. -/
structure PortStep (ceiling : Nat) (x y : Port) : Prop where
  kind : y.kind = x.kind
  illegal : x.illegal.length ≤ 3 → y.illegal.length ≤ 3
  duty : x.DutyOk ceiling → y.DutyOk ceiling
  off : x.kind = .none → x.mode = .coast → y.mode = .coast

/-- The source of a port stays, but that a Pattern source may become Command. -/
def SourceStays (x y : Port) : Prop :=
  y.source = x.source ∨ (x.source = .pattern ∧ y.source = .command)

/-- The source of a port is taken from the listen table, and not given to it. -/
def SourceTaken (x y : Port) : Prop :=
  y.source = .command ∨ (y.source = .pattern ∧ x.kind ≠ .none)

/-- A change of a voice that leaves both its sources. -/
structure VoiceStep (running : Bool) (x y : Voice) : Prop where
  queue : x.queue.length ≤ 8 → y.queue.length ≤ 8
  pitch : y.pitchSource = x.pitchSource
  volume : y.volumeSource = x.volumeSource
  silent : running = false → x.silent → y.silent

/-- A change of a listen entry that leaves what it owns. -/
def EntryStep (e e' : Entry) : Prop := e.wellKept → e'.wellKept ∧ e'.owns = e.owns

/-- The capacity and the order of the transmit queue (R136). -/
def queueKept (q : List Frame) : Prop := q.length ≤ 8 ∧ queueOrdered q

/-- A change of the bus station that leaves its withdrawn causes. -/
structure BusStep (running : Bool) (b b' : Bus) : Prop where
  serial : b'.serial = b.serial
  withdrawn : b'.withdrawn = b.withdrawn
  queue : queueKept b.queue → queueKept b'.queue
  silent : b.withdrawn ≠ [] → b.queue = [] ∧ b.sending = none → b'.queue = [] ∧ b'.sending = none
  goes : running = false → (∀ f ∈ b.queue, f.kind ≠ .go) → ∀ f ∈ b'.queue, f.kind ≠ .go

/-- The capacities of the tablet link, and no watched pair twice (R167, R172, R175). -/
structure LinkKept (k : Link) : Prop where
  watch : k.watch.length ≤ 8
  distinct : watchDistinct k.watch
  lanes : ∀ l : Fin 4, k.lanes[l].inbound.length ≤ 6 ∧ k.lanes[l].outbound.length ≤ 6

/-- The capacity of the staging list, and no target twice in a group (R108). -/
def stagingKept (l : List Staged) : Prop := l.length ≤ 8 ∧ stagingDistinct l

/-- A change of the staging list. -/
structure StagingStep (running : Bool) (l l' : List Staged) : Prop where
  kept : stagingKept l → stagingKept l'
  quiet : running = false → l = [] → l' = []

/-- A change of the halt record that leaves the halt state, the first cause and the settled flags. -/
structure HaltStep (h h' : Halt) : Prop where
  state : h'.state = h.state
  first : h'.first = h.first
  settled : h'.settled = h.settled
  record : h.state = .running → h'.firstPort = h.firstPort ∧ h'.further = h.further

/-- A change of the clock unit that neither reaches nor leaves OnPLL. -/
structure ClockStep (c c' : Clock) : Prop where
  onPLL : c'.state = .onPLL ↔ c.state = .onPLL
  retry : (c.retry.isSome = true → c.state = .onRCStarting ∨ c.state = .switching) →
    c'.retry.isSome = true → c'.state = .onRCStarting ∨ c'.state = .switching

/-! ### Invariants -/

/-- `I` is kept by every change that an update of a signal, the answer of a command and a settled port bring
about. -/
structure KeptByUpdates (I : State → Prop) : Prop where
  free : ∀ {s} (hot sensors audio signals miss station record held), I s →
    I { s with hot := hot, sensors := sensors, audio := audio, signals := signals, stageMiss := miss,
               station := station, record := record, resetHeld := held }
  battery : ∀ {s} (b : Battery), b.ceiling = s.battery.ceiling → I s → I { s with battery := b }
  port : ∀ {s p y}, PortStep s.battery.ceiling (s.port p) y → y.source = (s.port p).source →
    y.mode = (s.port p).mode → I s → I (s.setPort p y)
  mode : ∀ {s p y}, PortStep s.battery.ceiling (s.port p) y → SourceStays (s.port p) y →
    (s.halt.state = .halted → y.mode.settled = true) → I s → I (putPort p y s)
  takePort : ∀ {s p y}, PortStep s.battery.ceiling (s.port p) y → SourceTaken (s.port p) y →
    (s.halt.state = .halted → y.mode.settled = true) → I s →
    I (putPort p y (suspendSource (s.port p).source s))
  voice : ∀ {s v x}, VoiceStep s.isRunning (s.voice v) x → I s → I (s.setVoice v x)
  takePitch : ∀ {s v x}, VoiceStep s.isRunning (s.voice v) { x with pitchSource := (s.voice v).pitchSource } →
    x.pitchSource = .own → I s → I (suspendVoiceSource (s.voice v).pitchSource (s.setVoice v x))
  takeVolume : ∀ {s v x}, VoiceStep s.isRunning (s.voice v) { x with volumeSource := (s.voice v).volumeSource } →
    x.volumeSource = .own → I s → I (suspendVoiceSource (s.voice v).volumeSource (s.setVoice v x))
  entry : ∀ {s n e}, EntryStep (s.entry n) e → I s → I (s.setEntry n e)
  staging : ∀ {s l}, StagingStep s.isRunning s.staging l → I s → I (s.setStaging l)
  halt : ∀ {s h}, HaltStep s.halt h → I s → I (s.setHalt h)
  halted : ∀ {s}, s.halt.state = .halting → (fourPorts.all fun p => s.halt.settled[p]) = true → I s →
    I (s.setHalt { s.halt with state := .halted, safeTimer := none })
  bus : ∀ {s b}, BusStep s.isRunning s.bus b → I s → I (s.setBus b)
  link : ∀ {s k}, (LinkKept s.link → LinkKept k) → I s → I (s.setLink k)
  clock : ∀ {s c}, ClockStep s.clock c → I s → I (s.setClock c)

/-- `I` is also kept by what a halt entry does before it writes signal 15. -/
structure KeptByCauses (I : State → Prop) : Prop extends KeptByUpdates I where
  haltStart : ∀ {s} (c at_), s.isRunning = true → I s →
    I (removeGoFrames ((silenceAll (fourPorts.foldl (haltPort c at_)
      (haltBreak c (recordFirst c at_ s)))).setStaging []))

/-- `I` is also kept by the changes of several records at once: a destination bound and released, a ceiling
lowered, a Resume, a withdrawal, the changes of the clock unit, and the image of a reset. -/
structure KeptByRows (I : State → Prop) : Prop extends KeptByCauses I where
  bind : ∀ {s n r}, (s.entry n).route = some r → enableRefusal n (s.entry n) r.dest s = none →
    (s.entry n).acting = false → I s → I (bindDestination n r.dest (s.setEntry n (s.entry n).enabled))
  release : ∀ {s n e}, e = { s.entry n with state := .disabled, age := none } ∧ (s.entry n).state ≠ .free
      ∨ e = Entry.fresh → I s → I (releaseEntry n (s.entry n) (s.setEntry n e))
  ceiling : ∀ {s} (b : Battery), I s → I (reclampPorts s.battery.ceiling { s with battery := b })
  resume : ∀ {s}, s.halt.state = .halted → I s → I (sixteen.foldl suspendMotorEntry (fourPorts.foldl
    (fun s p => putPort p (s.port p).resume s) (s.setHalt { s.halt with
      state := .running, first := none, firstPort := none, further := [], safeTimer := none })))
  withdraw : ∀ {s} (c), c ≠ .clock → I s → I (withdraw c s)
  clockFailed : ∀ {s}, s.clock.state = .onPLL → I s → I (clockFailed s)
  startFailed : ∀ {s}, s.clock.state = .onRCStarting ∨ s.clock.state = .switching → I s → I (startFailed s)
  switched : ∀ {s}, s.clock.state = .switching → I s → I (finishRetry (writePll true (audioClockReady
    (clearClockCause (s.setClock { s.clock with state := .onPLL, edgeMonitor := some 1 })))))
  image : ∀ {s} (kind straps b), I s → I { readImage kind straps s with battery := b }

end Sys2Proof.Machine
end

section

/-! PROOF. Every operation that an update of a signal can bring about keeps what `KeptByUpdates` keeps. -/

namespace Sys2Proof.Machine

/-! ### The relations are reflexive and transitive -/

theorem BusStep.refl (r : Bool) (b : Bus) : BusStep r b b := ⟨rfl, rfl, id, fun _ => id, fun _ => id⟩

theorem VoiceStep.refl (r : Bool) (x : Voice) : VoiceStep r x x := ⟨id, rfl, rfl, fun _ => id⟩

/-- A change of the bus record beside its serial, causes, queue and frame in transmission. -/
theorem BusStep.of_eq {r : Bool} {b b' : Bus} (serial : b'.serial = b.serial)
    (causes : b'.withdrawn = b.withdrawn) (queue : b'.queue = b.queue) (sending : b'.sending = b.sending) :
    BusStep r b b' :=
  ⟨serial, causes, by rw [queue]; exact id, by rw [queue, sending]; exact fun _ => id,
    by rw [queue]; exact fun _ => id⟩

/-! ### The order of the transmit queue (R136) -/

/-- R136: `f` may stand before `g` in the queue. -/
def Frame.ahead (f g : Frame) : Prop := g.before f = false ∧ f.sameIdentity g = false

theorem queueOrdered_iff_pairwise (q : List Frame) : queueOrdered q ↔ q.Pairwise Frame.ahead := by
  induction q with
  | nil => simp [queueOrdered]
  | cons f q ih => simp [queueOrdered, ih, Frame.ahead]

theorem queueKept_of_sublist {q q' : List Frame} (h : q'.Sublist q) (kept : queueKept q) : queueKept q' := by
  obtain ⟨length, ordered⟩ := kept
  rw [queueOrdered_iff_pairwise] at ordered
  exact ⟨h.length_le.trans length, (queueOrdered_iff_pairwise q').mpr (ordered.sublist h)⟩

theorem Frame.sameIdentity_comm (f g : Frame) : f.sameIdentity g = g.sameIdentity f := by
  unfold Frame.sameIdentity
  cases f.kind <;> cases g.kind <;> simp [Bool.beq_comm]

/-- R136: the identity of a Signal or Event frame is its signal. -/
theorem Frame.sameIdentity_signal {f : Frame} (h : f.kind = .signal ∨ f.kind = .event) (g : Frame) :
    f.sameIdentity g = ((g.kind == .signal || g.kind == .event) && g.route == f.route) := by
  unfold Frame.sameIdentity
  rw [Bool.beq_comm (a := g.route)]
  obtain h | h := h <;> rw [h] <;> cases g.kind <;> rfl

theorem Frame.before_iff {f g : Frame} : f.before g = true ↔
    f.kind.code < g.kind.code ∨ (f.kind.code = g.kind.code ∧ f.stamp < g.stamp) := by
  simp [Frame.before]

theorem Frame.before_asymm {f g : Frame} (h : f.before g = true) : g.before f = false := by
  rw [← Bool.not_eq_true, Frame.before_iff]
  rw [Frame.before_iff] at h
  omega

/-- What stands behind a frame stands behind all that is before it. -/
theorem Frame.not_before_trans {f g h : Frame} (fg : f.before g = true) (hg : h.before g = false) :
    h.before f = false := by
  rw [← Bool.not_eq_true, Frame.before_iff] at *
  omega

theorem mem_insertFrame {f h : Frame} {q : List Frame} : h ∈ insertFrame f q ↔ h = f ∨ h ∈ q := by
  induction q with
  | nil => simp [insertFrame]
  | cons g q ih =>
    unfold insertFrame
    split
    · simp
    · simp [ih, or_left_comm]

theorem insertFrame_perm (f : Frame) (q : List Frame) : (insertFrame f q).Perm (f :: q) := by
  induction q with
  | nil => exact .refl _
  | cons g q ih =>
    unfold insertFrame
    split
    · exact .refl _
    · exact (ih.cons g).trans (.swap f g q)

theorem insertFrame_length (f : Frame) (q : List Frame) : (insertFrame f q).length = q.length + 1 :=
  (insertFrame_perm f q).length_eq

/-- R136: a frame of a new identity joins an ordered queue at its place. -/
theorem queueOrdered_insertFrame {f : Frame} {q : List Frame} (ordered : queueOrdered q)
    (fresh : ∀ g ∈ q, f.sameIdentity g = false) : queueOrdered (insertFrame f q) := by
  induction q with
  | nil => exact ⟨by simp, trivial⟩
  | cons g q ih =>
    obtain ⟨head, tail⟩ := ordered
    unfold insertFrame
    split
    next before =>
      refine ⟨fun h mem => ⟨?_, fresh h mem⟩, head, tail⟩
      obtain rfl | mem := List.mem_cons.mp mem
      · exact Frame.before_asymm before
      · exact Frame.not_before_trans before (head h mem).1
    next behind =>
      refine ⟨fun h mem => ?_, ih tail fun h mem => fresh h (List.mem_cons_of_mem g mem)⟩
      obtain rfl | mem := mem_insertFrame.mp mem
      · exact ⟨by simpa using behind, by rw [Frame.sameIdentity_comm]; exact fresh g List.mem_cons_self⟩
      · exact head h mem

/-- R88: the refreshed frames keep their order and their identities. -/
theorem refreshFrames_eq_map (i : Fin 16) (payload : List Byte) (q : List Frame) :
    ∃ f : Frame → Frame, refreshFrames i payload q = q.map f
      ∧ ∀ g, (f g).kind = g.kind ∧ (f g).stamp = g.stamp ∧ (f g).route = g.route
        ∧ (g.kind = .go → f g = g) := by
  refine ⟨_, rfl, fun g => ?_⟩
  split
  · exact ⟨rfl, rfl, rfl, fun go => by simp_all⟩
  · exact ⟨rfl, rfl, rfl, fun _ => rfl⟩

theorem queueOrdered_refreshFrames {i : Fin 16} {payload : List Byte} {q : List Frame}
    (ordered : queueOrdered q) : queueOrdered (refreshFrames i payload q) := by
  obtain ⟨f, map, same⟩ := refreshFrames_eq_map i payload q
  rw [map, queueOrdered_iff_pairwise, List.pairwise_map]
  rw [queueOrdered_iff_pairwise] at ordered
  refine ordered.imp fun {a b} ahead => ?_
  obtain ⟨ak, as, ar, ag⟩ := same a
  obtain ⟨bk, bs, br, bg⟩ := same b
  obtain ⟨order, identity⟩ := ahead
  refine ⟨by simpa [Frame.before, ak, bk, as, bs] using order, ?_⟩
  have goes : (f a).payload = a.payload ∨ a.kind ≠ .go := by
    by_cases h : a.kind = .go
    · exact .inl (by rw [ag h])
    · exact .inr h
  have goes' : (f b).payload = b.payload ∨ b.kind ≠ .go := by
    by_cases h : b.kind = .go
    · exact .inl (by rw [bg h])
    · exact .inr h
  unfold Frame.sameIdentity at *
  rw [ak, bk, ar, br]
  cases ha : a.kind <;> cases hb : b.kind <;> simp_all

/-! ### The tablet link (R172, R174) -/

@[simp] theorem releaseSlots_length (q : List OutSlot) : (releaseSlots q).length = q.length := by
  simp [releaseSlots]

theorem dropTelemetry_length {q : List OutSlot} (h : q.any (fun x => x.msg.isTelemetry) = true) :
    (dropTelemetry q).length + 1 = q.length := by
  induction q with
  | nil => simp at h
  | cons x q ih =>
    unfold dropTelemetry
    split
    · rfl
    next other =>
      rw [List.any_cons, Bool.or_eq_true] at h
      have := ih (h.resolve_left other)
      simp only [List.length_cons]
      omega

theorem Lane.join_length (l : Lane) (m : OutMsg) : (l.join m).outbound.length = l.outbound.length + 1 := by
  unfold Lane.join
  dsimp only
  split <;> simp

@[simp] theorem Lane.join_inbound (l : Lane) (m : OutMsg) : (l.join m).inbound = l.inbound := rfl

/-- R172: a lane that takes a message holds 6 at most, and its inbound FIFO stays. -/
theorem Lane.take_kept (l : Lane) (m : OutMsg) :
    (l.take m).inbound = l.inbound ∧ (l.outbound.length ≤ 6 → (l.take m).outbound.length ≤ 6) := by
  unfold Lane.take
  split
  · exact ⟨rfl, fun h => by simpa [mergeSlots] using h⟩
  · split
    next room => exact ⟨rfl, fun _ => by rw [Lane.join_length]; omega⟩
    · split
      next evicts =>
        refine ⟨rfl, fun h => ?_⟩
        have := dropTelemetry_length (Bool.and_eq_true_iff.mp evicts).2
        have := Lane.join_length { l with outbound := dropTelemetry l.outbound } m
        dsimp only at *
        omega
      · exact ⟨rfl, id⟩

theorem LinkKept.of_eq {k k' : Link} (watch : k'.watch = k.watch) (lanes : k'.lanes = k.lanes)
    (h : LinkKept k) : LinkKept k' :=
  ⟨watch ▸ h.watch, watch ▸ h.distinct, lanes ▸ h.lanes⟩

/-- A lane replaced by one within its capacities. -/
theorem LinkKept.set_lane {k : Link} {l : Fin 4} {x : Lane}
    (inbound : k.lanes[l].inbound.length ≤ 6 → x.inbound.length ≤ 6)
    (outbound : k.lanes[l].outbound.length ≤ 6 → x.outbound.length ≤ 6) (h : LinkKept k) :
    LinkKept { k with lanes := k.lanes.set l x } := by
  refine ⟨h.watch, h.distinct, fun j => ?_⟩
  have here := h.lanes l
  by_cases e : l = j
  · subst e
    simpa using ⟨inbound here.1, outbound here.2⟩
  · have ne : l.val ≠ j.val := fun hv => e (Fin.ext hv)
    simpa [ne] using h.lanes j

/-! ### What keeps an invariant: the link and the transmit queue -/

section

variable {I : State → Prop} (k : KeptByUpdates I) {s : State}
include k

theorem KeptByUpdates.signals (x : Vector Signal 16) (h : I s) : I { s with signals := x } :=
  k.free s.hot s.sensors s.audio x s.stageMiss s.station s.record s.resetHeld h

theorem KeptByUpdates.setSignal (i : Fin 16) (x : Signal) (h : I s) : I (s.setSignal i x) := k.signals _ h

theorem KeptByUpdates.setSensor (p : Fin 4) (x : Sensor) (h : I s) : I (s.setSensor p x) :=
  k.free s.hot (s.sensors.set p x) s.audio s.signals s.stageMiss s.station s.record s.resetHeld h

theorem KeptByUpdates.setAudio (x : Audio) (h : I s) : I (s.setAudio x) :=
  k.free s.hot s.sensors x s.signals s.stageMiss s.station s.record s.resetHeld h

theorem KeptByUpdates.stageMiss (b : Bool) (h : I s) : I { s with stageMiss := b } :=
  k.free s.hot s.sensors s.audio s.signals b s.station s.record s.resetHeld h

theorem KeptByUpdates.setStation (x : Station) (h : I s) : I (s.setStation x) :=
  k.free s.hot s.sensors s.audio s.signals s.stageMiss x s.record s.resetHeld h

theorem KeptByUpdates.setLane {l : Fin 4} {x : Lane}
    (inbound : (s.lane l).inbound.length ≤ 6 → x.inbound.length ≤ 6)
    (outbound : (s.lane l).outbound.length ≤ 6 → x.outbound.length ≤ 6) (h : I s) : I (s.setLane l x) :=
  k.link (LinkKept.set_lane inbound outbound) h

theorem KeptByUpdates.tell (l : Fin 4) (m : OutMsg) (h : I s) : I (tell l m s) := by
  obtain ⟨inbound, outbound⟩ := Lane.take_kept (s.lane l) m
  unfold Machine.tell
  split
  · exact k.setLane (by rw [inbound]; exact id) outbound h
  · exact h

theorem KeptByUpdates.notify (a b c : Nat) (h : I s) : I (notify a b c s) := k.tell _ _ h

theorem KeptByUpdates.tabletReply (st tk : Nat) (r : Result) (d : List Byte) (h : I s) :
    I (tabletReply st tk r d s) := k.tell _ _ h

theorem KeptByUpdates.statusAsk (h : I s) : I (statusAsk s) := by
  unfold Machine.statusAsk
  split
  · exact h
  · exact k.tell _ _ h

/-- A change of the link that leaves the lanes and the watch list. -/
theorem KeptByUpdates.setLink {x : Link} (watch : x.watch = s.link.watch) (lanes : x.lanes = s.link.lanes)
    (h : I s) : I (s.setLink x) := k.link (.of_eq watch lanes) h

theorem KeptByUpdates.reportOrigin (o : Option Origin) (r : Option Result) (h : I s) :
    I (reportOrigin o r s) := by
  unfold Machine.reportOrigin
  cases o with
  | none => exact h
  | some o =>
    have lowered := k.setLink (x := { s.link with forwarded := s.link.forwarded - 1 }) rfl rfl h
    cases r with
    | none => exact lowered
    | some r => exact k.tabletReply _ _ _ _ lowered

theorem KeptByUpdates.frameLost (f : Frame) (h : I s) : I (frameLost f s) := by
  unfold Machine.frameLost
  split
  · exact k.reportOrigin _ _ h
  · exact k.bus (.of_eq rfl rfl rfl rfl) h
  · exact h

theorem KeptByUpdates.frameDropped (r : Result) (f : Frame) (h : I s) : I (frameDropped r f s) := by
  unfold Machine.frameDropped
  split
  · exact k.reportOrigin _ _ h
  · exact h

/-- R137: a frame of a new identity joins the queue of a station that is not Withdrawn. -/
theorem KeptByUpdates.joinQueue {f : Frame} (fresh : ∀ g ∈ s.bus.queue, f.sameIdentity g = false)
    (go : s.isRunning = false → f.kind ≠ .go) (awake : s.isWithdrawn = false) (h : I s) :
    I (joinQueue f s).1 := by
  have joined {q : List Frame} (sub : q.Sublist s.bus.queue) (room : q.length < 8) :
      BusStep s.isRunning s.bus { s.bus with queue := insertFrame f q } := by
    refine ⟨rfl, rfl, fun kept => ⟨?_, ?_⟩, fun w => ?_, fun r goes g mem => ?_⟩
    · dsimp only
      rw [insertFrame_length]
      exact room
    · exact queueOrdered_insertFrame (queueKept_of_sublist sub kept).2 fun g mem => fresh g (sub.subset mem)
    · simp_all [State.isWithdrawn]
    · obtain rfl | mem := mem_insertFrame.mp mem
      · exact go r
      · exact goes g (sub.subset mem)
  unfold Machine.joinQueue
  split
  next room => exact k.bus (joined (.refl _) room) h
  next full =>
    split
    · exact h
    next g last =>
      split
      · refine k.frameLost _ (k.bus ⟨rfl, rfl, fun kept => ?_, ?_, ?_⟩ h)
        · have room : s.bus.queue.dropLast.length < 8 := by
            have := kept.1
            rw [List.length_dropLast]
            omega
          exact (joined (List.dropLast_sublist _) room).queue kept
        · intro w
          simp_all [State.isWithdrawn]
        · intro r goes g' mem
          obtain rfl | mem := mem_insertFrame.mp mem
          · exact go r
          · exact goes g' ((List.dropLast_sublist _).subset mem)
      · exact h

theorem KeptByUpdates.addFrame {kind : FrameKind} {route : Nat} {payload : List Byte} {o : Option Origin}
    (fresh : ∀ g ∈ s.bus.queue, (newFrame kind route payload o s).sameIdentity g = false)
    (go : s.isRunning = false → kind ≠ .go) (awake : s.isWithdrawn = false) (h : I s) :
    I (addFrame kind route payload o s).1 :=
  k.joinQueue (s := passStamp s) fresh go awake (k.bus (.of_eq rfl rfl rfl rfl) h)

theorem KeptByUpdates.publishRequest (i : Fin 16) (h : I s) : I (publishRequest i s) := by
  unfold Machine.publishRequest
  dsimp only
  split
  · exact h
  next awake =>
    split
    · refine k.bus ⟨rfl, rfl, fun kept => ⟨?_, queueOrdered_refreshFrames kept.2⟩, fun _ quiet => ?_, ?_⟩ h
      · simpa [refreshFrames] using kept.1
      · simpa [refreshFrames] using quiet
      · intro _ goes f mem
        obtain ⟨g, map, same⟩ := refreshFrames_eq_map i (charsOf 2 (s.signal i).value) s.bus.queue
        obtain ⟨f', mem', rfl⟩ := List.mem_map.mp (map ▸ mem)
        rw [(same f').1]
        exact goes f' mem'
    next unqueued =>
      refine k.addFrame (fun g mem => ?_) (fun _ => by unfold signalKind; split <;> simp) (by simpa using awake) h
      simp only [State.signalQueued, Bool.not_eq_true, List.any_eq_false] at unqueued
      have other := unqueued g mem
      rw [Frame.sameIdentity_signal (by simp only [newFrame, signalKind]; split <;> simp)]
      simpa [newFrame] using other

theorem KeptByUpdates.goRequest (g : Nat) (running : s.isRunning = true) (h : I s) : I (goRequest g s).1 := by
  unfold Machine.goRequest
  split
  · exact h
  next awake =>
    split
    · exact h
    next none_ =>
      refine k.addFrame (fun f mem => ?_) (fun r => absurd running (by simp [r])) (by simpa using awake) h
      simp only [Bool.not_eq_true, List.any_eq_false] at none_
      have other : f.kind = .go → [BitVec.ofNat 8 g] ≠ f.payload := fun same e => by
        simpa [same, e] using none_ f mem
      unfold Frame.sameIdentity newFrame
      cases hk : f.kind <;> simp [hk] at other ⊢
      exact other

theorem KeptByUpdates.replyRequest (d : Nat) (p : List Byte) (h : I s) : I (replyRequest d p s) := by
  unfold Machine.replyRequest
  split
  · exact h
  next awake =>
    refine k.addFrame (fun f mem => ?_) (fun _ => by simp) (by simpa using awake) h
    simp [Frame.sameIdentity, newFrame]

theorem KeptByUpdates.announceRequest (h : I s) : I (announceRequest s) := by
  unfold Machine.announceRequest
  split
  · exact h
  next awake =>
    split
    · exact h
    next none_ =>
      simp only [Bool.not_eq_true, List.any_eq_false] at none_
      have added := k.addFrame (kind := .announce) (route := 0) (o := none) (payload := charsOf 4 s.bus.serial.toNat
          ++ charsOf 1 (resetCauseCode s.station.resetCause s.station.recordInvalid))
        (fun f mem => by
          have other := none_ f mem
          unfold Frame.sameIdentity newFrame
          cases hk : f.kind <;> simp_all) (fun _ => by simp) (by simpa using awake) h
      dsimp only
      split
      · exact added
      · exact k.bus (.of_eq rfl rfl rfl rfl) added

theorem KeptByUpdates.commandRequest (o : Origin) (b c : Nat) (a : List Byte) (h : I s) :
    I (commandRequest o b c a s) := by
  unfold Machine.commandRequest
  dsimp only
  split
  · exact k.tabletReply _ _ _ _ h
  next awake =>
    have added := k.addFrame (kind := .command) (route := o.dest) (o := some o)
      (payload := BitVec.ofNat 8 b :: BitVec.ofNat 8 c :: BitVec.ofNat 8 o.token :: a)
      (fun f mem => by simp [Frame.sameIdentity, newFrame]) (fun _ => by simp) (by simpa using awake) h
    split
    · exact k.setLink rfl rfl added
    · exact k.tabletReply _ _ _ _ added

theorem KeptByUpdates.busReply (d tk : Nat) (a : Answer) (h : I s) : I (busReply d tk a s) := by
  unfold Machine.busReply
  generalize replyParts a.data = parts
  induction parts generalizing s with
  | nil => exact h
  | cons part parts ih => exact ih (k.replyRequest _ _ h)

/-- R140: a frame in transmission that is dropped. -/
theorem KeptByUpdates.dropSending (h : I s) : I (dropSending s) := by
  unfold Machine.dropSending
  split
  · exact h
  · exact k.frameDropped _ _ (k.bus ⟨rfl, rfl, id, fun _ quiet => ⟨quiet.1, rfl⟩, fun _ => id⟩ h)

theorem KeptByUpdates.abandonFrame (h : I s) : I (abandonFrame s) := by
  unfold Machine.abandonFrame
  split
  · exact h
  next f sending =>
    split
    · exact k.dropSending h
    next awake =>
      have stopped : I (s.setBus { s.bus with sending := none }) :=
        k.bus ⟨rfl, rfl, id, fun _ quiet => ⟨quiet.1, rfl⟩, fun _ => id⟩ h
      dsimp only
      split
      · exact stopped
      next go =>
        split
        · exact stopped
        next fresh =>
          split
          · exact k.frameDropped _ _ stopped
          · have joined := k.joinQueue (f := f) (s := s.setBus { s.bus with sending := none })
              (by simpa using fresh) (fun r => by simp_all) (by simpa [State.isWithdrawn] using awake) stopped
            split
            · exact joined
            · exact k.frameLost _ joined

theorem KeptByUpdates.startBreak (h : I s) : I (startBreak s) := by
  unfold Machine.startBreak
  split
  · exact h
  · exact k.bus (.of_eq rfl rfl rfl rfl) (k.abandonFrame h)

theorem KeptByUpdates.removeGoFrames (h : I s) : I (removeGoFrames s) := by
  refine k.bus ⟨rfl, rfl, queueKept_of_sublist List.filter_sublist, fun _ quiet => ?_, fun _ goes f mem => ?_⟩ h
  · simpa [quiet.1] using quiet.2
  · exact goes f (List.mem_of_mem_filter mem)

end

end Sys2Proof.Machine
end

section

/-! PROOF. What keeps an invariant: the voices, the ports, updates of signals and the answers of commands. -/

namespace Sys2Proof.Machine

/-! ### Steps of a voice -/

/-- A change of a voice that sounds, or of one that keeps its queue, its sound and its state. -/
theorem VoiceStep.of_eq {r : Bool} {x y : Voice} (queue : y.queue = x.queue) (pitch : y.pitchSource = x.pitchSource)
    (volume : y.volumeSource = x.volumeSource) (silent : x.silent → y.silent) : VoiceStep r x y :=
  ⟨by rw [queue]; exact id, pitch, volume, fun _ => silent⟩

theorem VoiceStep.of_running {x y : Voice} (queue : x.queue.length ≤ 8 → y.queue.length ≤ 8)
    (pitch : y.pitchSource = x.pitchSource) (volume : y.volumeSource = x.volumeSource) : VoiceStep true x y :=
  ⟨queue, pitch, volume, fun h => absurd h (by simp)⟩

/-- A silent voice is Idle. -/
theorem Voice.not_silent {x : Voice} (h : x.state ≠ .idle) : ¬x.silent := fun silent => h silent.1

theorem Voice.start_keeps (x : Voice) (snd : Sound) : (x.start snd).pitchSource = x.pitchSource
    ∧ (x.start snd).volumeSource = x.volumeSource
    ∧ (x.start snd).queue = match snd with | .tone => x.queue | .note _ => x.queue.tail := by
  unfold Voice.start
  cases snd with
  | tone => dsimp only; split <;> exact ⟨rfl, rfl, rfl⟩
  | note n => dsimp only; split <;> [exact ⟨rfl, rfl, rfl⟩; split <;> exact ⟨rfl, rfl, rfl⟩]

theorem Voice.start_step (x : Voice) (snd : Sound) : VoiceStep true x (x.start snd) := by
  obtain ⟨pitch, volume, queue⟩ := x.start_keeps snd
  refine .of_running ?_ pitch volume
  rw [queue]
  cases snd with
  | tone => exact id
  | note n => exact fun h => by rw [List.length_tail]; omega

/-- R81: a station that is Halting or Halted gives a voice no sound. -/
theorem running_of_nextSound {r : Bool} {x : Voice} {snd : Sound} (h : nextSound r x = some snd) : r = true := by
  cases r
  · simp [nextSound] at h
  · rfl

/-- Both branches keep the invariant. -/
theorem ite_keeps {I : State → Prop} {c : Prop} [Decidable c] {s t : State} (hs : c → I s) (ht : ¬c → I t) :
    I (if c then s else t) := by
  split
  · exact hs ‹_›
  · exact ht ‹_›

/-- A fold of operations that each keep the invariant. -/
theorem foldl_keeps {I : State → Prop} {α : Type} {f : State → α → State} (each : ∀ {s} x, I s → I (f s x))
    (l : List α) {s : State} (h : I s) : I (l.foldl f s) := by
  induction l generalizing s with
  | nil => exact h
  | cons x l ih => exact ih (each x h)

section

variable {I : State → Prop} (k : KeptByUpdates I) {s : State}
include k

theorem KeptByUpdates.startStopTimer (h : I s) : I (startStopTimer s) := by
  unfold Machine.startStopTimer
  split
  · exact k.setAudio _ h
  · exact h

theorem KeptByUpdates.becomeIdle (v : Fin 3) (h : I s) : I (becomeIdle v s) := by
  have idle : I (s.setVoice v { (s.voice v).quiet with state := .idle }) :=
    k.voice (.of_eq rfl rfl rfl fun silent => ⟨rfl, silent.2.1, rfl⟩) h
  unfold Machine.becomeIdle
  dsimp only
  split
  · exact idle
  · exact k.startStopTimer (k.tell _ _ idle)

theorem KeptByUpdates.startSound (v : Fin 3) (snd : Sound) (running : s.isRunning = true) (h : I s) :
    I (startSound v snd s) := by
  have started : I (s.setVoice v ((s.voice v).start snd)) := k.voice (running ▸ Voice.start_step _ _) h
  unfold Machine.startSound
  dsimp only
  split
  · split
    · exact k.tell _ _ started
    · exact started
  · exact started

theorem KeptByUpdates.leaveWaiting (v : Fin 3) (h : I s) : I (leaveWaiting v s) := by
  unfold Machine.leaveWaiting
  split
  next snd next => exact k.startSound _ _ (running_of_nextSound next) h
  · exact k.becomeIdle _ h

theorem KeptByUpdates.requestClock (v : Fin 3) (h : I s) : I (requestClock v s) := by
  unfold Machine.requestClock
  split
  · split
    · exact k.setAudio _ h
    · exact h
  · exact h
  · exact k.leaveWaiting _ (k.setAudio _ h)

theorem KeptByUpdates.enterWaiting (v : Fin 3) (running : s.isRunning = true) (h : I s) :
    I (enterWaiting v s) :=
  k.requestClock _ (k.voice (running ▸ VoiceStep.of_running id rfl rfl) h)

theorem KeptByUpdates.chooseSound (v : Fin 3) (h : I s) : I (chooseSound v s) := by
  unfold Machine.chooseSound
  split
  · exact k.becomeIdle _ h
  next snd next =>
    split
    · exact k.enterWaiting _ (running_of_nextSound next) h
    · exact k.startSound _ _ (running_of_nextSound next) h

theorem KeptByUpdates.quiet (v : Fin 3) (h : I s) : I (s.setVoice v (s.voice v).quiet) :=
  k.voice (.of_eq rfl rfl rfl fun silent => ⟨silent.1, silent.2.1, rfl⟩) h

theorem KeptByUpdates.endSound (v : Fin 3) (h : I s) : I (endSound v s) := k.chooseSound _ (k.quiet _ h)

theorem KeptByUpdates.enterRelease {v : Fin 3} (level : Nat) (sounding : (s.voice v).state ≠ .idle) (h : I s) :
    I (enterRelease v level s) := by
  unfold Machine.enterRelease
  dsimp only
  split
  · exact k.endSound _ h
  · exact k.voice (.of_eq rfl rfl rfl fun silent => absurd silent (Voice.not_silent sounding)) h

theorem KeptByUpdates.cutNote (v : Fin 3) (h : I s) : I (cutNote v s) := by
  unfold Machine.cutNote
  dsimp only
  split
  · split
    next sounds =>
      split
      · exact k.endSound _ h
      · exact k.enterRelease _ (by obtain e | e := sounds <;> simp [e]) h
    · exact h
  · exact h

theorem KeptByUpdates.cutTone (v : Fin 3) (h : I s) : I (cutTone v s) := by
  unfold Machine.cutTone
  dsimp only
  split
  next sounds => exact k.enterRelease _ (by obtain ⟨-, e | e⟩ := sounds <;> simp [e]) h
  · exact h

theorem KeptByUpdates.bindingEnded (v : Fin 3) (h : I s) : I (bindingEnded v s) := by
  unfold Machine.bindingEnded
  split
  · split
    · exact h
    · exact k.chooseSound _ h
  · exact k.cutTone _ h

theorem KeptByUpdates.valuePitch (v : Fin 3) (n : Fin 16) (x : Int) (h : I s) : I (valuePitch v n x s) := by
  have written : ∀ i, I (s.setVoice v { s.voice v with boundPitch := some x.toNat, inc := i }) := fun i =>
    k.voice (.of_eq rfl rfl rfl fun silent => silent) h
  unfold Machine.valuePitch
  dsimp only
  split
  · split
    · exact written _
    · split
      · exact k.chooseSound _ (written (s.voice v).inc)
      · exact written (s.voice v).inc
  · exact h

theorem KeptByUpdates.valueVolume (v : Fin 3) (n : Fin 16) (x : Int) (h : I s) : I (valueVolume v n x s) := by
  unfold Machine.valueVolume
  split
  · exact k.voice (.of_eq rfl rfl rfl fun silent => silent) h
  · exact h

theorem KeptByUpdates.resumeVoice (v : Fin 3) (h : I s) : I (resumeVoice v s) := by
  unfold Machine.resumeVoice
  dsimp only
  split
  · split
    · exact k.chooseSound _ h
    · exact h
  · exact h

theorem KeptByUpdates.clockLossVoice (v : Fin 3) (h : I s) : I (clockLossVoice v s) := by
  unfold Machine.clockLossVoice
  dsimp only
  split
  · exact h
  · exact h
  all_goals
    split
    next next =>
      obtain ⟨snd, next⟩ := Option.isSome_iff_exists.mp next
      exact k.enterWaiting _ (running_of_nextSound next) (k.quiet _ h)
    · exact k.becomeIdle _ (k.quiet _ h)

theorem KeptByUpdates.audioClockLost (h : I s) : I (audioClockLost s) := by
  unfold Machine.audioClockLost
  split
  · exact h
  · exact foldl_keeps (fun v => k.clockLossVoice v) _ (k.setAudio _ h)

theorem KeptByUpdates.audioClockReady (h : I s) : I (audioClockReady s) := by
  unfold Machine.audioClockReady
  split
  · exact k.setAudio _ h
  · exact h

end

/-! ### Steps of a port -/

theorem PortStep.refl (c : Nat) (x : Port) : PortStep c x x := ⟨rfl, id, id, fun _ => id⟩

theorem PortStep.trans {c : Nat} {x y z : Port} (h : PortStep c x y) (g : PortStep c y z) : PortStep c x z :=
  ⟨g.kind.trans h.kind, fun i => g.illegal (h.illegal i), fun d => g.duty (h.duty d),
    fun none coast => g.off (h.kind.trans none) (h.off none coast)⟩

/-- A change of a port beside its kind, mode, record of illegal transitions, duty and duty limit. -/
theorem PortStep.of_eq {c : Nat} {x y : Port} (kind : y.kind = x.kind) (mode : y.mode = x.mode)
    (illegal : y.illegal = x.illegal) (duty : y.duty = x.duty) (limit : y.dutyLimit = x.dutyLimit) :
    PortStep c x y :=
  ⟨kind, by rw [illegal]; exact id, by unfold Port.DutyOk effLimit; rw [mode, duty, limit]; exact id,
    fun _ coast => mode.trans coast⟩

theorem effLimit_nonneg (c : Nat) (x : Port) : 0 ≤ effLimit c x := Int.natCast_nonneg _

theorem clampAbs_le {m : Int} (h : 0 ≤ m) (x : Int) : ((clampAbs m x).natAbs : Int) ≤ m := by
  unfold clampAbs clampI
  split
  · omega
  · split <;> omega

/-- R12: a driven port whose duty is clamped to the effective limit. -/
theorem Port.dutyOk_clamped {c : Nat} {x : Port} {d : Int} (driven : x.mode.settled = false)
    (clamped : x.duty = clampAbs (effLimit c x) d) : x.DutyOk c :=
  ⟨clamped ▸ clampAbs_le (effLimit_nonneg c x) d, fun settled => absurd settled (by simp [driven])⟩

/-- What a mode change leaves. -/
theorem Port.enter_keeps (m : Mode) (x : Port) : (x.enter m).kind = x.kind ∧ (x.enter m).mode = m
    ∧ (x.enter m).illegal = x.illegal ∧ (x.enter m).dutyLimit = x.dutyLimit ∧ (x.enter m).source = x.source := by
  unfold Port.enter
  split
  next same => exact ⟨rfl, same, rfl, rfl, rfl⟩
  · cases m <;> dsimp only <;> split <;> exact ⟨rfl, rfl, rfl, rfl, rfl⟩

@[simp] theorem Port.enter_mode (m : Mode) (x : Port) : (x.enter m).mode = m := (x.enter_keeps m).2.1

@[simp] theorem Port.enter_source (m : Mode) (x : Port) : (x.enter m).source = x.source :=
  (x.enter_keeps m).2.2.2.2

@[simp] theorem Port.enter_kind (m : Mode) (x : Port) : (x.enter m).kind = x.kind := (x.enter_keeps m).1

@[simp] theorem Port.enter_dutyLimit (m : Mode) (x : Port) : (x.enter m).dutyLimit = x.dutyLimit :=
  (x.enter_keeps m).2.2.2.1

/-- R3: a change to Coast or Brake leaves the duty 0; another leaves it as it was. -/
theorem Port.enter_duty {m : Mode} {x : Port} (h : x.mode ≠ m) :
    (x.enter m).duty = if m.settled then 0 else x.duty := by
  unfold Port.enter
  rw [if_neg h]
  cases m <;> simp [Mode.settled] <;> split <;> rfl

theorem Port.enter_step {c : Nat} {m : Mode} {x : Port} (h : x.kind = .none → m = .coast) :
    PortStep c x (x.enter m) := by
  obtain ⟨kind, mode, illegal, limit, -⟩ := x.enter_keeps m
  refine ⟨kind, by rw [illegal]; exact id, fun ok => ?_, fun none _ => mode.trans (h none)⟩
  by_cases same : x.mode = m
  · rw [Port.enter, if_pos same]
    exact ok
  · have duty := Port.enter_duty same
    refine ⟨?_, fun settled => ?_⟩
    · have := effLimit_nonneg c x
      rw [duty]
      unfold effLimit at *
      rw [limit]
      split
      · simp
      · exact ok.1
    · rw [mode] at settled
      rw [duty, if_pos settled]

/-- A mode change, with fields changed beside those of `PortStep`. -/
theorem PortStep.enter {c : Nat} {m : Mode} {x y z : Port} (h : PortStep c x y) (hm : x.kind = .none → m = .coast)
    (kind : z.kind = (y.enter m).kind) (mode : z.mode = (y.enter m).mode)
    (illegal : z.illegal = (y.enter m).illegal) (duty : z.duty = (y.enter m).duty)
    (limit : z.dutyLimit = (y.enter m).dutyLimit) : PortStep c x z :=
  (h.trans (Port.enter_step fun none => hm (h.kind.symm.trans none))).trans (.of_eq kind mode illegal duty limit)

/-- R12: the target duty applied in Power mode. -/
theorem Port.applyPower_step {c : Nat} {x : Port} (h : x.mode = .power) : PortStep c x (x.applyPower c) :=
  ⟨rfl, id, fun _ => Port.dutyOk_clamped (x := x.applyPower c) (by simp [Port.applyPower, h, Mode.settled]) rfl,
    fun _ coast => coast⟩

theorem Port.safe_keeps (x : Port) : x.safe.source = x.source
    ∧ (x.kind = .none → x.safe = x) := by
  unfold Port.safe
  split
  next stays => exact ⟨rfl, fun _ => rfl⟩
  next ramp =>
    refine ⟨?_, fun none => by simp [Port.safeMode, none] at ramp⟩
    unfold Port.enterSafeRamp
    exact x.enter_source _
  next m _ changes => exact ⟨x.enter_source _, fun none => by simp [Port.safeMode, none] at changes⟩

theorem Port.safe_step (c : Nat) (x : Port) : PortStep c x x.safe := by
  by_cases none : x.kind = .none
  · rw [x.safe_keeps.2 none]
    exact .refl c x
  · unfold Port.safe
    split
    · exact .refl c x
    · exact (PortStep.refl c x).enter (m := .safeRamp) (fun h => absurd h none) rfl rfl rfl rfl rfl
    · exact Port.enter_step fun h => absurd h none

theorem Port.resume_step (c : Nat) (x : Port) : PortStep c x x.resume := by
  unfold Port.resume
  split
  · exact .refl c x
  · exact (PortStep.refl c x).enter (m := .coast) (fun _ => rfl) rfl rfl rfl rfl rfl

/-! ### Updates of signals -/

theorem SourceStays.refl (x : Port) : SourceStays x x := .inl rfl

theorem Entry.acting_iff (e : Entry) : e.acting = true ↔ e.state = .enabled ∨ e.state = .stale := by
  simp [Entry.acting]

/-- A change of an entry that leaves its state, its route and its age timer. -/
theorem EntryStep.of_eq {e e' : Entry} (state : e'.state = e.state) (route : e'.route = e.route)
    (age : e'.age = e.age) : EntryStep e e' := by
  intro kept
  unfold Entry.wellKept Entry.owns Entry.acting at *
  rw [state, route, age]
  exact ⟨kept, rfl⟩

/-- R98: an acting entry that takes a value. -/
theorem Entry.takeValue_step {e : Entry} (acting : e.acting = true) (v out : Int) : EntryStep e (e.takeValue v out) := by
  intro kept
  have busy : e.state ≠ .free := by
    rw [Entry.acting_iff] at acting
    obtain h | h := acting <;> simp [h]
  refine ⟨⟨⟨fun h => absurd h (by simp [Entry.takeValue]), fun h => absurd (kept.1.mpr h) busy⟩, fun _ => rfl⟩, ?_⟩
  unfold Entry.owns
  rw [if_pos acting, if_pos (by simp [Entry.acting, Entry.takeValue])]
  rfl

section

variable {I : State → Prop} (k : KeptByUpdates I) {s : State}
include k

theorem KeptByUpdates.valuePort (p : Fin 4) (n : Fin 16) (v : Int) (h : I s) : I (valuePort p n v s) := by
  unfold Machine.valuePort
  dsimp only
  split
  · split
    next power =>
      exact k.port (PortStep.trans (y := { s.port p with target := v }) (.of_eq rfl rfl rfl rfl rfl)
        (Port.applyPower_step power)) rfl rfl h
    · exact k.port (.of_eq rfl rfl rfl rfl rfl) rfl rfl h
    · exact k.port (.of_eq rfl rfl rfl rfl rfl) rfl rfl h
    · exact h
  · exact h

theorem KeptByUpdates.goTrigger (n : Fin 16) (g : Nat) (out : Int) (h : I s) : I (goTrigger n g out s).1 := by
  have armed : ∀ b, I (s.setEntry n { s.entry n with armed := b }) := fun b => k.entry (.of_eq rfl rfl rfl) h
  unfold Machine.goTrigger
  dsimp only
  split
  · split
    · split
      next running => exact k.goRequest _ running (armed false)
      · exact armed false
    · exact h
  · exact armed true

theorem KeptByUpdates.sendOutput (n : Fin 16) (d : Destination) (out : Int) (h : I s) :
    I (sendOutput n d out s).1 := by
  unfold Machine.sendOutput
  cases d with
  | motorPower | motorSpeed | motorPosition => exact k.valuePort _ _ _ h
  | voicePitch => exact k.valuePitch _ _ _ h
  | voiceVolume => exact k.valueVolume _ _ _ h
  | goTrigger => exact k.goTrigger _ _ _ h

theorem KeptByUpdates.offerEntry {t : State × Nat} (src : Nat) (i : Fin 16) (v : Int) (n : Fin 16) (h : I t.1) :
    I (offerEntry src i v t n).1 := by
  unfold Machine.offerEntry
  split
  next listens =>
    have acting := (Bool.and_eq_true_iff.mp listens).1
    unfold takeValue
    dsimp only
    split
    · exact h
    · exact k.sendOutput _ _ _ (k.entry (Entry.takeValue_step acting _ _) h)
  · exact h

theorem KeptByUpdates.offerValue (src : Nat) (i : Fin 16) (v : Int) (h : I s) : I (offerValue src i v s).1 := by
  suffices all : ∀ (l : List (Fin 16)) (t : State × Nat), I t.1 → I (l.foldl (Machine.offerEntry src i v) t).1 from
    all sixteen (s, 0) h
  intro l
  induction l with
  | nil => exact fun t ht => ht
  | cons n l ih => exact fun t ht => ih _ (k.offerEntry src i v n ht)

theorem KeptByUpdates.offerOwn (i : Fin 16) (v : Int) (h : I s) : I (offerOwn i v s).1 := by
  unfold Machine.offerOwn
  split
  · exact k.offerValue _ _ _ h
  · exact h

theorem KeptByUpdates.testPublish (i : Fin 16) (h : I s) : I (testPublish i s) := by
  unfold Machine.testPublish
  split
  · exact k.publishRequest _ h
  · exact h

theorem KeptByUpdates.publishUpdate (i : Fin 16) (h : I s) : I (publishUpdate i s) := by
  unfold Machine.publishUpdate
  split
  · exact k.publishRequest _ h
  · exact k.testPublish _ h

end

/-! ### The watch list (R175, R176) -/

theorem watchDistinct_iff_pairwise (l : List WatchPair) :
    watchDistinct l ↔ l.Pairwise fun w x => x.is w.station w.index = false := by
  induction l with
  | nil => simp [watchDistinct]
  | cons w l ih => simp [watchDistinct, ih]

/-- A change of holds leaves the pairs. -/
theorem LinkKept.watch_map {x : Link} {f : WatchPair → WatchPair}
    (same : ∀ w, (f w).station = w.station ∧ (f w).index = w.index) (h : LinkKept x) :
    LinkKept { x with watch := x.watch.map f } := by
  refine ⟨by simpa using h.watch, ?_, h.lanes⟩
  have distinct := h.distinct
  rw [watchDistinct_iff_pairwise] at *
  rw [List.pairwise_map]
  refine distinct.imp fun {w x} differ => ?_
  unfold WatchPair.is at *
  rw [(same w).1, (same w).2, (same x).1, (same x).2]
  exact differ

theorem LinkKept.watch_sublist {x : Link} {l : List WatchPair} (sub : l.Sublist x.watch) (h : LinkKept x) :
    LinkKept { x with watch := l } := by
  refine ⟨sub.length_le.trans h.watch, ?_, h.lanes⟩
  have distinct := h.distinct
  rw [watchDistinct_iff_pairwise] at *
  exact distinct.sublist sub

section

variable {I : State → Prop} (k : KeptByUpdates I) {s : State}
include k

theorem KeptByUpdates.watchOwn (i : Fin 16) (v : Int) (h : I s) : I (watchOwn i v s) := by
  have held (w : WatchPair) (hold : Hold) : I (s.setLink { s.link with watch := s.link.watch.map fun x =>
      if x.station = w.station ∧ x.index = w.index then { x with hold := hold } else x }) :=
    k.link (LinkKept.watch_map fun x => by split <;> exact ⟨rfl, rfl⟩) h
  unfold Machine.watchOwn
  split
  · exact h
  · dsimp only
    split
    · exact k.tell _ _ (held _ _)
    · exact held _ _

theorem KeptByUpdates.watchHeard (st ix : Nat) (v : Int) (h : I s) : I (watchHeard st ix v s) := by
  unfold Machine.watchHeard
  split
  · exact k.tell _ _ h
  · exact h

omit k in
theorem afterMisses_keeps {miss : State → State} (each : ∀ {s}, I s → I (miss s)) {t : State × Nat}
    (h : I t.1) : I (afterMisses miss t) := by
  obtain ⟨s, n⟩ := t
  induction n with
  | zero => exact h
  | succ n ih => exact each (ih h)

theorem KeptByUpdates.updateWith {miss : State → State} (each : ∀ {s}, I s → I (miss s)) (i : Fin 16) (v : Int)
    (h : I s) : I (updateWith miss i v s) :=
  afterMisses_keeps (I := I) (t := (_, _)) each (k.watchOwn _ _ (k.publishUpdate _ (k.offerOwn _ _ (k.setSignal _ _ h))))

theorem KeptByUpdates.missAgain (h : I s) : I (missAgain s) := k.notify _ _ _ h

theorem KeptByUpdates.setStageMiss (h : I s) : I (setStageMiss s) := by
  unfold Machine.setStageMiss
  split
  · exact k.missAgain h
  · exact k.missAgain (k.updateWith k.missAgain _ _ (k.stageMiss true h))

theorem KeptByUpdates.updateSignal (i : Fin 16) (v : Int) (h : I s) : I (updateSignal i v s) :=
  k.updateWith k.setStageMiss i v h

theorem KeptByUpdates.clearStageMiss (h : I s) : I (clearStageMiss s) := by
  unfold Machine.clearStageMiss
  split
  · exact k.updateSignal _ _ (k.stageMiss false h)
  · exact h

theorem KeptByUpdates.noteEvents (p : Fin 4) (was : Port) (h : I s) : I (noteEvents p was s) := by
  unfold Machine.noteEvents
  dsimp only
  split
  · exact h
  · exact k.updateSignal _ _ h

/-! ### Settled ports, answers -/

theorem KeptByUpdates.testHalted (h : I s) : I (testHalted s) := by
  unfold Machine.testHalted
  split
  next settled => exact k.updateSignal _ _ (k.halted settled.1 settled.2 h)
  · exact h

theorem KeptByUpdates.coastPort (p : Fin 4) (h : I s) : I (coastPort p s) :=
  k.testHalted (k.mode (Port.enter_step fun _ => rfl) (.inl (Port.enter_source ..)) (fun _ => by simp [Mode.settled]) h)

theorem KeptByUpdates.furtherCause (c : CauseKind) (at_ : Option CausePort) (halted : s.isRunning = false)
    (h : I s) : I (furtherCause c at_ s) := by
  have state : s.halt.state ≠ .running := by simpa [State.isRunning] using halted
  unfold Machine.furtherCause
  refine foldl_keeps (fun p hs => ?_) _ ?_
  · split
    · exact k.coastPort _ hs
    · exact hs
  · split
    · exact h
    · exact k.halt ⟨rfl, rfl, rfl, fun running => absurd running state⟩ h

theorem KeptByUpdates.answered (via : Via) {t : Taken} (h : I t.1) : I (answered via t) := by
  unfold Machine.answered
  split
  · exact h
  · split
    · exact k.tabletReply _ _ _ _ h
    · exact k.busReply _ _ _ h
    · exact h
    · split
      · exact h
      · exact k.setStageMiss h

end

/-! ### Causes -/

theorem KeptByCauses.giveCause {I : State → Prop} (k : KeptByCauses I) {s : State} (c : CauseKind)
    (at_ : Option CausePort) (h : I s) : I (giveCause c at_ s) := by
  unfold Machine.giveCause
  split
  next running =>
    exact k.testHalted (k.notify _ _ _ (k.updateSignal _ _ (k.haltStart c at_ running h)))
  next halted => exact k.furtherCause _ _ (by simpa using halted) h

end Sys2Proof.Machine
end

section

/-! PROOF. Every command, message and event keeps what `KeptByRows` keeps. -/

namespace Sys2Proof.Machine

/-- A block keeps the invariant in the state that it answers with. -/
def Keeps (I : State → Prop) (op : State → Taken) : Prop := ∀ s, I s → I (op s).1

section

variable {I : State → Prop} {op : State → Taken}

theorem Keeps.refuse (r : Result) : Keeps I (refuse r) := fun _ h => h

theorem Keeps.atPort {op : Fin 4 → State → Taken} (each : ∀ p, Keeps I (op p)) (i : Nat) :
    Keeps I (atPort i op) := fun _ h => by
  unfold Machine.atPort
  split
  · exact each _ _ h
  · exact h

theorem Keeps.atSensor {op : Fin 4 → State → Taken} (each : ∀ p, Keeps I (op p)) (i : Nat) :
    Keeps I (atSensor i op) := fun _ h => by
  unfold Machine.atSensor
  split
  · exact each _ _ h
  · exact h

theorem Keeps.atVoice {op : Fin 3 → State → Taken} (each : ∀ v, Keeps I (op v)) (i : Nat) :
    Keeps I (atVoice i op) := fun _ h => by
  unfold Machine.atVoice
  split
  · exact each _ _ h
  · exact h

theorem Keeps.atSixteen {op : Fin 16 → State → Taken} (each : ∀ n, Keeps I (op n)) (i : Nat) :
    Keeps I (atSixteen i op) := fun _ h => by
  unfold Machine.atSixteen
  split
  · exact each _ _ h
  · exact h

theorem Keeps.atGroup {op : Nat → State → Taken} (each : ∀ g, Keeps I (op g)) (i : Nat) :
    Keeps I (atGroup i op) := fun _ h => by
  unfold Machine.atGroup
  split
  · exact each _ _ h
  · exact h

theorem Keeps.atStation (each : Keeps I op) (i : Nat) : Keeps I (atStation i op) := fun _ h => by
  unfold Machine.atStation
  split
  · exact each _ h
  · exact h

end

/-! ### The Motor block -/

/-- R23: a command that passes its checks is sent to a port that is not of kind None, and a motion command to
a Running station. -/
theorem motorRefusal_eq_none {need : EncoderNeed} {motion : Bool} {p : Fin 4} {s : State}
    (h : motorRefusal need motion p s = none) :
    (s.port p).kind ≠ .none ∧ (motion = true → s.isRunning = true) := by
  unfold motorRefusal at h
  split at h
  · simp at h
  next kind =>
    refine ⟨kind, fun moves => ?_⟩
    split at h
    · simp at h
    · simpa [moves] using h

/-- A port that enters a mode with a target and a reference. -/
theorem Port.aimed_step {c : Nat} {m : Mode} {x : Port} (h : x.kind = .none → m = .coast) (t r : Int) (q : Timer) :
    PortStep c x { x.enter m with target := t, reference := r, stepTimer := q } :=
  (Port.enter_step h).trans (.of_eq rfl rfl rfl rfl rfl)

theorem Port.startPattern_step {c : Nat} {x : Port} (h : x.kind ≠ .none) (w : Waveform) (phase cycles : Nat) :
    PortStep c x (x.startPattern w phase cycles) := by
  refine (PortStep.refl c x).enter (m := .pattern) (fun none => absurd none h) ?_ ?_ ?_ ?_ ?_ <;>
    cases w <;> rfl

@[simp] theorem Port.startPattern_source (w : Waveform) (phase cycles : Nat) (x : Port) :
    (x.startPattern w phase cycles).source = x.source := by
  cases w <;> exact x.enter_source _

theorem Port.cycleComplete_step (c : Nat) (x : Port) : PortStep c x x.cycleComplete
    ∧ x.cycleComplete.mode = x.mode ∧ x.cycleComplete.source = x.source := by
  unfold Port.cycleComplete
  dsimp only
  split <;> exact ⟨.of_eq rfl rfl rfl rfl rfl, rfl, rfl⟩

/-- A change of a port that keeps its mode and its source. -/
def PortStays (c : Nat) (x y : Port) : Prop := PortStep c x y ∧ y.mode = x.mode ∧ y.source = x.source

theorem PortStays.refl (c : Nat) (x : Port) : PortStays c x x := ⟨.refl c x, rfl, rfl⟩

theorem PortStays.trans {c : Nat} {x y z : Port} (h : PortStays c x y) (g : PortStays c y z) : PortStays c x z :=
  ⟨h.1.trans g.1, g.2.1.trans h.2.1, g.2.2.trans h.2.2⟩

/-- A change of a port beside the fields that the statements read. -/
theorem PortStays.of_eq {c : Nat} {x y : Port} (kind : y.kind = x.kind) (mode : y.mode = x.mode)
    (source : y.source = x.source) (illegal : y.illegal = x.illegal) (duty : y.duty = x.duty)
    (limit : y.dutyLimit = x.dutyLimit) : PortStays c x y :=
  ⟨.of_eq kind mode illegal duty limit, mode, source⟩

theorem Port.completionTest_stays (c : Nat) (x : Port) : PortStays c x x.completionTest := by
  unfold Port.completionTest
  split
  · exact x.cycleComplete_step c
  · exact .refl c x

theorem Port.retarget_stays (c : Nat) (x : Port) : PortStays c x x.retarget := .of_eq rfl rfl rfl rfl rfl rfl

theorem Port.triangleStep_stays (c : Nat) (x : Port) : PortStays c x x.triangleStep := by
  unfold Port.triangleStep
  have tested {y : Port} (h : PortStays c x y) : PortStays c x y.completionTest := h.trans (y.completionTest_stays c)
  dsimp only
  repeat' split
  all_goals first
    | exact .of_eq rfl rfl rfl rfl rfl rfl
    | exact tested (.of_eq rfl rfl rfl rfl rfl rfl)

theorem Port.sawtoothStep_stays (c : Nat) (x : Port) : PortStays c x x.sawtoothStep := by
  unfold Port.sawtoothStep
  have tested {y : Port} (h : PortStays c x y) : PortStays c x y.completionTest := h.trans (y.completionTest_stays c)
  dsimp only
  split
  · split
    · exact .of_eq rfl rfl rfl rfl rfl rfl
    · exact tested (.of_eq rfl rfl rfl rfl rfl rfl)
  · split
    · exact tested (.of_eq rfl rfl rfl rfl rfl rfl)
    · exact tested (.refl c x)

theorem Port.sineStep_stays (c : Nat) (x : Port) : PortStays c x x.sineStep := by
  unfold Port.sineStep
  dsimp only
  split
  · refine PortStays.trans ?_ (Port.cycleComplete_step c _)
    exact .of_eq rfl rfl rfl rfl rfl rfl
  · exact .of_eq rfl rfl rfl rfl rfl rfl

theorem Port.profileStep_stays (c : Nat) (x : Port) : PortStays c x x.profileStep := by
  unfold Port.profileStep
  split
  · exact .of_eq rfl rfl rfl rfl rfl rfl
  · exact .of_eq rfl rfl rfl rfl rfl rfl
  · exact .of_eq rfl rfl rfl rfl rfl rfl
  · unfold Port.patternStep
    split
    · exact (x.triangleStep_stays c).trans (Port.retarget_stays c _)
    · exact (x.sawtoothStep_stays c).trans (Port.retarget_stays c _)
    · exact (x.sineStep_stays c).trans (Port.retarget_stays c _)
    · exact .refl c x
  · exact .refl c x

theorem Port.withPresets_stays (c : Nat) (l u : Int) (x : Port) : PortStays c x (x.withPresets l u) := by
  unfold Port.withPresets
  dsimp only
  split <;> exact .of_eq rfl rfl rfl rfl rfl rfl

theorem Port.withRamp_stays (c : Nat) (st pe : Nat) (x : Port) : PortStays c x (x.withRamp st pe) := by
  unfold Port.withRamp
  dsimp only
  repeat' split
  all_goals exact .of_eq rfl rfl rfl rfl rfl rfl

/-- R12, R24: a driven port re-clamped; the duty of the others is 0. -/
theorem Port.reclamp_stays {c : Nat} {x y : Port} (kind : y.kind = x.kind) (mode : y.mode = x.mode)
    (source : y.source = x.source) (illegal : y.illegal = x.illegal) (duty : y.duty = x.duty) :
    PortStays c x (y.reclamp c) := by
  unfold Port.reclamp
  split
  next driven =>
    refine ⟨⟨kind, by simp [illegal], fun _ => ?_, fun _ coast => mode.trans coast⟩, mode, source⟩
    exact Port.dutyOk_clamped (by revert driven; dsimp only; cases y.mode <;> decide) rfl
  next still =>
    refine ⟨⟨kind, by rw [illegal]; exact id, fun ok => ?_, fun _ coast => mode.trans coast⟩, mode, source⟩
    have settled : y.mode.settled = true := by
      revert still
      cases y.mode <;> simp [Mode.driven, Mode.settled]
    have zero : y.duty = 0 := duty.trans (ok.2 (mode ▸ settled))
    exact ⟨by rw [zero]; exact effLimit_nonneg _ _, fun _ => zero⟩

section

variable {I : State → Prop} (k : KeptByUpdates I)
include k

omit k in
theorem motorTaken_keeps {s : State} {need : EncoderNeed} {motion : Bool} {p : Fin 4} {op : State → Taken}
    (each : (s.port p).kind ≠ .none → (motion = true → s.isRunning = true) → I s → I (op s).1) (h : I s) :
    I (motorTaken need motion p op s).1 := by
  unfold Machine.motorTaken
  split
  · exact h
  next passed =>
    obtain ⟨kind, running⟩ := motorRefusal_eq_none passed
    exact each kind running h

/-- R17: a motion command takes the port. -/
theorem KeptByUpdates.directMotion {s : State} {p : Fin 4} {src : Source} {move : Port → Port}
    (step : ∀ x : Port, x.kind ≠ .none → PortStep s.battery.ceiling x (move x))
    (sourced : ∀ x : Port, (move x).source = x.source) (own : src = .command ∨ src = .pattern)
    (kind : (s.port p).kind ≠ .none) (running : s.isRunning = true) (h : I s) : I (directMotion p src move s) := by
  refine k.noteEvents _ _ (k.takePort ?_ ?_ (fun halted => ?_) h)
  · refine PortStep.trans ?_ (step _ kind)
    exact .of_eq rfl rfl rfl rfl rfl
  · unfold SourceTaken
    rw [sourced]
    exact own.imp id fun e => ⟨e, kind⟩
  · simp [State.isRunning, halted] at running

/-- A motion command that enters a mode and sets the target. -/
theorem KeptByUpdates.motorMotion {need : EncoderNeed} {p : Fin 4} {move : State → Port → Port}
    (step : ∀ (s : State) (x : Port), x.kind ≠ .none → PortStep s.battery.ceiling x (move s x))
    (sourced : ∀ (s : State) (x : Port), (move s x).source = x.source) :
    Keeps I (motorTaken need true p fun s => done (Machine.directMotion p .command (move s) s)) := fun _ h =>
  motorTaken_keeps (fun kind running h => k.directMotion (step _) (sourced _) (.inl rfl) kind (running rfl) h) h

theorem KeptByUpdates.motorCoast (p : Fin 4) : Keeps I (motorCoast p) :=
  k.motorMotion (move := fun _ x => { x.enter .coast with target := 0 })
    (fun _ _ _ => Port.aimed_step (fun _ => rfl) ..) fun _ x => x.enter_source _

theorem KeptByUpdates.motorBrake (p : Fin 4) : Keeps I (motorBrake p) :=
  k.motorMotion (move := fun _ x => { x.enter .brake with target := 0 })
    (fun _ _ hx => Port.aimed_step (fun none => absurd none hx) ..) fun _ x => x.enter_source _

theorem KeptByUpdates.motorSetPower (d : Int) (p : Fin 4) : Keeps I (motorSetPower d p) :=
  k.motorMotion (move := fun s x => Port.applyPower s.battery.ceiling { x.enter .power with target := clampAbs 1000 d })
    (fun _ _ hx => (Port.aimed_step (fun none => absurd none hx) ..).trans (Port.applyPower_step (Port.enter_mode ..)))
    fun _ x => x.enter_source _

theorem KeptByUpdates.motorSetSpeed (v : Int) (p : Fin 4) : Keeps I (motorSetSpeed v p) :=
  k.motorMotion (move := fun _ x => ((x.enter .speed).aim (clampAbs 1500 v)).restartStep)
    (fun _ _ hx => Port.aimed_step (fun none => absurd none hx) ..) fun _ x => x.enter_source _

theorem KeptByUpdates.motorSetPosition (v : Int) (p : Fin 4) : Keeps I (motorSetPosition v p) :=
  k.motorMotion (move := fun _ x => ((x.enter .position).aim (clamp24 v)).restartStep)
    (fun _ _ hx => Port.aimed_step (fun none => absurd none hx) ..) fun _ x => x.enter_source _

theorem KeptByUpdates.motorMoveBy (v : Int) (p : Fin 4) : Keeps I (motorMoveBy v p) :=
  k.motorMotion (move := fun _ x => ((x.enter .position).aim (x.moveTarget v)).restartStep)
    (fun _ _ hx => Port.aimed_step (fun none => absurd none hx) ..) fun _ x => x.enter_source _

theorem KeptByUpdates.motorSetPattern (w phase cycles : Nat) (p : Fin 4) : Keeps I (motorSetPattern w phase cycles p) :=
  fun _ h => motorTaken_keeps (fun kind running h => by
    split
    · exact h
    · split
      · exact h
      · exact k.directMotion (fun x hx => Port.startPattern_step hx _ _ _)
          (fun x => x.startPattern_source _ _ _) (.inr rfl) kind (running rfl) h) h

/-- A configuration command that keeps the port's mode and source. -/
theorem KeptByUpdates.configure {s : State} {p : Fin 4} {f : Port → Port}
    (stays : PortStays s.battery.ceiling (s.port p) (f (s.port p))) (h : I s) : I (configure p f s).1 :=
  k.port stays.1 stays.2.2 stays.2.1 h

theorem KeptByUpdates.motorSetPresets (l u : Int) (p : Fin 4) : Keeps I (motorSetPresets l u p) :=
  fun _ h => motorTaken_keeps (fun _ _ h => by
    split
    · exact k.configure (Port.withPresets_stays _ _ _ _) h
    · exact h) h

theorem KeptByUpdates.motorSetRamp (st pe : Nat) (p : Fin 4) : Keeps I (motorSetRamp st pe p) :=
  fun _ h => motorTaken_keeps (fun _ _ h => k.configure (Port.withRamp_stays _ _ _ _) h) h

theorem KeptByUpdates.motorSetGains (set kp ki : Nat) (p : Fin 4) : Keeps I (motorSetGains set kp ki p) :=
  fun _ h => motorTaken_keeps (fun _ _ h => by
    dsimp only
    split
    · exact h
    · exact k.configure (.of_eq rfl rfl rfl rfl rfl rfl) h
    · exact k.configure (.of_eq rfl rfl rfl rfl rfl rfl) h) h

theorem KeptByUpdates.motorSetLimits (d c st po : Nat) (p : Fin 4) : Keeps I (motorSetLimits d c st po p) :=
  fun _ h => motorTaken_keeps (fun _ _ h => by
    split
    · exact h
    · exact k.configure (Port.reclamp_stays rfl rfl rfl rfl rfl) h) h

theorem KeptByUpdates.motorSetSafeAction (a : Nat) (p : Fin 4) : Keeps I (motorSetSafeAction a p) :=
  fun _ h => motorTaken_keeps (fun _ _ h => by
    split
    · exact h
    · exact k.configure (.of_eq rfl rfl rfl rfl rfl rfl) h) h

theorem KeptByUpdates.motorSetArrival (w : Nat) (p : Fin 4) : Keeps I (motorSetArrival w p) :=
  fun _ h => motorTaken_keeps (fun _ _ h => k.configure (.of_eq rfl rfl rfl rfl rfl rfl) h) h

theorem KeptByUpdates.motorZeroPosition (v : Int) (p : Fin 4) : Keeps I (motorZeroPosition v p) :=
  fun _ h => motorTaken_keeps (fun _ _ h => by
    dsimp only
    split
    · refine k.noteEvents _ _ (k.port ⟨rfl, fun _ => ?_, id, fun _ => id⟩ rfl rfl h)
      simp [Port.zeroed]
    · exact h) h

omit k in
theorem motorQueryPort_keeps (p : Fin 4) : Keeps I (motorQueryPort p) :=
  fun _ h => motorTaken_keeps (fun _ _ h => h) h

end

/-! ### The Sensor block and the battery -/

section

variable {I : State → Prop} (k : KeptByCauses I)
include k

theorem KeptByCauses.setActive {s : State} (p : Fin 4) (a : Bool) (h : I s) : I (setActive p a s) := by
  have told : I (notify (if a then 2 else 3) (p.val + 1) 0
      (writeSensorBits p (s.setSensor p { s.sensor p with active := a }))) :=
    k.notify _ _ _ (k.updateSignal _ _ (k.setSensor _ _ h))
  exact ite_keeps (fun _ => k.giveCause _ _ told) fun _ => told

theorem KeptByCauses.debounce {s : State} (p : Fin 4) (a r : Bool) (h : I s) : I (debounce p a r s) :=
  ite_keeps (fun _ => k.setSensor _ _ h) fun _ =>
    ite_keeps (fun _ => k.setSensor _ _ h) fun _ => k.setActive _ _ (k.setSensor _ _ h)

theorem KeptByCauses.startTune {s : State} (p : Fin 4) (h : I s) : I (startTune p s) :=
  k.updateSignal _ _ (k.setSensor _ _ (ite_keeps (fun _ => k.setActive _ _ h) fun _ => h))

theorem KeptByCauses.endTune {s : State} (p : Fin 4) (r : TuneResult) (h : I s) : I (endTune p r s) :=
  k.notify _ _ _ (k.updateSignal _ _ (k.setSensor _ _ h))

theorem KeptByCauses.tuneMeasured {s : State} (p : Fin 4) (phase : TunePhase) (a : Nat) (h : I s) :
    I (tuneMeasured p phase a s) := by
  unfold Machine.tuneMeasured
  dsimp only
  split
  · split
    · exact k.setSensor _ _ h
    · split
      · exact k.endTune _ _ h
      · exact k.setSensor _ _ h
  · split <;> exact k.setSensor _ _ h
  · split <;> exact k.endTune _ _ (k.setSensor _ _ h)

theorem KeptByCauses.levelSample {s : State} (p : Fin 4) (raw : Nat) (h : I s) : I (levelSample p raw s) :=
  k.updateSignal _ _ (ite_keeps (fun _ => k.debounce _ _ _ (k.setSensor _ _ h)) fun _ => k.setSensor _ _ h)

theorem KeptByCauses.touchSample {s : State} (p : Fin 4) (raw : Nat) (h : I s) : I (touchSample p raw s) :=
  ite_keeps (fun _ => k.updateSignal _ _ (k.debounce _ _ _ (k.setSensor _ _ h)))
    fun _ => k.updateSignal _ _ (k.setSensor _ _ h)

theorem KeptByCauses.tuneSample {s : State} (p : Fin 4) (t : Tune) (raw : Nat) (h : I s) :
    I (tuneSample p t raw s) :=
  ite_keeps (fun _ => k.setSensor _ _ h) fun _ => k.tuneMeasured _ _ _ (k.setSensor _ _ h)

theorem KeptByCauses.touchReading {s : State} (p : Fin 4) (raw : Nat) (h : I s) : I (touchReading p raw s) := by
  have started := ite_keeps (I := I) (c := ((s.sensor p).tuneAtStart && (s.sensor p).tuning.isNone) = true)
    (fun _ => k.startTune p (k.setSensor p { s.sensor p with tuneAtStart := false } h))
    fun _ => k.setSensor p { s.sensor p with tuneAtStart := false } h
  unfold Machine.touchReading
  dsimp only
  split
  · exact k.tuneSample _ _ _ started
  · exact k.touchSample _ _ started

theorem KeptByCauses.sensorSample {s : State} (p : Fin 4) (raw : Nat) (h : I s) :
    I (match (s.sensor p).kind with
      | .off => s
      | .switch => switchSample p raw s
      | .level => Machine.levelSample p raw s
      | .touch => Machine.touchReading p raw s) := by
  split
  · exact h
  · exact k.updateSignal _ _ (k.debounce _ _ _ (k.setSensor _ _ h))
  · exact k.levelSample _ _ h
  · exact k.touchReading _ _ h

omit k in
theorem sensorTaken_keeps {kinds : List SensorKind} {p : Fin 4} {op : Sensor → State → Taken}
    (each : ∀ x, Keeps I (op x)) : Keeps I (sensorTaken kinds p op) := fun _ h => by
  unfold Machine.sensorTaken
  split
  · exact each _ _ h
  · exact h

theorem KeptByCauses.sensorSetPolarity (x : Nat) (p : Fin 4) : Keeps I (sensorSetPolarity x p) :=
  sensorTaken_keeps fun x s h => by
    split
    · exact h
    · dsimp only [done]
      split
      · exact k.setActive _ _ (k.setSensor _ _ h)
      · exact k.setSensor _ _ h

theorem KeptByCauses.sensorTune (x : Nat) (p : Fin 4) : Keeps I (sensorTune x p) :=
  sensorTaken_keeps fun x s h => by
    split
    · exact h
    · exact k.startTune _ (k.setSensor _ _ h)

theorem KeptByCauses.sensorSetHaltInput (x : Nat) (p : Fin 4) : Keeps I (sensorSetHaltInput x p) :=
  sensorTaken_keeps fun x s h => by
    split
    · exact h
    · dsimp only [done]
      split
      · exact k.giveCause _ _ (k.setSensor _ _ h)
      · exact k.setSensor _ _ h

theorem KeptByCauses.undervoltageCheck {s : State} (h : I s) : I (undervoltageCheck s) := by
  unfold Machine.undervoltageCheck
  dsimp only
  split
  · split
    · exact h
    · exact k.battery _ rfl h
  · split
    · split
      · exact k.battery _ rfl h
      · exact k.giveCause _ _ (k.battery _ rfl h)
    · exact k.battery _ rfl h

omit k in
theorem KeptByRows.batteryTakes {I : State → Prop} (k : KeptByRows I) {s : State} (v : Int) (h : I s) :
    I (batteryTakes v s) :=
  k.updateSignal _ _ (k.undervoltageCheck (k.ceiling
    { s.battery with filtered := v, ceiling := supplyCeiling v, percentage := supplyPercentage v } h))

end

/-! ### The Voice block -/

section

variable {I : State → Prop} (k : KeptByUpdates I)
include k

theorem KeptByUpdates.voiceNote (a : NoteArgs) (v : Fin 3) : Keeps I (voiceNote a v) := fun s h => by
  unfold Machine.voiceNote
  split
  · exact h
  next running =>
    have running : s.isRunning = true := by simpa using running
    split
    · exact h
    · dsimp only
      split
      · exact h
      next room =>
        refine k.bindingEnded _ (k.takePitch ?_ rfl h)
        rw [running]
        refine .of_running (fun _ => ?_) rfl rfl
        dsimp only
        rw [List.length_append, List.length_singleton]
        omega

theorem KeptByUpdates.voiceClear (v : Fin 3) : Keeps I (voiceClear v) := fun _ h =>
  k.becomeIdle _ (k.takePitch ⟨fun _ => Nat.zero_le _, rfl, rfl, fun _ silent => ⟨silent.1, rfl, silent.2.2⟩⟩ rfl h)

theorem KeptByUpdates.voiceSetScale (x : Nat) (v : Fin 3) : Keeps I (voiceSetScale x v) := fun _ h =>
  k.takeVolume (.of_eq rfl rfl rfl fun silent => silent) rfl h

omit k in
theorem Voice.setEnv_keeps (x : Voice) : x.setEnv.queue = x.queue ∧ x.setEnv.pitchSource = x.pitchSource
    ∧ x.setEnv.volumeSource = x.volumeSource ∧ x.setEnv.sound = x.sound := by
  unfold Voice.setEnv
  dsimp only
  split
  · split <;> exact ⟨rfl, rfl, rfl, rfl⟩
  · exact ⟨rfl, rfl, rfl, rfl⟩
  · split <;> exact ⟨rfl, rfl, rfl, rfl⟩
  · exact ⟨rfl, rfl, rfl, rfl⟩
  · exact ⟨rfl, rfl, rfl, rfl⟩

end

end Sys2Proof.Machine
end

section

/-! PROOF. Every command, message and event keeps what `KeptByRows` keeps: the listen table, staging, the
command path and the tablet link. -/

namespace Sys2Proof.Machine

/-! ### The Listen block -/

theorem Entry.age_stopped {e : Entry} (idle : e.acting = false) (kept : e.wellKept) : e.age.isSome = false := by
  by_contra running
  have := kept.2 (Bool.of_not_eq_false running)
  simp [Entry.acting, this] at idle

/-- An entry that does not act and keeps or takes a route. -/
theorem Entry.step_of_idle {e e' : Entry} (was : e.acting = false) (is : e'.acting = false)
    (state : e'.state ≠ .free) (route : e'.route ≠ none) (age : e'.age = e.age) : EntryStep e e' := by
  intro kept
  have stopped := Entry.age_stopped was kept
  refine ⟨⟨by simp [state, route], fun running => ?_⟩, by simp [Entry.owns, was, is]⟩
  rw [age, stopped] at running
  exact absurd running (by simp)

/-- R102: an entry whose age timer expires. -/
theorem Entry.stale_step {e : Entry} (running : e.age.isSome = true) :
    EntryStep e { e with state := .stale, age := none } := by
  intro kept
  have enabled := kept.2 running
  have routed : e.route ≠ none := fun h => by simpa [enabled] using kept.1.mpr h
  exact ⟨⟨by simp [routed], fun h => by simp at h⟩, by simp [Entry.owns, Entry.acting, enabled]⟩

theorem Entry.routed_keeps (r : Route) (e : Entry) :
    (e.routed r).state = .disabled ∧ (e.routed r).route = some r ∧ (e.routed r).age = e.age := by
  unfold Entry.routed
  split <;> exact ⟨rfl, rfl, rfl⟩

theorem Entry.rerouted_keeps (r : Route) (e : Entry) :
    (e.rerouted r).state = e.state ∧ (e.rerouted r).route = some r ∧ (e.rerouted r).age = e.age := by
  unfold Entry.rerouted
  extract_lets was
  split
  · split <;> exact ⟨rfl, rfl, rfl⟩
  · exact ⟨rfl, rfl, rfl⟩

section

variable {I : State → Prop} (k : KeptByUpdates I)
include k

theorem KeptByUpdates.listenSetRoute (a b c d : Nat) (n : Fin 16) : Keeps I (listenSetRoute a b c d n) :=
  fun s h => by
  have routed {e : Entry} (idle : (s.entry n).acting = false) (state : e.acting = false) (free : e.state ≠ .free)
      (route : e.route ≠ none) (age : e.age = (s.entry n).age) : I (s.setEntry n e) :=
    k.entry (Entry.step_of_idle idle state free route age) h
  have rerouted (r : Route) (idle : (s.entry n).acting = false) (free : (s.entry n).state ≠ .free) :
      I (s.setEntry n ((s.entry n).rerouted r)) := by
    obtain ⟨state, route, age⟩ := (s.entry n).rerouted_keeps r
    exact routed idle (by rw [Entry.acting, state]; exact idle) (by rw [state]; exact free) (by simp [route]) age
  unfold Machine.listenSetRoute
  split
  · exact h
  next r _ =>
    dsimp only
    split
    next free =>
      obtain ⟨state, route, age⟩ := (s.entry n).routed_keeps r
      exact routed (by simp [Entry.acting, free]) (by simp [Entry.acting, state]) (by simp [state])
        (by simp [route]) age
    next state => exact rerouted r (by simp [Entry.acting, state]) (by simp [state])
    next state => exact rerouted r (by simp [Entry.acting, state]) (by simp [state])
    · exact h
    · exact h

omit k in
theorem unlessFree_keeps {n : Fin 16} {op : Entry → State → Taken}
    (each : ∀ {s}, (s.entry n).state ≠ .free → I s → I (op (s.entry n) s).1) : Keeps I (unlessFree n op) := fun _ h => by
  unfold unlessFree
  split
  · exact h
  next busy => exact each busy h

theorem KeptByUpdates.listenSetTransform (w o : Int) (n : Fin 16) : Keeps I (listenSetTransform w o n) :=
  unlessFree_keeps fun _ h => k.entry (.of_eq rfl rfl rfl) h

theorem KeptByUpdates.listenSetClamp (l u : Int) (n : Fin 16) : Keeps I (listenSetClamp l u n) :=
  unlessFree_keeps fun _ h => by
    dsimp only
    split
    · exact h
    · exact k.entry (.of_eq rfl rfl rfl) h

theorem KeptByUpdates.listenSetStale (t a : Nat) (f : Option Int) (n : Fin 16) : Keeps I (listenSetStale t a f n) :=
  unlessFree_keeps fun _ h => by
    dsimp only
    split
    · exact k.entry (.of_eq rfl rfl rfl) h
    · exact k.entry (.of_eq rfl rfl rfl) h
    · exact h
    · exact h

theorem KeptByUpdates.listenSetTrigger (l : Int) (n : Fin 16) : Keeps I (listenSetTrigger l n) :=
  unlessFree_keeps fun _ h => by
    split
    · exact k.entry (.of_eq rfl rfl rfl) h
    · exact h

theorem KeptByUpdates.voiceSetEnvelope (a r : Nat) (v : Fin 3) : Keeps I (voiceSetEnvelope a r v) := fun _ h =>
  k.voice (.of_eq rfl rfl rfl fun silent => silent) h

theorem KeptByUpdates.voiceSetMaster (x : Nat) (v : Fin 3) : Keeps I (voiceSetMaster x v) := fun _ h =>
  k.setAudio _ h

theorem KeptByUpdates.writeFallback {s : State} (n : Fin 16) (d : Destination) (v : Int) (h : I s) :
    I (writeFallback n d v s) := by
  have sent := k.sendOutput n d (d.clamp v)
    (k.entry (n := n) (e := { s.entry n with lastOutput := some (d.clamp v) }) (.of_eq rfl rfl rfl) h)
  exact ite_keeps (fun _ => k.setStageMiss sent) fun _ => sent

theorem KeptByUpdates.ageTimerExpiry {s : State} (n : Fin 16) (h : I s) :
    I (if (s.entry n).age.isSome then
        match (s.entry n).staleAction, (s.entry n).fallback, (s.entry n).route with
        | .fallback, some v, some r =>
          Machine.writeFallback n r.dest v (s.setEntry n { s.entry n with state := .stale, age := none })
        | _, _, _ => s.setEntry n { s.entry n with state := .stale, age := none }
      else s) :=
  ite_keeps (fun running => by
    have stale := k.entry (Entry.stale_step running) h
    split
    · exact k.writeFallback _ _ _ stale
    · exact stale) fun _ => h

omit k in
theorem KeptByRows.listenEnable (k : KeptByRows I) (n : Fin 16) : Keeps I (listenEnable n) := fun s h => by
  unfold Machine.listenEnable
  dsimp only
  have bound {r : Route} (idle : (s.entry n).acting = false) (route : (s.entry n).route = some r) :
      I (match enableRefusal n (s.entry n) r.dest s with
        | some refusal => refuse refusal s
        | none => done (bindDestination n r.dest (s.setEntry n (s.entry n).enabled))).1 := by
    split
    · exact h
    next passed => exact k.bind route passed idle h
  split
  · exact h
  · exact h
  · exact h
  next state route => exact bound (by simp [Entry.acting, state]) route
  next state route => exact bound (by simp [Entry.acting, state]) route
  · exact h
  · exact h

omit k in
theorem KeptByRows.listenDisable (k : KeptByRows I) (n : Fin 16) : Keeps I (listenDisable n) :=
  unlessFree_keeps fun busy h => k.release (.inl ⟨rfl, busy⟩) h

omit k in
theorem KeptByRows.listenFree (k : KeptByRows I) (n : Fin 16) : Keeps I (listenFree n) := fun _ h => by
  unfold Machine.listenFree
  dsimp only
  split
  · exact h
  · exact k.release (.inr rfl) h

/-! ### The Signal, Staging and Halt blocks -/

theorem KeptByUpdates.signalSetPublish (a b c : Nat) (i : Fin 16) : Keeps I (signalSetPublish a b c i) := fun _ h => by
  unfold Machine.signalSetPublish
  split
  · exact h
  · exact k.testPublish _ (k.setSignal _ _ h)

omit k in
theorem stagingDistinct_iff_pairwise (l : List Staged) :
    stagingDistinct l ↔ l.Pairwise fun x y => x.sameTarget y = false := by
  induction l with
  | nil => simp [stagingDistinct]
  | cons x l ih => simp [stagingDistinct, ih]

omit k in
theorem stagingKept_of_sublist {l l' : List Staged} (sub : l'.Sublist l) (kept : stagingKept l) : stagingKept l' := by
  obtain ⟨length, distinct⟩ := kept
  rw [stagingDistinct_iff_pairwise] at distinct
  exact ⟨sub.length_le.trans length, (stagingDistinct_iff_pairwise l').mpr (distinct.sublist sub)⟩

omit k in
theorem StagingStep.of_sublist {r : Bool} {l l' : List Staged} (sub : l'.Sublist l) : StagingStep r l l' :=
  ⟨stagingKept_of_sublist sub, fun _ empty => List.eq_nil_of_sublist_nil (empty ▸ sub)⟩

omit k in
theorem Staged.sameTarget_iff {x y : Staged} :
    x.sameTarget y = true ↔ x.group = y.group ∧ x.block = y.block ∧ x.index = y.index := by
  simp [Staged.sameTarget, and_assoc]

omit k in
theorem stagingDistinct_set {l : List Staged} {x : Staged} {j : Nat} (here : l.findIdx? x.sameTarget = some j)
    (distinct : stagingDistinct l) : stagingDistinct (l.set j x) := by
  rw [stagingDistinct_iff_pairwise, List.pairwise_iff_getElem] at *
  obtain ⟨bound, same, -⟩ := List.findIdx?_eq_some_iff_getElem.mp here
  rw [Staged.sameTarget_iff] at same
  obtain ⟨group, block, index⟩ := same
  intro a b ha hb less
  rw [List.length_set] at ha hb
  have differ := distinct a b ha hb less
  simp only [List.getElem_set]
  by_cases ea : j = a
  · subst ea
    rw [if_pos rfl, if_neg (by omega)]
    simpa [Staged.sameTarget, group, block, index] using differ
  · rw [if_neg ea]
    by_cases eb : j = b
    · subst eb
      rw [if_pos rfl]
      simpa [Staged.sameTarget, group, block, index] using differ
    · rw [if_neg eb]
      exact differ

theorem KeptByUpdates.placeStaged {s : State} (x : Staged) (running : s.isRunning = true) (h : I s) :
    I (placeStaged x s).1 := by
  unfold Machine.placeStaged
  split
  next j here =>
    refine k.staging ⟨fun kept => ⟨?_, stagingDistinct_set here kept.2⟩, fun r => by simp [running] at r⟩ h
    rw [List.length_set]
    exact kept.1
  next absent =>
    split
    · exact h
    next room =>
      refine k.staging ⟨fun kept => ⟨?_, ?_⟩, fun r => by simp [running] at r⟩ h
      · rw [List.length_append, List.length_singleton]
        omega
      · have distinct := kept.2
        rw [stagingDistinct_iff_pairwise] at *
        rw [List.pairwise_append]
        refine ⟨distinct, List.pairwise_singleton .., fun y mem z last => ?_⟩
        rw [List.mem_singleton] at last
        subst last
        have other := List.findIdx?_eq_none_iff.mp absent y mem
        rw [← Bool.not_eq_true, Staged.sameTarget_iff] at *
        exact fun same => other ⟨same.1.symm, same.2.1.symm, same.2.2.symm⟩

theorem KeptByUpdates.stagingStage (b w c : Nat) (a : List Byte) (g : Nat) : Keeps I (stagingStage b w c a g) :=
  fun _ h => by
  unfold Machine.stagingStage
  split
  · exact h
  next running =>
    split
    · exact h
    · exact k.placeStaged _ (by simpa using running) h

theorem KeptByUpdates.stagingCancel (g : Nat) : Keeps I (stagingCancel g) := fun _ h =>
  k.staging (.of_sublist List.filter_sublist) h

theorem KeptByUpdates.stagingGo (g : Nat) : Keeps I (stagingGo g) := fun s h => by
  unfold Machine.stagingGo
  split
  · exact h
  next running =>
    have asked := k.goRequest g (by simpa using running) h
    dsimp only
    split
    · exact asked
    · exact k.setStageMiss asked

omit k in
theorem KeptByCauses.haltHalt (k : KeptByCauses I) : Keeps I haltHalt := fun _ h => k.giveCause _ _ h

omit k in
theorem KeptByRows.resumeStation (k : KeptByRows I) {s : State} (halted : s.halt.state = .halted) (h : I s) :
    I (resumeStation s) := by
  unfold Machine.resumeStation
  exact k.notify _ _ _ (k.updateSignal _ _ (foldl_keeps (fun v => k.resumeVoice v) _ (k.resume halted h)))

omit k in
theorem KeptByRows.haltResume (k : KeptByRows I) : Keeps I haltResume := fun s h => by
  unfold Machine.haltResume
  split
  · exact h
  · exact h
  next halted =>
    have resumed : I (done (Machine.resumeStation s)).1 := by
      dsimp only [done]
      exact k.resumeStation halted h
    split
    · exact resumed
    · exact h

/-! ### The Station block, resets and the end of an event -/

omit k in
theorem KeptByRows.readImage (k : KeptByRows I) {s : State} (kind : ResetKind) (straps : Nat) (h : I s) :
    I (readImage kind straps s) := k.image kind straps (Machine.readImage kind straps s).battery h

omit k in
theorem KeptByRows.beginReset (k : KeptByRows I) {s : State} (kind : ResetKind) (h : I s) :
    I (beginReset kind s) :=
  k.readImage _ _ (k.free s.hot s.sensors s.audio s.signals s.stageMiss s.station _ _ h)

omit k in
theorem KeptByRows.stationRestart (k : KeptByRows I) (via : Via) : Keeps I (stationRestart via) := fun s h => by
  unfold Machine.stationRestart
  split
  · exact h
  · split
    · exact k.tell _ _ (k.setStation _ h)
    · split
      · exact k.beginReset _ h
      · exact k.busReply _ _ _ (k.setStation _ h)
    · exact k.beginReset _ h
    · exact k.beginReset _ h

theorem KeptByUpdates.stationQuery (via : Via) : Keeps I (stationQuery via) := fun _ h => by
  unfold Machine.stationQuery
  split
  · exact h
  · exact k.bus (.of_eq rfl rfl rfl rfl) h

theorem KeptByUpdates.stationClockRetry (via : Via) : Keeps I (stationClockRetry via) := fun _ h => by
  unfold Machine.stationClockRetry
  split
  · exact h
  · exact h
  · exact h
  next failed => exact k.clock ⟨by simp [failed, Clock.fresh], fun _ _ => .inl rfl⟩ h

omit k in
theorem KeptByRows.ends (k : KeptByRows I) {s t : State} (ended : ends s = .next t) (h : I s) : I t := by
  obtain ⟨-, rfl⟩ | ⟨-, rfl⟩ := ends_cases ended
  · exact h
  · exact k.beginReset _ h

omit k in
/-- R186: a row that is carried out by a part that is not held in reset. -/
theorem whenAwake_keeps (k : KeptByRows I) {s t : State} {f : State → State} (each : ∀ {s}, I s → I (f s))
    (next : s.whenAwake f = .next t) (h : I s) : I t := by
  by_cases awake : s.resetHeld = []
  · rw [State.whenAwake_awake awake] at next
    exact k.ends next (each h)
  · rw [State.whenAwake_held awake] at next
    cases next
    exact h

end

/-! ### The command path (R154 to R160) -/

section

variable {I : State → Prop} (k : KeptByRows I)
include k

theorem KeptByRows.runCommand (via : Via) (c : CommandName) (i : Nat) (a : List Byte) :
    Keeps I (runCommand via c i a) := by
  unfold Machine.runCommand
  cases c
  case coast => exact .atPort (fun p => k.motorCoast p) i
  case brake => exact .atPort (fun p => k.motorBrake p) i
  case setPower => exact .atPort (fun p => k.motorSetPower _ p) i
  case setSpeed => exact .atPort (fun p => k.motorSetSpeed _ p) i
  case setPosition => exact .atPort (fun p => k.motorSetPosition _ p) i
  case moveBy => exact .atPort (fun p => k.motorMoveBy _ p) i
  case setPattern => exact .atPort (fun p => k.motorSetPattern _ _ _ p) i
  case setPresets => exact .atPort (fun p => k.motorSetPresets _ _ p) i
  case setRamp => exact .atPort (fun p => k.motorSetRamp _ _ p) i
  case setGains => exact .atPort (fun p => k.motorSetGains _ _ _ p) i
  case setLimits => exact .atPort (fun p => k.motorSetLimits _ _ _ _ p) i
  case setSafeAction => exact .atPort (fun p => k.motorSetSafeAction _ p) i
  case setArrival => exact .atPort (fun p => k.motorSetArrival _ p) i
  case zeroPosition => exact .atPort (fun p => k.motorZeroPosition _ p) i
  case queryPort => exact .atPort (fun p => motorQueryPort_keeps p) i
  case setFilter => exact .atSensor (fun p => sensorTaken_keeps fun _ _ h => k.setSensor _ _ h) i
  case setThresholds => exact .atSensor (fun p => sensorTaken_keeps fun _ _ h => k.setSensor _ _ h) i
  case setPolarity => exact .atSensor (fun p => k.sensorSetPolarity _ p) i
  case tune => exact .atSensor (fun p => k.sensorTune _ p) i
  case setTuneRetry => exact .atSensor (fun p => sensorTaken_keeps fun _ _ h => k.setSensor _ _ h) i
  case setHaltInput => exact .atSensor (fun p => k.sensorSetHaltInput _ p) i
  case querySensor => exact .atSensor (fun p => sensorTaken_keeps fun _ _ h => h) i
  case note => exact .atVoice (fun v => k.voiceNote _ v) i
  case clearVoice => exact .atVoice (fun v => k.voiceClear v) i
  case setEnvelope => exact .atVoice (fun v => k.voiceSetEnvelope _ _ v) i
  case setVoiceScale => exact .atVoice (fun v => k.voiceSetScale _ v) i
  case setMasterVolume => exact .atVoice (fun v => k.voiceSetMaster _ v) i
  case queryVoice => exact .atVoice (fun v _ h => h) i
  case setPublish => exact .atSixteen (fun n => k.signalSetPublish _ _ _ n) i
  case querySignal => exact .atSixteen (fun n _ h => h) i
  case setEntryRoute => exact .atSixteen (fun n => k.listenSetRoute _ _ _ _ n) i
  case setEntryTransform => exact .atSixteen (fun n => k.listenSetTransform _ _ n) i
  case setEntryClamp => exact .atSixteen (fun n => k.listenSetClamp _ _ n) i
  case setEntryStale => exact .atSixteen (fun n => k.listenSetStale _ _ _ n) i
  case setEntryTrigger => exact .atSixteen (fun n => k.listenSetTrigger _ n) i
  case enable => exact .atSixteen (fun n => k.listenEnable n) i
  case disable => exact .atSixteen (fun n => k.listenDisable n) i
  case free => exact .atSixteen (fun n => k.listenFree n) i
  case queryEntry => exact .atSixteen (fun n _ h => h) i
  case stage => exact .atGroup (fun g => k.stagingStage _ _ _ _ g) i
  case cancelGroup => exact .atGroup (fun g => k.stagingCancel g) i
  case go => exact .atGroup (fun g => k.stagingGo g) i
  case halt => exact .atStation k.haltHalt i
  case resume => exact .atStation k.haltResume i
  case restart => exact .atStation (k.stationRestart via) i
  case queryStation => exact .atStation (k.stationQuery via) i
  case clockRetry => exact .atStation (k.stationClockRetry via) i

theorem KeptByRows.carryOut {s : State} (via : Via) (b i c : Nat) (a : List Byte) (h : I s) :
    I (carryOut via b i c a s) := by
  refine k.answered via ?_
  unfold pathTaken
  split
  · exact h
  · exact k.runCommand via _ i a s h

theorem KeptByRows.goApplied {s : State} (g : Nat) (h : I s) : I (goApplied g s) :=
  ite_keeps (fun _ => foldl_keeps (f := applyStaged) (fun _ => k.carryOut _ _ _ _ _) _
    (k.staging (.of_sublist List.filter_sublist) (k.clearStageMiss h))) fun _ => h

end

/-! ### The tablet link (R166 to R178) -/

section

variable {I : State → Prop} (k : KeptByUpdates I)
include k

theorem KeptByUpdates.markBad {s : State} (h : I s) : I (markBad s) := k.setLink rfl rfl h

theorem KeptByUpdates.removeHead {s : State} (l : Fin 4) (h : I s) : I (removeHead l s) := by
  have removed : I (s.setLane l { s.lane l with inbound := (s.lane l).inbound.tail }) :=
    k.setLane (fun room => by dsimp only; rw [List.length_tail]; omega) id h
  exact ite_keeps (fun _ => k.statusAsk removed) fun _ => removed

theorem KeptByUpdates.releaseLane {s : State} (l : Fin 4) (h : I s) : I (releaseLane l s) :=
  k.setLane id (by simp) h

theorem KeptByUpdates.linkStatusRequest {s : State} (h : I s) : I (linkStatusRequest s) :=
  k.setLane id (by simp) (k.statusAsk h)

omit k in
theorem Lane.withMode_lengths (m : LaneMode) (i : Nat) (l : Lane) : (l.withMode m i).inbound = l.inbound
    ∧ (l.withMode m i).outbound.length = l.outbound.length := by
  cases m <;> simp [Lane.withMode]

theorem KeptByUpdates.linkSetLaneMode {s : State} (l m i : Nat) (h : I s) : I (linkSetLaneMode l m i s) := by
  unfold Machine.linkSetLaneMode
  split
  · split
    · exact k.markBad h
    · obtain ⟨inbound, outbound⟩ := Lane.withMode_lengths ‹_› (clampN 10 2550 (10 * i)) (s.lane ⟨l, ‹_›⟩)
      exact k.setLane (by rw [inbound]; exact id) (by rw [outbound]; exact id) h
  · exact k.markBad h

theorem KeptByUpdates.linkPullLane {s : State} (l : Nat) (h : I s) : I (linkPullLane l s) := by
  unfold Machine.linkPullLane
  split
  · exact k.releaseLane _ h
  · exact k.markBad h

theorem KeptByUpdates.takeLinkMessage {s : State} (b : List Byte) (h : I s) : I (takeLinkMessage b s) := by
  unfold Machine.takeLinkMessage
  split
  · exact k.linkStatusRequest h
  · exact k.linkSetLaneMode _ _ _ h
  · exact k.linkPullLane _ h
  · exact k.markBad h

theorem KeptByUpdates.linkWatchAdd {s : State} (st ix : Nat) (h : I s) : I (linkWatchAdd st ix s) := by
  refine ite_keeps (fun _ => h) fun absent => ite_keeps (fun room => ?_) fun _ => k.setLink rfl rfl h
  refine k.link (fun kept => ⟨?_, ?_, kept.lanes⟩) h
  · simpa using room
  · have distinct := kept.distinct
    rw [watchDistinct_iff_pairwise] at *
    rw [List.pairwise_append]
    refine ⟨distinct, List.pairwise_singleton .., fun w mem x last => ?_⟩
    rw [List.mem_singleton] at last
    subst last
    simp only [Bool.not_eq_true, List.any_eq_false] at absent
    have other := absent w mem
    rw [← Bool.not_eq_true] at *
    simp only [WatchPair.is, Bool.and_eq_true, beq_iff_eq] at *
    exact fun same => other ⟨same.1.symm, same.2.symm⟩

theorem KeptByUpdates.linkWatchRemove {s : State} (st ix : Nat) (h : I s) : I (linkWatchRemove st ix s) :=
  k.link (LinkKept.watch_sublist List.filter_sublist) h

theorem KeptByUpdates.linkWatchClear {s : State} (h : I s) : I (linkWatchClear s) :=
  k.link (LinkKept.watch_sublist (List.nil_sublist _)) h

theorem KeptByUpdates.takeWatchMessage {s : State} (b : List Byte) (h : I s) : I (takeWatchMessage b s) := by
  unfold Machine.takeWatchMessage
  split
  · exact k.linkWatchAdd _ _ h
  · exact k.linkWatchRemove _ _ h
  · exact k.linkWatchClear h
  · exact k.markBad h

theorem KeptByUpdates.linkStore {s : State} (tk : Nat) (b : List Byte) (h : I s) : I (linkStore tk b s) :=
  ite_keeps (fun _ => k.markBad h) fun _ =>
    ite_keeps (fun _ => k.tabletReply _ _ _ _ h) fun _ => k.setLink rfl rfl h

omit k in
theorem KeptByRows.takeCommandHead (k : KeptByRows I) {s t : State} {b : List Byte}
    (taken : takeCommandHead b s = some t) (h : I s) : I t := by
  unfold Machine.takeCommandHead at taken
  dsimp only at taken
  have removed := k.removeHead 1 h
  split at taken
  · unfold takeCommand at taken
    split at taken
    · cases taken
      exact k.carryOut _ _ _ _ _ removed
    · split at taken
      · cases taken
        exact k.commandRequest _ _ _ _ removed
      · simp at taken
  · split at taken
    · cases taken
      exact k.linkStore _ _ removed
    · cases taken
      exact k.markBad removed

omit k in
theorem KeptByRows.takeSoundHead (k : KeptByRows I) {s t : State} {b : List Byte}
    (taken : takeSoundHead b s = some t) (h : I s) : I t := by
  unfold Machine.takeSoundHead at taken
  dsimp only at taken
  have removed := k.removeHead 2 h
  split at taken
  · cases taken
    exact k.markBad removed
  · split at taken
    · split at taken
      · simp at taken
      · cases taken
        exact k.carryOut _ _ _ _ _ removed
    · split at taken
      · cases taken
        exact k.commandRequest _ _ _ _ removed
      · simp at taken

omit k in
theorem KeptByRows.takeHead (k : KeptByRows I) {s t : State} {l : Fin 4} {b : List Byte}
    (taken : takeHead l b s = some t) (h : I s) : I t := by
  unfold Machine.takeHead at taken
  split at taken
  · cases taken
    exact k.takeLinkMessage _ (k.removeHead 0 h)
  · exact k.takeCommandHead taken h
  · exact k.takeSoundHead taken h
  · cases taken
    exact k.takeWatchMessage _ (k.removeHead 3 h)

omit k in
theorem KeptByRows.drain (k : KeptByRows I) (l : Fin 4) (fuel : Nat) {s : State} (h : I s) : I (drain l fuel s) := by
  induction fuel generalizing s with
  | zero => exact h
  | succ fuel ih =>
    unfold Machine.drain
    split
    · exact h
    · split
      · exact h
      next taken => exact ih (k.takeHead taken h)

omit k in
theorem KeptByRows.takeHeads (k : KeptByRows I) {s : State} (h : I s) : I (takeHeads s) :=
  k.drain _ _ (k.drain _ _ h)

omit k in
theorem KeptByRows.receiveMessage (k : KeptByRows I) {s : State} (l : Fin 4) (b : List Byte) (h : I s) :
    I (receiveMessage l b s) := by
  have present : I s.linkPresent := k.setLink rfl rfl h
  unfold Machine.receiveMessage
  exact ite_keeps (fun room => k.drain _ _ (k.setLane (fun _ => by simpa using room) id present))
    fun _ => k.setLane id id present

omit k in
theorem dropReleased_length_le (q : List OutSlot) : (dropReleased q).length ≤ q.length := by
  induction q with
  | nil => exact Nat.le_refl _
  | cons x q ih =>
    unfold dropReleased
    split
    · exact Nat.le_succ _
    · exact Nat.succ_le_succ ih

theorem KeptByUpdates.beginMessage {s : State} (l : Fin 4) (m : OutMsg) (h : I s) : I (beginMessage l m s) := by
  have dropped : I (s.setLane l { s.lane l with outbound := dropReleased (s.lane l).outbound }) :=
    k.setLane id (fun room => (dropReleased_length_le _).trans room) h
  have cleared {s : State} (h : I s) : I (clearFlags s) :=
    k.link (fun kept => ⟨kept.watch, kept.distinct, fun l => by simpa using kept.lanes l⟩) h
  exact k.setLink rfl rfl (ite_keeps (fun _ => cleared dropped) fun _ => dropped)

omit k in
theorem KeptByCauses.loseLink (k : KeptByCauses I) {s : State} (h : I s) : I (loseLink s) := by
  have lost : I (s.setLink { s.link with
      present := false, timer := none, lanes := Vector.replicate 4 Lane.fresh, watch := [], watchFull := false,
      badSeen := false }) := by
    refine k.link (fun _ => ⟨Nat.zero_le _, trivial, fun l => ?_⟩) h
    simp [Lane.fresh]
  exact ite_keeps (fun _ => k.giveCause _ _ lost) fun _ => lost

end

end Sys2Proof.Machine
end

section

/-! PROOF. Every command, message and event keeps what `KeptByRows` keeps: the bus station, the clock unit, the
ports' events, and with them every step. -/

namespace Sys2Proof.Machine

/-! ### The bus station -/

section

variable {I : State → Prop} (k : KeptByRows I) {s : State}
include k

theorem KeptByRows.forwardAfter (was : Nat) (h : I s) : I (forwardAfter was s) :=
  ite_keeps (fun _ => k.takeHeads h) fun _ => h

/-- A change of the bus record beside its serial, causes, queue and frame in transmission. -/
theorem KeptByRows.setBus {b : Bus} (serial : b.serial = s.bus.serial) (causes : b.withdrawn = s.bus.withdrawn)
    (queue : b.queue = s.bus.queue) (sending : b.sending = s.bus.sending) (h : I s) : I (s.setBus b) :=
  k.bus (.of_eq serial causes queue sending) h

/-- Frames leave the queue. -/
theorem KeptByRows.queueShrinks {q : List Frame} (sub : q.Sublist s.bus.queue) (h : I s) :
    I (s.setBus { s.bus with queue := q }) :=
  k.bus ⟨rfl, rfl, queueKept_of_sublist sub,
    fun _ quiet => ⟨List.eq_nil_of_sublist_nil (quiet.1 ▸ sub), quiet.2⟩,
    fun _ goes f mem => goes f (sub.subset mem)⟩ h

theorem KeptByRows.busFrameStart (h : I s) :
    I (if s.bus.receiver = .idle ∧ ¬s.isWithdrawn ∧ s.bus.breakSending = none ∧ s.bus.sending = none then
        match s.bus.queue with
        | [] => s
        | f :: rest => s.setBus { s.bus with queue := rest, sending := some f, receiver := .inFrame }
      else s) :=
  ite_keeps (fun start => by
    split
    · exact h
    next f rest queue =>
      have tail : rest.Sublist s.bus.queue := queue ▸ List.sublist_cons_self f rest
      refine k.bus ⟨rfl, rfl, queueKept_of_sublist tail, fun w => ?_, fun _ goes g mem => goes g (tail.subset mem)⟩ h
      exact absurd start.2.1 (by simpa [State.isWithdrawn] using w)) fun _ => h

theorem KeptByRows.queueTimeout (slot : QueueSlot) (h : I s) :
    I (match slot with
      | .queued place =>
        match s.bus.queue[place]? with
        | some f =>
          if f.kind.expires then
            Machine.forwardAfter s.link.forwarded
              (frameDropped .busTimeout f (s.setBus { s.bus with queue := s.bus.queue.eraseIdx place }))
          else s
        | none => s
      | .sending =>
        match s.bus.sending with
        | some f =>
          if f.kind.expires then s.setBus { s.bus with sending := some { f with expired := true } } else s
        | none => s) := by
  split
  · split
    · exact ite_keeps (fun _ => k.forwardAfter _ (k.frameDropped _ _
        (k.queueShrinks (List.eraseIdx_sublist ..) h))) fun _ => h
    · exact h
  · split
    next f sending =>
      refine ite_keeps (fun _ => k.bus ⟨rfl, rfl, id, fun _ quiet => ?_, fun _ => id⟩ h) fun _ => h
      simp [sending] at quiet
    · exact h

theorem KeptByRows.lineFault (h : I s) : I (lineFault s) := by
  have counted : I (s.setBus { s.bus with lineFaults := s.bus.lineFaults + 1 }) := k.setBus rfl rfl rfl rfl h
  exact ite_keeps (fun _ => k.abandonFrame counted) fun _ => k.withdraw _ (by simp) counted

theorem KeptByRows.signalFrame (i : Fin 16) (f : Heard) (h : I s) : I (signalFrame i f s) := by
  unfold Machine.signalFrame
  extract_lets v t
  have offered : I t.1 := k.offerValue _ _ _ h
  clear_value t
  exact afterMisses_keeps (I := I) (t := (_, _)) k.setStageMiss (k.watchHeard _ _ _ offered)

theorem KeptByRows.dispatchFrame (own : Option Frame) (f : Heard) (h : I s) : I (dispatchFrame own f s) := by
  unfold Machine.dispatchFrame
  split
  · exact k.goApplied _ h
  · exact ite_keeps (fun _ => k.carryOut _ _ _ _ _ h) fun _ => h
  · exact ite_keeps (fun _ => k.tell _ _ h) fun _ => h
  iterate 2
    · split
      · split
        · exact k.testPublish _ (k.setSignal _ _ h)
        · exact k.signalFrame _ _ h
      · exact h
  · split
    · exact h
    · exact ite_keeps (fun _ => ite_keeps (fun _ => k.announceRequest h) fun _ =>
        ite_keeps (fun _ => k.withdraw _ (by simp) h) fun _ => h) fun _ => h

theorem KeptByRows.ownCompleted (f : Frame) (h : I s) : I (ownCompleted f s) :=
  k.reportOrigin _ _ (k.bus ⟨rfl, rfl, id, fun _ quiet => ⟨quiet.1, rfl⟩, fun _ => id⟩ h)

theorem KeptByRows.frameCompletion (chars : List Byte) (h : I s) :
    I (if s.bus.receiver = .inFrame ∧ s.bus.breakSending = none then
        match readFrame chars with
        | none => markBusError (setBusReceiver .hunting s)
        | some f =>
          match ownFrame chars (setBusReceiver .hunting s) with
          | some g => Machine.forwardAfter s.link.forwarded
              (Machine.dispatchFrame (some g) f (Machine.ownCompleted g (setBusReceiver .hunting s)))
          | none => Machine.forwardAfter s.link.forwarded (Machine.dispatchFrame none f (setBusReceiver .hunting s))
      else s) := by
  have hunting : I (setBusReceiver .hunting s) := k.setBus rfl rfl rfl rfl h
  refine ite_keeps (fun _ => ?_) fun _ => h
  split
  · exact k.setBus rfl rfl rfl rfl hunting
  · split
    · exact k.forwardAfter _ (k.dispatchFrame _ _ (k.ownCompleted _ hunting))
    · exact k.forwardAfter _ (k.dispatchFrame _ _ hunting)

/-! ### The motor ports' events -/

/-- A change of a port that keeps its mode and its source. -/
theorem KeptByRows.setPort {p : Fin 4} {y : Port} (stays : PortStays s.battery.ceiling (s.port p) y) (h : I s) :
    I (s.setPort p y) := k.port stays.1 stays.2.2 stays.2.1 h

theorem KeptByRows.measureStage (p : Fin 4) (h : I s) : I (measureStage p s) :=
  ite_keeps (fun _ => k.setPort (.of_eq rfl rfl rfl rfl rfl rfl) h) fun _ => h

theorem KeptByRows.currentStage (p : Fin 4) (c : Nat) (h : I s) : I (currentStage p c s) :=
  ite_keeps (fun _ => ite_keeps (fun _ => k.setPort (.of_eq rfl rfl rfl rfl rfl rfl) h)
      fun _ => k.giveCause _ _ (k.setPort (.of_eq rfl rfl rfl rfl rfl rfl) h))
    fun _ => k.setPort (.of_eq rfl rfl rfl rfl rfl rfl) h

omit k in
/-- R8, R12: the duty that a period applies. -/
theorem Port.drive_stays (c : Nat) (x : Port) :
    PortStays c x ((x.clampAcc (effLimit c x)).drive (effLimit c x)) := by
  have clamped {y : Port} {d : Int} (kind : y.kind = x.kind) (mode : y.mode = x.mode) (source : y.source = x.source)
      (illegal : y.illegal = x.illegal) (limit : y.dutyLimit = x.dutyLimit) (driven : x.mode.settled = false)
      (duty : y.duty = clampAbs (effLimit c x) d) : PortStays c x y := by
    refine ⟨⟨kind, by rw [illegal]; exact id, fun _ => ?_, fun _ coast => mode.trans coast⟩, mode, source⟩
    exact Port.dutyOk_clamped (d := d) (mode ▸ driven) (by rw [duty]; unfold effLimit; rw [limit])
  have still {y : Port} (kind : y.kind = x.kind) (mode : y.mode = x.mode) (source : y.source = x.source)
      (illegal : y.illegal = x.illegal) (duty : y.duty = 0) : PortStays c x y :=
    ⟨⟨kind, by rw [illegal]; exact id, fun _ => ⟨by rw [duty]; exact effLimit_nonneg c y, fun _ => duty⟩,
      fun _ coast => mode.trans coast⟩, mode, source⟩
  unfold Port.drive
  cases mode : x.mode <;> simp only [Port.clampAcc, mode]
  · exact still rfl mode.symm rfl rfl rfl
  · exact still rfl mode.symm rfl rfl rfl
  · exact clamped rfl mode.symm rfl rfl rfl (by simp [mode, Mode.settled]) rfl
  all_goals exact clamped rfl mode.symm rfl rfl rfl (by simp [mode, Mode.settled]) rfl

theorem KeptByRows.driveStage (p : Fin 4) (h : I s) : I (driveStage p s) := k.setPort (Port.drive_stays _ _) h

theorem KeptByRows.arrivalStage (p : Fin 4) (h : I s) : I (arrivalStage p s) := by
  unfold Machine.arrivalStage
  refine ite_keeps (fun _ => ?_) fun _ => h
  split
  · exact k.setPort (.of_eq rfl rfl rfl rfl rfl rfl) h
  · exact ite_keeps (fun _ => k.coastPort _ h) fun _ => h
  · exact h

theorem KeptByRows.stalled (p : Fin 4) (h : I s) : I (stalled p s) := by
  unfold Machine.stalled
  dsimp only
  split
  · exact k.giveCause _ _ h
  · refine k.testHalted (k.noteEvents _ _ (k.takePort ?_ (.inl rfl) (fun _ => by simp [Port.ownSource, Mode.settled]) h))
    exact (Port.enter_step fun _ => rfl).trans (.of_eq rfl rfl rfl rfl rfl)

theorem KeptByRows.stallStage (p : Fin 4) (h : I s) : I (stallStage p s) :=
  ite_keeps (fun _ => ite_keeps
      (fun _ => ite_keeps (fun _ => k.setPort (.of_eq rfl rfl rfl rfl rfl rfl) h)
        fun _ => k.stalled _ (k.setPort (.of_eq rfl rfl rfl rfl rfl rfl) h))
      fun _ => k.setPort (.of_eq rfl rfl rfl rfl rfl rfl) h) fun _ => h

theorem KeptByRows.signalStage (p : Fin 4) (h : I s) : I (signalStage p s) := by
  have told := k.updateSignal (speedSignal p) (if (s.port p).kind = .encoded then (s.port p).speed else 0)
    (k.updateSignal (positionSignal p) (if (s.port p).kind = .encoded then clampAbs 32767 (s.port p).position else 0) h)
  exact ite_keeps (fun _ => told) fun _ => k.updateSignal _ _ told

theorem KeptByRows.encoderLost (p : Fin 4) (h : I s) : I (encoderLost p s) := by
  unfold Machine.encoderLost
  have lost : PortStays s.battery.ceiling (s.port p) { s.port p with encoderLost := true, illegal := [] } :=
    ⟨⟨rfl, fun _ => Nat.zero_le _, id, fun _ => id⟩, rfl, rfl⟩
  dsimp only
  split
  iterate 3 exact k.noteEvents _ _ (k.setPort lost h)
  refine k.testHalted (k.noteEvents _ _ (k.takePort ?_ (.inl rfl) (fun _ => by simp [Port.ownSource, Mode.settled]) h))
  exact (lost.1.trans (Port.enter_step fun _ => rfl)).trans (.of_eq rfl rfl rfl rfl rfl)

theorem KeptByRows.encoderIllegalTransition (p : Fin 4) (time : Nat) (h : I s) :
    I (if (s.port p).kind = .encoded then
        match (s.port p).illegal with
        | t :: rest =>
          if (s.port p).illegal.length < 3 then
            s.setPort p { s.port p with illegal := (s.port p).illegal ++ [time] }
          else if time < t + 100000 then Machine.encoderLost p s
          else s.setPort p { s.port p with illegal := rest ++ [time] }
        | [] => s.setPort p { s.port p with illegal := [time] }
      else s) := by
  have recorded {l : List Nat} (room : (s.port p).illegal.length ≤ 3 → l.length ≤ 3) :
      I (s.setPort p { s.port p with illegal := l }) :=
    k.setPort ⟨⟨rfl, room, id, fun _ => id⟩, rfl, rfl⟩ h
  refine ite_keeps (fun _ => ?_) fun _ => h
  split
  next t rest illegal =>
    refine ite_keeps (fun room => recorded fun _ => ?_) fun _ => ite_keeps (fun _ => k.encoderLost _ h) fun _ =>
      recorded fun full => ?_
    · rw [List.length_append, List.length_singleton]
      omega
    · rw [illegal, List.length_cons] at full
      rw [List.length_append, List.length_singleton]
      omega
  · exact recorded fun _ => by simp

theorem KeptByRows.encoderTransition (p : Fin 4) (forward : Bool) (h : I s) :
    I (if (s.port p).kind = .encoded then s.setPort p ((s.port p).count forward) else s) := by
  refine ite_keeps (fun _ => k.setPort ?_ h) fun _ => h
  unfold Port.count
  extract_lets next
  split <;> exact .of_eq rfl rfl rfl rfl rfl rfl

/-! ### The voices' events -/

omit k in
theorem Voice.setEnv_state (x : Voice) : x.state ≠ .idle → x.setEnv.state ≠ .idle := by
  unfold Voice.setEnv
  intro busy
  dsimp only
  split
  · split
    · simp
    · exact busy
  · exact busy
  · split <;> exact busy
  · exact busy
  · exact busy

/-- The times and the envelope of a voice that sounds. -/
theorem KeptByRows.setSounding {v : Fin 3} {x : Voice} (queue : x.queue = (s.voice v).queue)
    (pitch : x.pitchSource = (s.voice v).pitchSource) (volume : x.volumeSource = (s.voice v).volumeSource)
    (busy : (s.voice v).state ≠ .idle) (h : I s) : I (s.setVoice v x.setEnv) := by
  obtain ⟨q, p, l, -⟩ := x.setEnv_keeps
  exact k.voice (.of_eq (q.trans queue) (p.trans pitch) (l.trans volume)
    fun silent => absurd silent (Voice.not_silent busy)) h

omit k in
omit k in
theorem Voice.atNoteEnd_keeps (x : Voice) : x.atNoteEnd.queue = x.queue ∧ x.atNoteEnd.state = x.state
    ∧ x.atNoteEnd.pitchSource = x.pitchSource ∧ x.atNoteEnd.volumeSource = x.volumeSource := by
  unfold Voice.atNoteEnd
  split <;> exact ⟨rfl, rfl, rfl, rfl⟩

omit k in
theorem VoiceState.not_idle_of_sounding {x : VoiceState} (h : x.sounding = true) : x ≠ .idle := by
  rintro rfl
  simp [VoiceState.sounding] at h

theorem KeptByRows.voiceEnds (v : Fin 3) (h : I s) : I (voiceEnds v s) := by
  unfold Machine.voiceEnds
  dsimp only
  have sustains (busy : (s.voice v).state ≠ .idle) : I (if (s.voice v).noteOver then
      if (s.voice v).resting then endSound v s else enterRelease v (s.voice v).releaseLevel s else s) :=
    ite_keeps (fun _ => ite_keeps (fun _ => k.endSound _ h) fun _ => k.enterRelease _ busy h) fun _ => h
  split
  · exact ite_keeps (fun _ => k.endSound _ h) fun _ => h
  next state => exact sustains (by simp [state])
  next state => exact sustains (by simp [state])
  · exact h
  · exact h

theorem KeptByRows.voiceSample (v : Fin 3) (h : I s) : I (voiceSample v s) :=
  ite_keeps (fun sounding => k.voiceEnds _
    (k.setSounding rfl rfl rfl (VoiceState.not_idle_of_sounding sounding) h)) fun _ => h

theorem KeptByRows.noteDurationEnd (v : Fin 3) (h : I s) :
    I (match (s.voice v).sound with
      | some (.note n) =>
        if s.audio.gate = .on ∧ ¬n.rest ∧ ((s.voice v).state = .attack ∨ (s.voice v).state = .sustain) then
          enterRelease v (s.voice v).atNoteEnd.setEnv.releaseLevel (s.setVoice v (s.voice v).atNoteEnd.setEnv)
        else s
      | _ => s) := by
  split
  · refine ite_keeps (fun ended => ?_) fun _ => h
    have busy : (s.voice v).state ≠ .idle := by
      obtain ⟨-, -, e | e⟩ := ended <;> simp [e]
    obtain ⟨queue, state, pitch, volume⟩ := (s.voice v).atNoteEnd_keeps
    refine k.enterRelease _ ?_ (k.setSounding queue pitch volume busy h)
    rw [State.voice_setVoice]
    exact Voice.setEnv_state _ (state ▸ busy)
  · exact h

theorem KeptByRows.restEnd (v : Fin 3) (h : I s) :
    I (if s.audio.gate = .on ∧ (s.voice v).resting ∧ (s.voice v).state = .sustain then
        endSound v (s.setVoice v (s.voice v).atNoteEnd) else s) := by
  obtain ⟨queue, -, pitch, volume⟩ := (s.voice v).atNoteEnd_keeps
  refine ite_keeps (fun rests => k.endSound _ (k.voice (.of_eq queue pitch volume fun silent => ?_) h)) fun _ => h
  exact absurd silent (Voice.not_silent (by simp [rests.2.2]))

theorem KeptByRows.gateStartExpiry (h : I s) :
    I (if s.audio.gate = .starting ∧ s.audio.startTimer.isSome then
        startStopTimer (threeVoices.foldl (fun s v => if (s.voice v).state = .waiting then leaveWaiting v s else s)
          (s.setAudio { s.audio with gate := .on, startTimer := none }))
      else s) :=
  ite_keeps (fun _ => k.startStopTimer (foldl_keeps (fun v h => ite_keeps (fun _ => k.leaveWaiting v h) fun _ => h)
    _ (k.setAudio _ h))) fun _ => h

/-! ### The other events -/

theorem KeptByRows.safeTimerExpiry (h : I s) :
    I (if s.halt.safeTimer.isSome ∧ s.halt.state = .halting then
        fourPorts.foldl (fun s p => if s.halt.settled[p] then s else Machine.coastPort p s)
          (s.setHalt { s.halt with safeTimer := none })
      else s) :=
  ite_keeps (fun _ => foldl_keeps (fun p h => ite_keeps (fun _ => h) fun _ => k.coastPort p h) _
    (k.halt ⟨rfl, rfl, rfl, fun _ => ⟨rfl, rfl⟩⟩ h)) fun _ => h

theorem KeptByRows.watchHoldExpiry (place : Nat) (h : I s) :
    I (match s.link.watch[place]? with
      | some ⟨station, index, .running deferred⟩ =>
        let hold := if deferred then Hold.running false else Hold.stopped
        let t := s.setLink { s.link with watch := s.link.watch.set place ⟨station, index, hold⟩ }
        if h : deferred ∧ index < 16 then
          tell 3 (.telemetry station index (s.signal ⟨index, h.2⟩).value) t
        else t
      | _ => s) := by
  split
  next station index deferred here =>
    obtain ⟨bound, here⟩ := List.getElem?_eq_some_iff.mp here
    have held (hold : Hold) : I (s.setLink { s.link with watch := s.link.watch.set place ⟨station, index, hold⟩ }) := by
      refine k.link (fun kept => ⟨by simpa using kept.watch, ?_, kept.lanes⟩) h
      have distinct := kept.distinct
      rw [watchDistinct_iff_pairwise, List.pairwise_iff_getElem] at *
      intro a b ha hb less
      rw [List.length_set] at ha hb
      have differ := distinct a b ha hb less
      simp only [List.getElem_set]
      split <;> split <;> simp_all [WatchPair.is]
    dsimp only
    split
    · exact k.tell _ _ (held _)
    · exact held _
  · exact h

theorem KeptByRows.storeWriteDone (h : I s) :
    I (match s.link.store with
      | none => s
      | some job => tabletReply s.ownName job.token .done []
          (({ s with record := ⟨recordOf job.bytes, false⟩ } : State).setLink { s.link with store := none })) := by
  split
  · exact h
  next job _ =>
    have stored := k.free s.hot s.sensors s.audio s.signals s.stageMiss s.station ⟨recordOf job.bytes, false⟩
      s.resetHeld h
    exact k.tabletReply _ _ _ _ (k.setLink rfl rfl stored)

theorem KeptByRows.finishReset (kind : ResetKind) (straps mv : Nat) (h : I s) :
    I (finishReset kind straps mv s) :=
  k.batteryTakes _ (k.image kind straps _
    (k.free s.hot s.sensors s.audio s.signals s.stageMiss s.station s.record [] h))

end

end Sys2Proof.Machine
end

section

/-! PROOF. An invariant that `KeptByRows` describes is kept by every step. -/

namespace Sys2Proof.Machine

section

variable {I : State → Prop} (k : KeptByRows I)
include k

/-- A block command, by the path that it came. -/
theorem KeptByRows.blockRow {s t : State} {via : Via} {op : State → Taken} (block : Keeps I op)
    (next : (s.whenAwake fun s => answered via (op s)) = .next t) (h : I s) : I t :=
  whenAwake_keeps k (fun h => k.answered via (block _ h)) next h

theorem KeptByRows.resetEnd {s t : State} (kind : ResetKind) (straps : Fin 16) (mv : Nat)
    (next : execResetEnd kind straps mv s = .next t) (h : I s) : I t := by
  unfold execResetEnd at next
  dsimp only at next
  split at next
  · split at next
    · cases next
      exact k.finishReset _ _ _ h
    · cases next
      exact k.free s.hot s.sensors s.audio s.signals s.stageMiss s.station s.record _ h
  · cases next
    exact h

/-- Every command, message and event keeps the invariant. -/
theorem KeptByRows.exec {s t : State} {c : Instr} (next : exec c s = .next t) (h : I s) : I t := by
  have awake {f : State → State} (next : s.whenAwake f = .next t) (each : ∀ s, I s → I (f s)) : I t :=
    whenAwake_keeps k (fun {s} => each s) next h
  cases c with
  | coast via i => exact k.blockRow (.atPort (fun p => k.motorCoast p) i) next h
  | brake via i => exact k.blockRow (.atPort (fun p => k.motorBrake p) i) next h
  | setPower via i d => exact k.blockRow (.atPort (fun p => k.motorSetPower d p) i) next h
  | setSpeed via i v => exact k.blockRow (.atPort (fun p => k.motorSetSpeed v p) i) next h
  | setPosition via i v => exact k.blockRow (.atPort (fun p => k.motorSetPosition v p) i) next h
  | moveBy via i v => exact k.blockRow (.atPort (fun p => k.motorMoveBy v p) i) next h
  | setPattern via i w ph cy => exact k.blockRow (.atPort (fun p => k.motorSetPattern w ph cy p) i) next h
  | setPresets via i l u => exact k.blockRow (.atPort (fun p => k.motorSetPresets l u p) i) next h
  | setRamp via i st pe => exact k.blockRow (.atPort (fun p => k.motorSetRamp st pe p) i) next h
  | setGains via i g kp ki => exact k.blockRow (.atPort (fun p => k.motorSetGains g kp ki p) i) next h
  | setLimits via i d cu st po => exact k.blockRow (.atPort (fun p => k.motorSetLimits d cu st po p) i) next h
  | setSafeAction via i a => exact k.blockRow (.atPort (fun p => k.motorSetSafeAction a p) i) next h
  | setArrival via i w => exact k.blockRow (.atPort (fun p => k.motorSetArrival w p) i) next h
  | zeroPosition via i v => exact k.blockRow (.atPort (fun p => k.motorZeroPosition v p) i) next h
  | queryPort via i => exact k.blockRow (.atPort (fun p => motorQueryPort_keeps p) i) next h
  | setFilter via i => exact k.blockRow (.atSensor (fun _ => sensorTaken_keeps fun _ _ => k.setSensor _ _) i) next h
  | setThresholds via i =>
    exact k.blockRow (.atSensor (fun _ => sensorTaken_keeps fun _ _ => k.setSensor _ _) i) next h
  | setPolarity via i x => exact k.blockRow (.atSensor (fun p => k.sensorSetPolarity x p) i) next h
  | tune via i x => exact k.blockRow (.atSensor (fun p => k.sensorTune x p) i) next h
  | setTuneRetry via i =>
    exact k.blockRow (.atSensor (fun _ => sensorTaken_keeps fun _ _ => k.setSensor _ _) i) next h
  | setHaltInput via i x => exact k.blockRow (.atSensor (fun p => k.sensorSetHaltInput x p) i) next h
  | querySensor via i => exact k.blockRow (.atSensor (fun _ => sensorTaken_keeps fun _ _ h => h) i) next h
  | note via i a => exact k.blockRow (.atVoice (fun v => k.voiceNote a v) i) next h
  | clearVoice via i => exact k.blockRow (.atVoice (fun v => k.voiceClear v) i) next h
  | setEnvelope via i a r => exact k.blockRow (.atVoice (fun v => k.voiceSetEnvelope a r v) i) next h
  | setVoiceScale via i x => exact k.blockRow (.atVoice (fun v => k.voiceSetScale x v) i) next h
  | setMasterVolume via i x => exact k.blockRow (.atVoice (fun v => k.voiceSetMaster x v) i) next h
  | queryVoice via i => exact k.blockRow (.atVoice (fun _ _ h => h) i) next h
  | setPublish via i a b c => exact k.blockRow (.atSixteen (fun n => k.signalSetPublish a b c n) i) next h
  | querySignal via i => exact k.blockRow (.atSixteen (fun _ _ h => h) i) next h
  | setEntryRoute via i a b c d => exact k.blockRow (.atSixteen (fun n => k.listenSetRoute a b c d n) i) next h
  | setEntryTransform via i a b => exact k.blockRow (.atSixteen (fun n => k.listenSetTransform a b n) i) next h
  | setEntryClamp via i a b => exact k.blockRow (.atSixteen (fun n => k.listenSetClamp a b n) i) next h
  | setEntryStale via i a b c => exact k.blockRow (.atSixteen (fun n => k.listenSetStale a b c n) i) next h
  | setEntryTrigger via i a => exact k.blockRow (.atSixteen (fun n => k.listenSetTrigger a n) i) next h
  | enable via i => exact k.blockRow (.atSixteen (fun n => k.listenEnable n) i) next h
  | disable via i => exact k.blockRow (.atSixteen (fun n => k.listenDisable n) i) next h
  | free via i => exact k.blockRow (.atSixteen (fun n => k.listenFree n) i) next h
  | queryEntry via i => exact k.blockRow (.atSixteen (fun _ _ h => h) i) next h
  | stage via i b w c a => exact k.blockRow (.atGroup (fun g => k.stagingStage b w c a g) i) next h
  | cancelGroup via i => exact k.blockRow (.atGroup (fun g => k.stagingCancel g) i) next h
  | go via i => exact k.blockRow (.atGroup (fun g => k.stagingGo g) i) next h
  | halt via i => exact k.blockRow (.atStation k.haltHalt i) next h
  | resume via i => exact k.blockRow (.atStation k.haltResume i) next h
  | restart via i => exact k.blockRow (.atStation (k.stationRestart via) i) next h
  | queryStation via i => exact k.blockRow (.atStation (k.stationQuery via) i) next h
  | clockRetry via i => exact k.blockRow (.atStation (k.stationClockRetry via) i) next h
  | statusRequest =>
    replace next : execStatusRequest s = .next t := next
    unfold execStatusRequest at next
    exact awake next fun _ => k.linkStatusRequest
  | setLaneMode lane mode interval =>
    replace next : execSetLaneMode lane mode interval s = .next t := next
    unfold execSetLaneMode at next
    exact awake next fun _ => (k.linkSetLaneMode _ _ _)
  | pullLane lane =>
    replace next : execPullLane lane s = .next t := next
    unfold execPullLane at next
    exact awake next fun _ => (k.linkPullLane _)
  | storeStartRecord token bytes =>
    replace next : execStoreStartRecord token bytes s = .next t := next
    unfold execStoreStartRecord at next
    exact awake next fun _ => (k.linkStore _ _)
  | watchAdd station index =>
    replace next : execWatchAdd station index s = .next t := next
    unfold execWatchAdd at next
    exact awake next fun _ => (k.linkWatchAdd _ _)
  | watchRemove station index =>
    replace next : execWatchRemove station index s = .next t := next
    unfold execWatchRemove at next
    exact awake next fun _ => (k.linkWatchRemove _ _)
  | watchClear =>
    replace next : execWatchClear s = .next t := next
    unfold execWatchClear at next
    exact awake next fun _ => k.linkWatchClear
  | tabletMessageValid chars =>
    replace next : execTabletMessageValid chars s = .next t := next
    unfold execTabletMessageValid at next
    refine awake next fun s h => ite_keeps (fun _ => h) fun _ => ?_
    split
    · exact k.receiveMessage _ _ (k.setLink rfl rfl h)
    · exact k.setLink rfl rfl (k.markBad h)
  | tabletMessageBad why =>
    replace next : execTabletMessageBad why s = .next t := next
    unfold execTabletMessageBad at next
    exact awake next fun _ h => ite_keeps (fun _ => h) fun _ => k.setLink rfl rfl (k.markBad h)
  | tabletRxQuietGap midMessage =>
    replace next : execTabletRxQuietGap midMessage s = .next t := next
    unfold execTabletRxQuietGap at next
    refine awake next fun s h => ?_
    split
    · exact k.setLink rfl rfl h
    · exact ite_keeps (fun _ => k.markBad h) fun _ => h
    · exact k.setLink rfl rfl (k.markBad h)
  | forwardWaitingHead =>
    replace next : execForwardWaitingHead s = .next t := next
    unfold execForwardWaitingHead at next
    exact awake next fun _ => k.takeHeads
  | soundLaneNoteRelease =>
    replace next : execSoundLaneNoteRelease s = .next t := next
    unfold execSoundLaneNoteRelease at next
    exact awake next fun _ => (k.drain _ _)
  | storeWriteDone =>
    replace next : execStoreWriteDone s = .next t := next
    unfold execStoreWriteDone at next
    exact awake next fun _ => k.storeWriteDone
  | uartMessageStart =>
    replace next : execUartMessageStart s = .next t := next
    unfold execUartMessageStart at next
    refine awake next fun s h => ite_keeps (fun _ => h) fun _ => ?_
    split
    · exact k.beginMessage _ _ h
    · exact h
  | uartMessageSent =>
    replace next : execUartMessageSent s = .next t := next
    unfold execUartMessageSent at next
    exact awake next fun _ h => ite_keeps (fun _ => k.beginReset _ (k.setLink rfl rfl h)) fun _ => k.setLink rfl rfl h
  | laneIntervalExpiry lane =>
    replace next : execLaneIntervalExpiry lane s = .next t := next
    unfold execLaneIntervalExpiry at next
    exact awake next fun _ h => ite_keeps (fun _ => k.setLane id id (k.releaseLane _ h)) fun _ => h
  | watchHoldExpiry place =>
    replace next : execWatchHoldExpiry place s = .next t := next
    unfold execWatchHoldExpiry at next
    exact awake next fun _ => (k.watchHoldExpiry _)
  | linkTimeout =>
    replace next : execLinkTimeout s = .next t := next
    unfold execLinkTimeout at next
    exact awake next fun _ h => ite_keeps (fun _ => k.loseLink h) fun _ => h
  | regulationPeriod port current =>
    replace next : execRegulationPeriod port current s = .next t := next
    unfold execRegulationPeriod at next
    exact awake next fun _ h => ite_keeps (fun _ => h) fun _ => k.signalStage _ (k.stallStage _ (k.arrivalStage _
      (k.driveStage _ (k.currentStage _ _ (k.measureStage _ h)))))
  | encoderTransition port forward =>
    replace next : execEncoderTransition port forward s = .next t := next
    unfold execEncoderTransition at next
    exact awake next fun _ => (k.encoderTransition _ _)
  | encoderIllegalTransition port at_ =>
    replace next : execEncoderIllegalTransition port at_ s = .next t := next
    unfold execEncoderIllegalTransition at next
    exact awake next fun _ => (k.encoderIllegalTransition _ _)
  | temperatureSample celsius =>
    replace next : execTemperatureSample celsius s = .next t := next
    unfold execTemperatureSample at next
    have cooled (x : Bool) {s : State} (h : I s) : I { s with hot := x } :=
      k.free x s.sensors s.audio s.signals s.stageMiss s.station s.record s.resetHeld h
    exact awake next fun _ h => ite_keeps (fun _ => ite_keeps (fun _ => cooled false h) fun _ => h) fun _ =>
      ite_keeps (fun _ => k.giveCause _ _ (cooled true h)) fun _ => h
  | profileStep port =>
    replace next : execProfileStep port s = .next t := next
    unfold execProfileStep at next
    exact awake next fun _ h => ite_keeps (fun _ => k.noteEvents _ _ (k.setPort (Port.profileStep_stays _ _) h))
      fun _ => h
  | sensorSample port raw =>
    replace next : execSensorSample port raw s = .next t := next
    unfold execSensorSample at next
    exact awake next fun _ => (k.sensorSample _ _)
  | freezeTimeout port =>
    replace next : execFreezeTimeout port s = .next t := next
    unfold execFreezeTimeout at next
    exact awake next fun _ h => ite_keeps (fun _ => k.updateSignal _ _ (k.setSensor _ _ h)) fun _ => h
  | tuneRetryExpiry port =>
    replace next : execTuneRetryExpiry port s = .next t := next
    unfold execTuneRetryExpiry at next
    exact awake next fun _ h => ite_keeps (fun _ => k.startTune _ h) fun _ => h
  | batteryReading millivolts =>
    replace next : execBatteryReading millivolts s = .next t := next
    unfold execBatteryReading at next
    exact awake next fun _ => (k.batteryTakes _)
  | audioSample =>
    replace next : execAudioSample s = .next t := next
    unfold execAudioSample at next
    exact awake next fun _ h => ite_keeps (fun _ => k.setAudio _ (foldl_keeps (fun v => k.voiceSample v) _ h))
      fun _ => h
  | attackEnd voice =>
    replace next : execAttackEnd voice s = .next t := next
    unfold execAttackEnd at next
    exact awake next fun _ h => ite_keeps (fun ended => k.setSounding rfl rfl rfl (by simp [ended.2]) h) fun _ => h
  | noteDurationEnd voice =>
    replace next : execNoteDurationEnd voice s = .next t := next
    unfold execNoteDurationEnd at next
    exact awake next fun _ => (k.noteDurationEnd _)
  | releaseEnd voice =>
    replace next : execReleaseEnd voice s = .next t := next
    unfold execReleaseEnd at next
    exact awake next fun _ h => ite_keeps (fun ended => k.endSound _ (k.setSounding rfl rfl rfl (by simp [ended.2]) h))
      fun _ => h
  | restEnd voice =>
    replace next : execRestEnd voice s = .next t := next
    unfold execRestEnd at next
    exact awake next fun _ => (k.restEnd _)
  | gateStartExpiry =>
    replace next : execGateStartExpiry s = .next t := next
    unfold execGateStartExpiry at next
    exact awake next fun _ => k.gateStartExpiry
  | gateStopExpiry =>
    replace next : execGateStopExpiry s = .next t := next
    unfold execGateStopExpiry at next
    exact awake next fun _ h => ite_keeps (fun _ => k.setAudio _ h) fun _ => h
  | publishIntervalExpiry signal =>
    replace next : execPublishIntervalExpiry signal s = .next t := next
    unfold execPublishIntervalExpiry at next
    exact awake next fun _ h => ite_keeps (fun _ => k.publishRequest _ (k.setSignal _ _ h)) fun _ => h
  | ageTimerExpiry entry =>
    replace next : execAgeTimerExpiry entry s = .next t := next
    unfold execAgeTimerExpiry at next
    exact awake next fun _ => (k.ageTimerExpiry _)
  | safeTimerExpiry =>
    replace next : execSafeTimerExpiry s = .next t := next
    unfold execSafeTimerExpiry at next
    exact awake next fun _ => k.safeTimerExpiry
  | busLineIdle =>
    replace next : execBusLineIdle s = .next t := next
    unfold execBusLineIdle at next
    refine awake next fun s h => ite_keeps (fun _ => h) fun _ => ?_
    split
    · exact k.setBus rfl rfl rfl rfl h
    · exact k.setBus rfl rfl rfl rfl h
    · exact k.setBus rfl rfl rfl rfl (k.setBus rfl rfl rfl rfl h)
  | busFrameStart =>
    replace next : execBusFrameStart s = .next t := next
    unfold execBusFrameStart at next
    exact awake next fun _ => k.busFrameStart
  | announcePendingJoin =>
    replace next : execAnnouncePendingJoin s = .next t := next
    unfold execAnnouncePendingJoin at next
    exact awake next fun _ h => ite_keeps (fun _ => k.announceRequest (k.setBus rfl rfl rfl rfl h)) fun _ => h
  | queueTimeout slot =>
    replace next : execQueueTimeout slot s = .next t := next
    unfold execQueueTimeout at next
    exact awake next fun _ => (k.queueTimeout _)
  | arbitrationLost =>
    replace next : execArbitrationLost s = .next t := next
    unfold execArbitrationLost at next
    exact awake next fun _ h => ite_keeps (fun _ => k.forwardAfter _ (k.abandonFrame h)) fun _ => h
  | lineFault =>
    replace next : execLineFault s = .next t := next
    unfold execLineFault at next
    exact awake next fun _ h => ite_keeps (fun _ => k.forwardAfter _ (k.lineFault h)) fun _ => h
  | frameReceptionError why =>
    replace next : execFrameReceptionError why s = .next t := next
    unfold execFrameReceptionError at next
    refine awake next fun s h => ite_keeps (fun _ => ?_) fun _ => h
    cases why
    case earlyGap => exact k.setBus rfl rfl rfl rfl (k.setBus rfl rfl rfl rfl h)
    all_goals exact k.setBus rfl rfl rfl rfl h
  | frameCompletion chars =>
    replace next : execFrameCompletion chars s = .next t := next
    unfold execFrameCompletion at next
    exact awake next fun _ => (k.frameCompletion _)
  | breakDetected =>
    replace next : execBreakDetected s = .next t := next
    unfold execBreakDetected at next
    exact awake next fun _ h => ite_keeps (fun _ => k.giveCause _ _ (k.setBus rfl rfl rfl rfl h)) fun _ => h
  | breakEnd =>
    replace next : execBreakEnd s = .next t := next
    unfold execBreakEnd at next
    exact awake next fun _ h => ite_keeps (fun _ => k.setBus rfl rfl rfl rfl h) fun _ => h
  | crystalDetected =>
    replace next : execCrystalDetected s = .next t := next
    unfold execCrystalDetected at next
    exact awake next fun _ h => ite_keeps (fun starting => k.clock ⟨Iff.rfl, fun kept => kept⟩ h) fun _ => h
  | clockStartTimerExpiry =>
    replace next : execClockStartTimerExpiry s = .next t := next
    unfold execClockStartTimerExpiry at next
    exact awake next fun _ h => ite_keeps (fun starting => k.startFailed (.inl starting.1) h) fun _ => h
  | pllLock =>
    replace next : execPllLock s = .next t := next
    unfold execPllLock at next
    exact awake next fun _ h => ite_keeps (fun starting => k.clock ⟨by simp [starting.1], fun _ _ => .inr rfl⟩ h)
      fun _ => h
  | switchComplete =>
    replace next : execSwitchComplete s = .next t := next
    unfold execSwitchComplete at next
    exact awake next fun _ h => ite_keeps (fun switching => k.switched switching h) fun _ => h
  | switchAbandoned =>
    replace next : execSwitchAbandoned s = .next t := next
    unfold execSwitchAbandoned at next
    exact awake next fun _ h => ite_keeps (fun switching => k.startFailed (.inr switching) h) fun _ => h
  | edgeMonitorExpiry =>
    replace next : execEdgeMonitorExpiry s = .next t := next
    unfold execEdgeMonitorExpiry at next
    exact awake next fun _ h => ite_keeps (fun on => k.forwardAfter _ (k.clockFailed on.1 h)) fun _ => h
  | pllLockLost =>
    replace next : execPllLockLost s = .next t := next
    unfold execPllLockLost at next
    exact awake next fun _ h => ite_keeps (fun on => k.forwardAfter _ (k.clockFailed on h)) fun _ => h
  | powerOnReset => cases next; exact k.beginReset _ h
  | resetPin => cases next; exact k.beginReset _ h
  | restartReset =>
    replace next : execRestartReset s = .next t := next
    unfold execRestartReset at next
    exact awake next fun _ h => ite_keeps (fun _ => k.beginReset _ h) fun _ => h
  | resetEnd kind straps mv => exact k.resetEnd kind straps mv next h
  | busStartEdge =>
    replace next : execBusStartEdge s = .next t := next
    unfold execBusStartEdge at next
    exact awake next fun _ h => ite_keeps (fun _ => k.setBus rfl rfl rfl rfl h) fun _ => h
  | tabletRxStrayCharacter framing =>
    replace next : execTabletRxStrayCharacter framing s = .next t := next
    unfold execTabletRxStrayCharacter at next
    refine awake next fun s h => ?_
    split
    · exact ite_keeps (fun _ => k.markBad h) fun _ => h
    · exact k.setLink rfl rfl (k.markBad h)
    · exact ite_keeps (fun _ => k.setLink rfl rfl (k.markBad h)) fun _ => h

/-- A step keeps an invariant that does not look at the queue of waiting commands. -/
theorem KeptByRows.step (unqueued : ∀ (s : State) q, I s → I { s with pending := q }) {s t : State}
    (next : step s = .next t) (h : I s) : I t := by
  unfold Machine.step at next
  split at next
  · cases next
    exact h
  · exact k.exec next (unqueued s _ h)

end

end Sys2Proof.Machine
end

section

/-! PROOF. An invariant that does not look at a record is kept by what changes that record among others: a halt
entry, a binding, a lowered ceiling, a withdrawal, the changes of the clock unit. -/

namespace Sys2Proof.Machine

/-! ### Records an invariant does not look at -/

/-- `I` does not look at the halt record. -/
def IgnoresHalt (I : State → Prop) : Prop := ∀ s h, I s → I (s.setHalt h)

/-- `I` does not look at the battery monitor. -/
def IgnoresBattery (I : State → Prop) : Prop := ∀ s b, I s → I { s with battery := b }

/-- `I` does not look at the clock unit. -/
def IgnoresClock (I : State → Prop) : Prop := ∀ s c, I s → I (s.setClock c)

/-- `I` does not look at the withdrawn causes, but as it looks at a queue that is empty. -/
def IgnoresCauses (I : State → Prop) : Prop := ∀ s w, I s → I (s.setBus { s.bus with withdrawn := w })

/-- `I` looks neither at the listen table nor at the sources of the ports and the voices. -/
structure IgnoresSources (I : State → Prop) : Prop where
  entry : ∀ s n e, I s → I (s.setEntry n e)
  port : ∀ s p src, I s → I (s.setPort p { s.port p with source := src })
  pitch : ∀ s v src, I s → I (s.setVoice v { s.voice v with pitchSource := src })
  volume : ∀ s v src, I s → I (s.setVoice v { s.voice v with volumeSource := src })

/-! ### Two writes of one record -/

@[simp] theorem State.setPort_setPort (s : State) (p : Fin 4) (x y : Port) :
    (s.setPort p x).setPort p y = s.setPort p y := by simp [State.setPort]

@[simp] theorem State.setVoice_setVoice (s : State) (v : Fin 3) (x y : Voice) :
    (s.setVoice v x).setVoice v y = s.setVoice v y := by simp [State.setVoice]

@[simp] theorem State.setEntry_setEntry (s : State) (n : Fin 16) (x y : Entry) :
    (s.setEntry n x).setEntry n y = s.setEntry n y := by simp [State.setEntry]

theorem putPort_setPort (s : State) (p : Fin 4) (x y : Port) : putPort p y (s.setPort p x) = putPort p y s := by
  simp [putPort]

/-! ### A binding -/

/-- R19: a port on a bind request. -/
def Port.boundTo (n : Fin 16) (m : Mode) (ceiling : Nat) (x : Port) : Port :=
  let y := { x with source := .listen n, stallYielded := false, patternDone := false }
  if x.mode = m then y
  else
    match m with
    | .power => Port.applyPower ceiling { y.enter .power with target := 0 }
    | .speed => (y.enter .speed).aim (clampAbs 1500 x.speed)
    | _ => (y.enter .position).aim x.position

theorem bindPort_eq (p : Fin 4) (n : Fin 16) (m : Mode) (s : State) :
    bindPort p n m s = noteEvents p (s.port p) (putPort p ((s.port p).boundTo n m s.battery.ceiling) s) := rfl

theorem Port.boundTo_source (n : Fin 16) (m : Mode) (c : Nat) (x : Port) : (x.boundTo n m c).source = .listen n := by
  unfold Port.boundTo
  dsimp only
  split
  · rfl
  · split
    · simp [Port.applyPower]
    · simp [Port.aim]
    · simp [Port.aim]

section

variable {I : State → Prop} (k : KeptByUpdates I) {s : State}
include k

/-! ### The halt record -/

/-- A port's mode changes while the halt record is not looked at. -/
theorem KeptByUpdates.putPort_of_halt (halt : IgnoresHalt I) {p : Fin 4} {y : Port}
    (step : PortStep s.battery.ceiling (s.port p) y) (source : SourceStays (s.port p) y) (h : I s) :
    I (putPort p y s) := by
  have moved : I (putPort p y (s.setHalt Halt.fresh)) :=
    k.mode step source (fun halted => by simp [Halt.fresh] at halted) (halt _ _ h)
  have same : (putPort p y (s.setHalt Halt.fresh)).setHalt (putPort p y s).halt = putPort p y s := rfl
  exact same ▸ halt _ _ moved

omit k in
/-- R21, R123: what a port does at halt entry. -/
theorem haltPort_step (c : CauseKind) (at_ : Option CausePort) (p : Fin 4) (n : Nat) (x : Port) :
    PortStep n x (if coastedBy c at_ p then x.enter .coast else x.safe).dropPattern
      ∧ SourceStays x (if coastedBy c at_ p then x.enter .coast else x.safe).dropPattern := by
  have dropped {y : Port} (step : PortStep n x y) (source : y.source = x.source) :
      PortStep n x y.dropPattern ∧ SourceStays x y.dropPattern := by
    unfold Port.dropPattern
    split
    next pattern => exact ⟨step.trans (.of_eq rfl rfl rfl rfl rfl), .inr ⟨source ▸ pattern, rfl⟩⟩
    · exact ⟨step, .inl source⟩
  split
  · exact dropped (Port.enter_step fun _ => rfl) (x.enter_source _)
  · exact dropped (x.safe_step n) x.safe_keeps.1

theorem KeptByUpdates.haltBreak (c : CauseKind) (h : I s) : I (haltBreak c s) :=
  ite_keeps (fun _ => k.startBreak h) fun _ => h

theorem KeptByUpdates.silenceVoice (v : Fin 3) (h : I s) : I (silenceVoice v s) :=
  k.becomeIdle v (k.voice ⟨fun _ => Nat.zero_le _, rfl, rfl, fun _ silent => ⟨silent.1, rfl, silent.2.2⟩⟩ h)

theorem KeptByUpdates.silenceAll (h : I s) : I (silenceAll s) := by
  unfold Machine.silenceAll
  exact k.setAudio _ (foldl_keeps (fun v h => k.silenceVoice v h) _ h)

theorem KeptByUpdates.haltStart (halt : IgnoresHalt I) (c : CauseKind) (at_ : Option CausePort) (h : I s) :
    I (Machine.removeGoFrames ((Machine.silenceAll (fourPorts.foldl (haltPort c at_)
      (Machine.haltBreak c (recordFirst c at_ s)))).setStaging [])) := by
  have broken : I (Machine.haltBreak c (recordFirst c at_ s)) := k.haltBreak c (halt _ _ h)
  have moved := foldl_keeps (f := haltPort c at_) (fun p h => k.putPort_of_halt halt
    (haltPort_step c at_ p _ _).1 (haltPort_step c at_ p 0 _).2 h) fourPorts broken
  exact k.removeGoFrames (k.staging (.of_sublist (List.nil_sublist _)) (k.silenceAll moved))

theorem KeptByUpdates.causes (halt : IgnoresHalt I) : KeptByCauses I :=
  { k with haltStart := fun c at_ _ h => k.haltStart halt c at_ h }

/-! ### Sources and bindings -/

/-- A port's mode and source change while sources are not looked at. -/
theorem KeptByUpdates.putPort_of_sources (sources : IgnoresSources I) {p : Fin 4} {y : Port}
    (step : PortStep s.battery.ceiling (s.port p) y) (settled : s.halt.state = .halted → y.mode.settled = true)
    (h : I s) : I (putPort p y s) := by
  rw [← putPort_setPort s p { s.port p with source := y.source } y]
  refine k.mode ?_ (.inl (by simp)) settled (sources.port _ _ _ h)
  rw [State.port_setPort]
  exact (PortStep.of_eq rfl rfl rfl rfl rfl : PortStep _ { s.port p with source := y.source } (s.port p)).trans step

omit k in
omit k in
/-- R19: what a bind request does to a port. -/
theorem Port.boundTo_step {n : Fin 16} {m : Mode} {c : Nat} {x : Port} (kind : x.kind ≠ .none) :
    PortStep c x (x.boundTo n m c) := by
  let y : Port := { x with source := .listen n, stallYielded := false, patternDone := false }
  have bound : PortStep c x y := .of_eq rfl rfl rfl rfl rfl
  have aimed (m : Mode) (t r : Int) (q : Timer) :
      PortStep c x { y.enter m with target := t, reference := r, stepTimer := q } :=
    bound.trans (y.aimed_step (fun none => absurd none kind) t r q)
  unfold Port.boundTo
  dsimp only
  split
  · exact bound
  · split
    · exact (aimed .power 0 _ _).trans (Port.applyPower_step (y.enter_mode _))
    · exact aimed .speed _ _ _
    · exact aimed .position _ _ _

end

end Sys2Proof.Machine
end

section

/-! PROOF. What an invariant needs beside `KeptByUpdates` when it does not look at sources, the battery, the clock
unit or the withdrawn causes. -/

namespace Sys2Proof.Machine

/-- R103: an Enable that no check refuses. -/
theorem enableRefusal_eq_none {n : Fin 16} {e : Entry} {d : Destination} {s : State}
    (h : enableRefusal n e d s = none) :
    (∀ p, d.motorPort = some p → s.isRunning = true ∧ (s.port p).kind ≠ .none)
      ∧ destinationTaken n d s = false := by
  unfold enableRefusal at h
  split at h
  · simp at h
  split at h
  · simp at h
  next running =>
    split at h
    · simp at h
    next kind =>
      split at h
      · simp at h
      split at h
      · simp at h
      next free =>
        refine ⟨fun p motor => ?_, by simpa using free⟩
        rw [motor] at running kind
        exact ⟨by simpa using running, by simpa using kind⟩

section

variable {I : State → Prop} (k : KeptByUpdates I) {s : State}
include k

/-! ### Bindings -/

theorem KeptByUpdates.bind_of_sources (sources : IgnoresSources I) {n : Fin 16} {e e' : Entry} {d : Destination}
    (passed : enableRefusal n e d s = none) (h : I s) : I (bindDestination n d (s.setEntry n e')) := by
  have bound : I (s.setEntry n e') := sources.entry _ _ _ h
  obtain ⟨motor, -⟩ := enableRefusal_eq_none passed
  have port (p : Fin 4) (m : Mode) (drives : d.motorPort = some p) : I (bindPort p n m (s.setEntry n e')) := by
    obtain ⟨running, kind⟩ := motor p drives
    rw [bindPort_eq]
    refine k.noteEvents _ _ (k.putPort_of_sources sources (Port.boundTo_step kind) (fun halted => ?_) bound)
    rw [State.setEntry_halt] at halted
    simp [State.isRunning, halted] at running
  unfold bindDestination
  cases d with
  | motorPower p => exact port p .power rfl
  | motorSpeed p => exact port p .speed rfl
  | motorPosition p => exact port p .position rfl
  | voicePitch v =>
    have named := sources.pitch _ v (.listen n) bound
    refine k.cutNote _ ?_
    have unpitched := k.voice (s := (s.setEntry n e').setVoice v { (s.setEntry n e').voice v with pitchSource := .listen n })
      (v := v) (x := { (s.setEntry n e').voice v with pitchSource := .listen n, boundPitch := none })
      (.of_eq (by simp) (by simp) (by simp) (by simp [Voice.silent])) named
    rwa [State.setVoice_setVoice] at unpitched
  | voiceVolume v => exact sources.volume _ v (.listen n) bound
  | goTrigger => exact bound

theorem KeptByUpdates.releaseDestination_of_sources (sources : IgnoresSources I) (n : Fin 16) (d : Destination)
    (h : I s) : I (releaseDestination n d s) := by
  have port (p : Fin 4) : I (releasePort p n s) := by
    refine ite_keeps (fun _ => k.testHalted (k.putPort_of_sources sources ?_ (fun _ => by simp [Mode.settled]) h))
      fun _ => h
    exact (Port.enter_step fun _ => rfl).trans (.of_eq rfl rfl rfl rfl rfl)
  unfold releaseDestination
  cases d with
  | motorPower p => exact port p
  | motorSpeed p => exact port p
  | motorPosition p => exact port p
  | voicePitch v => exact ite_keeps (fun _ => k.bindingEnded _ (sources.pitch _ v .own h)) fun _ => h
  | voiceVolume v => exact ite_keeps (fun _ => sources.volume _ v .own h) fun _ => h
  | goTrigger => exact h

theorem KeptByUpdates.release_of_sources (sources : IgnoresSources I) (n : Fin 16) (e e' : Entry) (h : I s) :
    I (releaseEntry n e (s.setEntry n e')) := by
  have replaced : I (s.setEntry n e') := sources.entry _ _ _ h
  unfold releaseEntry
  split
  · exact ite_keeps (fun _ => k.releaseDestination_of_sources sources _ _ replaced) fun _ => replaced
  · exact replaced

omit k in
theorem suspendEntry_of_sources (sources : IgnoresSources I) (n : Fin 16) (h : I s) : I (suspendEntry n s) :=
  ite_keeps (fun _ => sources.entry _ _ _ h) fun _ => h

theorem KeptByUpdates.resume_of_sources (sources : IgnoresSources I) (halt : IgnoresHalt I) (x : Halt) (h : I s) :
    I (sixteen.foldl suspendMotorEntry (fourPorts.foldl (fun s p => putPort p (s.port p).resume s) (s.setHalt x))) := by
  refine foldl_keeps (fun n h => ?_) _ (foldl_keeps (f := fun s p => putPort p (s.port p).resume s)
    (fun {s} p h => ?_) _ (halt _ _ h))
  · unfold suspendMotorEntry
    split
    iterate 3 exact suspendEntry_of_sources sources _ h
    exact h
  · have moved : I (putPort p (s.port p).resume (s.setHalt Halt.fresh)) :=
      k.putPort_of_sources sources (Port.resume_step _ _) (fun halted => by simp [Halt.fresh] at halted) (halt _ _ h)
    have same : (putPort p (s.port p).resume (s.setHalt Halt.fresh)).setHalt (putPort p (s.port p).resume s).halt
      = putPort p (s.port p).resume s := rfl
    exact same ▸ halt _ _ moved

/-! ### The battery -/

theorem KeptByUpdates.reclampPorts (was : Nat) (h : I s) : I (reclampPorts was s) := by
  unfold Machine.reclampPorts
  refine ite_keeps (fun _ => ?_) fun _ => h
  suffices all : ∀ (l : List (Fin 4)) (t : State), t.battery = s.battery → I t →
      I (l.foldl (fun s p => s.setPort p ((s.port p).reclamp s.battery.ceiling)) t) from all fourPorts s rfl h
  intro l
  induction l with
  | nil => exact fun _ _ ht => ht
  | cons p l ih =>
    intro t battery ht
    have stays : PortStays t.battery.ceiling (t.port p) ((t.port p).reclamp t.battery.ceiling) :=
      Port.reclamp_stays rfl rfl rfl rfl rfl
    exact ih _ battery (k.port stays.1 stays.2.2 stays.2.1 ht)

/-! ### Withdrawals and the clock unit -/

theorem KeptByUpdates.withdraw_of_causes (causes : IgnoresCauses I) (c : WithdrawnCause) (h : I s) :
    I (withdraw c s) := by
  have joined : I (s.setBus { s.bus with withdrawn := addWithdrawn c s.bus.withdrawn }) := causes _ _ h
  unfold Machine.withdraw
  refine ite_keeps (fun _ => joined) fun _ => k.updateSignal _ _ (foldl_keeps (fun f h => k.frameDropped _ f h) _
    (k.bus ⟨rfl, rfl, fun _ => ⟨Nat.zero_le _, trivial⟩, fun _ quiet => ⟨rfl, quiet.2⟩, fun _ _ f mem => ?_⟩
      (k.dropSending joined)))
  exact absurd mem (by simp)

theorem KeptByUpdates.finishRetry_of_clock (clock : IgnoresClock I) (h : I s) : I (finishRetry s) := by
  unfold finishRetry
  split
  · exact k.answered _ (clock _ _ h)
  · exact h

theorem KeptByUpdates.clearClockCause_of_causes (causes : IgnoresCauses I) (h : I s) : I (clearClockCause s) := by
  have cleared : I (s.setBus { s.bus with withdrawn := s.bus.withdrawn.filter fun d => d != .clock }) := causes _ _ h
  exact ite_keeps (fun _ => k.announceRequest (k.updateSignal _ _ cleared)) fun _ => cleared

theorem KeptByUpdates.switched_of_clock (clock : IgnoresClock I) (causes : IgnoresCauses I) (c : Clock) (h : I s) :
    I (finishRetry (writePll true (Machine.audioClockReady (clearClockCause (s.setClock c))))) :=
  k.finishRetry_of_clock clock (k.updateSignal _ _ (k.audioClockReady (k.clearClockCause_of_causes causes
    (clock _ _ h))))

omit k in
theorem KeptByCauses.startFailed_of_clock (k : KeptByCauses I) (clock : IgnoresClock I) (h : I s) :
    I (startFailed s) := k.finishRetry_of_clock clock (k.giveCause _ _ (clock _ _ h))

omit k in
theorem KeptByCauses.clockFailed_of_clock (k : KeptByCauses I) (clock : IgnoresClock I) (causes : IgnoresCauses I)
    (h : I s) : I (clockFailed s) := by
  have withdrawn := k.withdraw_of_causes causes .clock (k.giveCause .clockLost none (k.dropSending (clock _ s.clock.failed h)))
  exact k.updateSignal _ _ (k.audioClockLost (ite_keeps (fun _ => k.startBreak withdrawn) fun _ => withdrawn))

end

/-- An invariant that looks at none of these records. -/
theorem KeptByUpdates.rows {I : State → Prop} (k : KeptByUpdates I) (sources : IgnoresSources I) (halt : IgnoresHalt I)
    (battery : IgnoresBattery I) (clock : IgnoresClock I) (causes : IgnoresCauses I)
    (image : ∀ {s} (kind straps), I s → I (readImage kind straps s)) : KeptByRows I :=
  { k.causes halt with
    bind := fun _ passed _ h => k.bind_of_sources sources passed h
    release := fun _ h => k.release_of_sources sources _ _ _ h
    ceiling := fun b h => k.reclampPorts _ (battery _ b h)
    resume := fun _ h => k.resume_of_sources sources halt _ h
    withdraw := fun c _ h => k.withdraw_of_causes causes c h
    clockFailed := fun _ h => (k.causes halt).clockFailed_of_clock clock causes h
    startFailed := fun _ h => (k.causes halt).startFailed_of_clock clock h
    switched := fun _ h => k.switched_of_clock clock causes _ h
    image := fun kind straps b h => battery _ b (image kind straps h) }

/-- Two invariants that are kept are kept together. -/
theorem KeptByUpdates.and {I J : State → Prop} (k : KeptByUpdates I) (l : KeptByUpdates J) :
    KeptByUpdates fun s => I s ∧ J s where
  free := fun a b c d e f g x h => ⟨k.free a b c d e f g x h.1, l.free a b c d e f g x h.2⟩
  battery := fun b e h => ⟨k.battery b e h.1, l.battery b e h.2⟩
  port := fun a b c h => ⟨k.port a b c h.1, l.port a b c h.2⟩
  mode := fun a b c h => ⟨k.mode a b c h.1, l.mode a b c h.2⟩
  takePort := fun a b c h => ⟨k.takePort a b c h.1, l.takePort a b c h.2⟩
  voice := fun a h => ⟨k.voice a h.1, l.voice a h.2⟩
  takePitch := fun a b h => ⟨k.takePitch a b h.1, l.takePitch a b h.2⟩
  takeVolume := fun a b h => ⟨k.takeVolume a b h.1, l.takeVolume a b h.2⟩
  entry := fun a h => ⟨k.entry a h.1, l.entry a h.2⟩
  staging := fun a h => ⟨k.staging a h.1, l.staging a h.2⟩
  halt := fun a h => ⟨k.halt a h.1, l.halt a h.2⟩
  halted := fun a b h => ⟨k.halted a b h.1, l.halted a b h.2⟩
  bus := fun a h => ⟨k.bus a h.1, l.bus a h.2⟩
  link := fun a h => ⟨k.link a h.1, l.link a h.2⟩
  clock := fun a h => ⟨k.clock a h.1, l.clock a h.2⟩

end Sys2Proof.Machine
end

section

/-! PROOF. The capacities and orders (O55), the applied duty (O58), and that every command completes (O2). -/

namespace Sys2Proof.Machine

/-! ### Reads after the shared writes -/

theorem State.port_setPort_eq (s : State) (p j : Fin 4) (y : Port) :
    (s.setPort p y).port j = if p = j then y else s.port j := by
  split
  next e => rw [← e, State.port_setPort]
  next e => exact State.port_setPort_ne s y e

theorem State.voice_setVoice_eq (s : State) (v j : Fin 3) (y : Voice) :
    (s.setVoice v y).voice j = if v = j then y else s.voice j := by
  split
  next e => rw [← e, State.voice_setVoice]
  next e => exact State.voice_setVoice_ne s y e

theorem State.entry_setEntry_eq (s : State) (n j : Fin 16) (y : Entry) :
    (s.setEntry n y).entry j = if n = j then y else s.entry j := by
  split
  next e => rw [← e, State.entry_setEntry]
  next e => exact State.entry_setEntry_ne s y e

/-- R106: a suspension writes one entry at most. -/
theorem suspendEntry_eq (n : Fin 16) (s : State) : ∃ e, suspendEntry n s = s.setEntry n e := by
  unfold suspendEntry
  split
  · exact ⟨_, rfl⟩
  · exact ⟨s.entry n, by simp [State.setEntry, State.entry]⟩

theorem suspendSource_eq (src : Source) (s : State) : ∃ entries, suspendSource src s = { s with entries := entries } := by
  unfold suspendSource
  split
  · obtain ⟨e, eq⟩ := suspendEntry_eq ‹_› s
    exact ⟨_, eq⟩
  · exact ⟨s.entries, rfl⟩

theorem suspendVoiceSource_eq (src : VoiceSource) (s : State) :
    ∃ entries, suspendVoiceSource src s = { s with entries := entries } := by
  unfold suspendVoiceSource
  split
  · obtain ⟨e, eq⟩ := suspendEntry_eq ‹_› s
    exact ⟨_, eq⟩
  · exact ⟨s.entries, rfl⟩

/-- R184: the image of a reset is that of one record's fields. -/
theorem readImage_eq (kind : ResetKind) (straps : Nat) (s : State) :
    ∃ f invalid, readImage kind straps s = resetImage f invalid kind s := by
  unfold readImage
  split
  · exact ⟨_, _, rfl⟩
  · exact ⟨_, _, rfl⟩

@[simp] theorem resetImage_port (f : StartFields) (i : Bool) (kind : ResetKind) (s : State) (p : Fin 4) :
    (resetImage f i kind s).port p = Port.fresh f.motorKinds[p] := by
  simp [State.port, resetImage]

@[simp] theorem resetImage_voice (f : StartFields) (i : Bool) (kind : ResetKind) (s : State) (v : Fin 3) :
    (resetImage f i kind s).voice v = Voice.fresh := by
  simp [State.voice, resetImage]

@[simp] theorem resetImage_entry (f : StartFields) (i : Bool) (kind : ResetKind) (s : State) (n : Fin 16) :
    (resetImage f i kind s).entry n = Entry.fresh := by
  simp [State.entry, resetImage]

/-! ### Capacities and orders (O55) -/

/-- The queues and lists of a state within their capacities and in their order. -/
def State.CollectionsKept (s : State) : Prop :=
  queueKept s.bus.queue ∧ stagingKept s.staging ∧ LinkKept s.link
    ∧ (∀ p, (s.port p).illegal.length ≤ 3) ∧ ∀ v, (s.voice v).queue.length ≤ 8

theorem collectionsKept_iff (s : State) : s.CollectionsKept ↔
    s.WithinCapacity ∧ s.QueueOrdered ∧ stagingDistinct s.staging ∧ watchDistinct s.link.watch := by
  constructor
  · rintro ⟨⟨queue, ordered⟩, ⟨staging, distinct⟩, ⟨watch, pairs, lanes⟩, illegal, notes⟩
    exact ⟨⟨queue, staging, watch, illegal, notes, lanes⟩, ordered, distinct, pairs⟩
  · rintro ⟨⟨queue, staging, watch, illegal, notes, lanes⟩, ordered, distinct, pairs⟩
    exact ⟨⟨queue, ordered⟩, ⟨staging, distinct⟩, ⟨watch, pairs, lanes⟩, illegal, notes⟩

/-- A port written within its capacity. -/
theorem State.CollectionsKept.setPort {s : State} {p : Fin 4} {y : Port}
    (illegal : (s.port p).illegal.length ≤ 3 → y.illegal.length ≤ 3) (h : s.CollectionsKept) :
    (s.setPort p y).CollectionsKept := by
  obtain ⟨queue, staging, link, ports, voices⟩ := h
  refine ⟨queue, staging, link, fun j => ?_, voices⟩
  rw [State.port_setPort_eq]
  split
  · exact illegal (ports p)
  · exact ports j

theorem State.CollectionsKept.setVoice {s : State} {v : Fin 3} {x : Voice}
    (notes : (s.voice v).queue.length ≤ 8 → x.queue.length ≤ 8) (h : s.CollectionsKept) :
    (s.setVoice v x).CollectionsKept := by
  obtain ⟨queue, staging, link, ports, voices⟩ := h
  refine ⟨queue, staging, link, ports, fun j => ?_⟩
  rw [State.voice_setVoice_eq]
  split
  · exact notes (voices v)
  · exact voices j

theorem keptByUpdates_collectionsKept : KeptByUpdates State.CollectionsKept where
  free := fun _ _ _ _ _ _ _ _ h => h
  battery := fun _ _ h => h
  port := fun step _ _ h => h.setPort step.illegal
  mode := fun step _ _ h => h.setPort step.illegal
  takePort := fun {s p y} step _ _ h => by
    obtain ⟨entries, eq⟩ := suspendSource_eq (s.port p).source s
    rw [eq]
    exact State.CollectionsKept.setPort (s := { s with entries := entries }) step.illegal h
  voice := fun step h => h.setVoice step.queue
  takePitch := fun {s v x} step _ h => by
    obtain ⟨entries, eq⟩ := suspendVoiceSource_eq (s.voice v).pitchSource (s.setVoice v x)
    rw [eq]
    exact State.CollectionsKept.setVoice (x := x) step.queue h
  takeVolume := fun {s v x} step _ h => by
    obtain ⟨entries, eq⟩ := suspendVoiceSource_eq (s.voice v).volumeSource (s.setVoice v x)
    rw [eq]
    exact State.CollectionsKept.setVoice (x := x) step.queue h
  entry := fun _ h => h
  staging := fun step ⟨queue, staging, rest⟩ => ⟨queue, step.kept staging, rest⟩
  halt := fun _ h => h
  halted := fun _ _ h => h
  bus := fun step ⟨queue, rest⟩ => ⟨step.queue queue, rest⟩
  link := fun step ⟨queue, staging, link, rest⟩ => ⟨queue, staging, step link, rest⟩
  clock := fun _ h => h

theorem resetImage_collectionsKept (f : StartFields) (invalid : Bool) (kind : ResetKind) (s : State) :
    (resetImage f invalid kind s).CollectionsKept := by
  refine ⟨⟨Nat.zero_le _, trivial⟩, ⟨Nat.zero_le _, trivial⟩, ⟨Nat.zero_le _, trivial, fun l => ?_⟩, fun p => ?_,
    fun v => ?_⟩
  · simp [resetImage, Link.fresh, Lane.fresh]
  · simp [Port.fresh]
  · simp [Voice.fresh]

theorem keptByRows_collectionsKept : KeptByRows State.CollectionsKept :=
  keptByUpdates_collectionsKept.rows
    ⟨fun _ _ _ h => h, fun _ _ _ h => h.setPort id, fun _ _ _ h => h.setVoice id, fun _ _ _ h => h.setVoice id⟩
    (fun _ _ h => h) (fun _ _ h => h) (fun _ _ h => h) (fun _ _ h => h) fun {s} kind straps _ => by
      obtain ⟨f, invalid, eq⟩ := readImage_eq kind straps s
      rw [eq]
      exact resetImage_collectionsKept f invalid kind s

/-- Settles O55: the capacities and orders are an invariant that looks at the collections alone. -/
theorem capacityAndOrderKept : Obligations.CapacityAndOrderKept := by
  intro s t capacity ordered staged watched next
  rw [← collectionsKept_iff]
  exact keptByRows_collectionsKept.step (fun _ _ h => h) next
    ((collectionsKept_iff s).mpr ⟨capacity, ordered, staged, watched⟩)

/-! ### The applied duty (O58) -/

theorem dutyBounded_iff (s : State) : s.DutyBounded ↔ ∀ p, (s.port p).DutyOk s.battery.ceiling := Iff.rfl

theorem State.DutyBounded.setPort {s : State} {p : Fin 4} {y : Port}
    (duty : (s.port p).DutyOk s.battery.ceiling → y.DutyOk s.battery.ceiling) (h : s.DutyBounded) :
    (s.setPort p y).DutyBounded := by
  rw [dutyBounded_iff] at *
  intro j
  rw [State.port_setPort_eq]
  split
  · exact duty (h p)
  · exact h j

theorem keptByUpdates_dutyBounded : KeptByUpdates State.DutyBounded where
  free := fun _ _ _ _ _ _ _ _ h => h
  battery := fun b ceiling h p => by
    have := h p
    rw [← ceiling] at this
    exact this
  port := fun step _ _ h => h.setPort step.duty
  mode := fun step _ _ h => h.setPort step.duty
  takePort := fun {s p y} step _ _ h => by
    obtain ⟨entries, eq⟩ := suspendSource_eq (s.port p).source s
    rw [eq]
    exact State.DutyBounded.setPort (s := { s with entries := entries }) step.duty h
  voice := fun _ h => h
  takePitch := fun {s v x} _ _ h => by
    obtain ⟨entries, eq⟩ := suspendVoiceSource_eq (s.voice v).pitchSource (s.setVoice v x)
    rw [eq]
    exact h
  takeVolume := fun {s v x} _ _ h => by
    obtain ⟨entries, eq⟩ := suspendVoiceSource_eq (s.voice v).volumeSource (s.setVoice v x)
    rw [eq]
    exact h
  entry := fun _ h => h
  staging := fun _ h => h
  halt := fun _ h => h
  halted := fun _ _ h => h
  bus := fun _ h => h
  link := fun _ h => h
  clock := fun _ h => h

theorem Mode.settled_eq_not_driven (m : Mode) : m.settled = !m.driven := by cases m <;> rfl

theorem Port.DutyOk.mono {c c' : Nat} {x : Port} (le : c ≤ c') (h : x.DutyOk c) : x.DutyOk c' := by
  obtain ⟨bound, still⟩ := h
  refine ⟨bound.trans ?_, still⟩
  unfold effLimit
  exact_mod_cast min_le_min_left _ le

/-- R12, R63: a port re-clamped under a ceiling that has fallen. -/
theorem Port.DutyOk.reclamp {c : Nat} {x : Port} (c' : Nat) (h : x.DutyOk c) : (x.reclamp c').DutyOk c' := by
  unfold Port.reclamp
  split
  next driven => exact Port.dutyOk_clamped (by simpa [Mode.settled_eq_not_driven] using driven) rfl
  next still =>
    have zero := h.2 (by simpa [Mode.settled_eq_not_driven] using still)
    exact ⟨by rw [zero]; exact effLimit_nonneg _ _, fun _ => zero⟩

/-- R63: every port is re-clamped in its turn. -/
theorem foldl_reclamp (s : State) (c : Nat) (ceiling : s.battery.ceiling = c) (p : Fin 4) :
    (fourPorts.foldl (fun s p => s.setPort p ((s.port p).reclamp s.battery.ceiling)) s).port p
      = (s.port p).reclamp c ∧ (fourPorts.foldl (fun s p => s.setPort p ((s.port p).reclamp s.battery.ceiling)) s)
      = { s with ports := (fourPorts.foldl (fun s p => s.setPort p ((s.port p).reclamp s.battery.ceiling)) s).ports } := by
  subst ceiling
  refine ⟨?_, rfl⟩
  simp only [fourPorts, List.foldl_cons, List.foldl_nil, State.setPort_battery, State.port_setPort_eq]
  fin_cases p <;> simp

theorem resetImage_dutyBounded (f : StartFields) (invalid : Bool) (kind : ResetKind) (s : State) (b : Battery) :
    ({ resetImage f invalid kind s with battery := b } : State).DutyBounded := fun p => by
  have still : (({ resetImage f invalid kind s with battery := b } : State).port p).duty = 0 :=
    congrArg Port.duty (resetImage_port f invalid kind s p)
  rw [still]
  exact ⟨effLimit_nonneg _ _, fun _ => rfl⟩

theorem keptByRows_dutyBounded : KeptByRows State.DutyBounded :=
  have sources : IgnoresSources State.DutyBounded :=
    ⟨fun _ _ _ h => h, fun _ _ _ h => h.setPort id, fun _ _ _ h => h, fun _ _ _ h => h⟩
  have causes := keptByUpdates_dutyBounded.causes fun _ _ h => h
  { causes with
    bind := fun _ passed _ h => causes.bind_of_sources sources passed h
    release := fun _ h => causes.release_of_sources sources _ _ _ h
    ceiling := fun {s} b h => by
      unfold reclampPorts
      split
      · intro p
        obtain ⟨port, rest⟩ := foldl_reclamp { s with battery := b } b.ceiling rfl p
        rw [port, rest]
        exact Port.DutyOk.reclamp b.ceiling (h p)
      next above => exact fun p => Port.DutyOk.mono (Nat.le_of_not_lt above) (h p)
    resume := fun _ h => causes.resume_of_sources sources (fun _ _ h => h) _ h
    withdraw := fun c _ h => causes.withdraw_of_causes (fun _ _ h => h) c h
    clockFailed := fun _ h => causes.clockFailed_of_clock (fun _ _ h => h) (fun _ _ h => h) h
    startFailed := fun _ h => causes.startFailed_of_clock (fun _ _ h => h) h
    switched := fun _ h => causes.switched_of_clock (fun _ _ h => h) (fun _ _ h => h) _ h
    image := fun {s} kind straps b _ => by
      obtain ⟨f, invalid, eq⟩ := readImage_eq kind straps s
      rw [eq]
      exact resetImage_dutyBounded f invalid kind s b }

/-- Settles O58: no change of a port, of its limit or of the ceiling leaves a duty beyond the limit. -/
theorem dutyLimitKept : Obligations.DutyLimitKept := fun _ _ bounded next =>
  keptByRows_dutyBounded.step (fun _ _ h => h) next bounded

end Sys2Proof.Machine
end

section

/-! PROOF. Every command answers a next state, keeps the waiting commands and the serial, and does not reach a part
held in reset (O2). -/

namespace Sys2Proof.Machine

/-! ### The serial and the waiting commands -/

/-- The waiting commands and the factory serial are those given. -/
def State.Identified (q : List Instr) (serial : BitVec 32) (s : State) : Prop :=
  s.pending = q ∧ s.bus.serial = serial

theorem State.Identified.suspendSource {q : List Instr} {n : BitVec 32} {s : State} (src : Source)
    (h : s.Identified q n) : (suspendSource src s).Identified q n := by
  obtain ⟨entries, eq⟩ := suspendSource_eq src s
  rw [eq]
  exact h

theorem State.Identified.suspendVoiceSource {q : List Instr} {n : BitVec 32} {s : State} (src : VoiceSource)
    (h : s.Identified q n) : (suspendVoiceSource src s).Identified q n := by
  obtain ⟨entries, eq⟩ := suspendVoiceSource_eq src s
  rw [eq]
  exact h

theorem keptByUpdates_identified (q : List Instr) (n : BitVec 32) : KeptByUpdates (State.Identified q n) where
  free := fun _ _ _ _ _ _ _ _ h => h
  battery := fun _ _ h => h
  port := fun _ _ _ h => h
  mode := fun _ _ _ h => h
  takePort := fun _ _ _ h => State.Identified.suspendSource _ h
  voice := fun _ h => h
  takePitch := fun {s v x} _ _ h => State.Identified.suspendVoiceSource (s := s.setVoice v x) _ h
  takeVolume := fun {s v x} _ _ h => State.Identified.suspendVoiceSource (s := s.setVoice v x) _ h
  entry := fun _ h => h
  staging := fun _ h => h
  halt := fun _ h => h
  halted := fun _ _ h => h
  bus := fun step h => ⟨h.1, step.serial.trans h.2⟩
  link := fun _ h => h
  clock := fun _ h => h

theorem keptByRows_identified (q : List Instr) (n : BitVec 32) : KeptByRows (State.Identified q n) :=
  (keptByUpdates_identified q n).rows ⟨fun _ _ _ h => h, fun _ _ _ h => h, fun _ _ _ h => h, fun _ _ _ h => h⟩
    (fun _ _ h => h) (fun _ _ h => h) (fun _ _ h => h) (fun _ _ h => h) fun {s} kind straps h => by
      obtain ⟨f, invalid, eq⟩ := readImage_eq kind straps s
      rw [eq]
      exact h

/-! ### Answers -/

theorem whenAwake_next (s : State) (f : State → State) : ∃ t, s.whenAwake f = .next t := by
  unfold State.whenAwake
  split
  · exact ⟨_, rfl⟩
  · exact ⟨_, rfl⟩

/-- R186: every row but those of the resets acts on a part that is awake. -/
theorem exec_eq_whenAwake {c : Instr} (s : State) (on : c ≠ .powerOnReset) (pin : c ≠ .resetPin)
    (hold : ∀ kind straps mv, c ≠ .resetEnd kind straps mv) : ∃ f, exec c s = s.whenAwake f := by
  cases c
  case powerOnReset => exact absurd rfl on
  case resetPin => exact absurd rfl pin
  case resetEnd kind straps mv => exact absurd rfl (hold kind straps mv)
  all_goals
    dsimp only [exec]
    exact ⟨_, rfl⟩

theorem execResetEnd_next (kind : ResetKind) (straps : Fin 16) (mv : Nat) (s : State) :
    ∃ t, execResetEnd kind straps mv s = .next t := by
  unfold execResetEnd
  dsimp only
  split
  · split
    · exact ⟨_, rfl⟩
    · exact ⟨_, rfl⟩
  · exact ⟨_, rfl⟩

theorem exec_next (c : Instr) (s : State) : ∃ t, exec c s = .next t := by
  by_cases on : c = .powerOnReset
  · exact on ▸ ⟨_, rfl⟩
  by_cases pin : c = .resetPin
  · exact pin ▸ ⟨_, rfl⟩
  by_cases hold : ∃ kind straps mv, c = .resetEnd kind straps mv
  · obtain ⟨kind, straps, mv, rfl⟩ := hold
    exact execResetEnd_next kind straps mv s
  · obtain ⟨f, eq⟩ := exec_eq_whenAwake s on pin fun kind straps mv e => hold ⟨kind, straps, mv, e⟩
    rw [eq]
    exact whenAwake_next s f

/-- Settles O2. -/
theorem everyCommandCompletes : Obligations.EveryCommandCompletes := fun c s => by
  obtain ⟨t, next⟩ := exec_next c s
  obtain ⟨pending, serial⟩ := (keptByRows_identified s.pending s.bus.serial).exec next ⟨rfl, rfl⟩
  refine ⟨⟨t, next, pending, serial⟩, fun held on pin hold => ?_⟩
  obtain ⟨f, eq⟩ := exec_eq_whenAwake s on pin hold
  rw [eq, State.whenAwake_held held]

end Sys2Proof.Machine
end

section

/-! PROOF. A halted station stays quiet and at rest, and the halt record is empty exactly while Running (O56). -/

namespace Sys2Proof.Machine

/-! ### Quiet while Halting or Halted -/

theorem State.HaltQuiet.suspendSource {s : State} (src : Source) (h : s.HaltQuiet) :
    (suspendSource src s).HaltQuiet := by
  obtain ⟨entries, eq⟩ := suspendSource_eq src s
  rw [eq]
  exact h

theorem State.HaltQuiet.suspendVoiceSource {s : State} (src : VoiceSource) (h : s.HaltQuiet) :
    (suspendVoiceSource src s).HaltQuiet := by
  obtain ⟨entries, eq⟩ := suspendVoiceSource_eq src s
  rw [eq]
  exact h

theorem State.HaltQuiet.setVoice {s : State} {v : Fin 3} {x : Voice}
    (silent : s.isRunning = false → (s.voice v).silent → x.silent) (h : s.HaltQuiet) : (s.setVoice v x).HaltQuiet := by
  intro halted
  obtain ⟨staging, voices, frames⟩ := h halted
  refine ⟨staging, fun j => ?_, frames⟩
  rw [State.voice_setVoice_eq]
  split
  · exact silent halted (voices v)
  · exact voices j

theorem keptByUpdates_haltQuiet : KeptByUpdates State.HaltQuiet where
  free := fun _ _ _ _ _ _ _ _ h => h
  battery := fun _ _ h => h
  port := fun _ _ _ h => h
  mode := fun _ _ _ h => h
  takePort := fun _ _ _ h => State.HaltQuiet.suspendSource _ h
  voice := fun step h => h.setVoice step.silent
  takePitch := fun {s v x} step _ h => (State.HaltQuiet.setVoice (x := x) step.silent h).suspendVoiceSource _
  takeVolume := fun {s v x} step _ h => (State.HaltQuiet.setVoice (x := x) step.silent h).suspendVoiceSource _
  entry := fun _ h => h
  staging := fun step h halted =>
    have ⟨staging, voices, frames⟩ := h halted
    ⟨step.quiet halted staging, voices, frames⟩
  halt := fun {s x} step h halted => h (by simpa [State.isRunning, step.state] using halted)
  halted := fun halting _ h _ => h (by simp [State.isRunning, halting])
  bus := fun step h halted =>
    have ⟨staging, voices, frames⟩ := h halted
    ⟨staging, voices, step.goes halted frames⟩
  link := fun _ h => h
  clock := fun _ h => h

/-! ### At rest while Halted -/

/-- R119: the port-settled flags tell which ports are in Coast or Brake. -/
def State.FlagsKept (s : State) : Prop := ∀ p : Fin 4, s.halt.settled[p] = (s.port p).mode.settled

/-- R21, R119: a port written with its mode reported. -/
theorem State.FlagsKept.putPort {s : State} {p : Fin 4} (y : Port) (h : s.FlagsKept) :
    (putPort p y s).FlagsKept := by
  intro j
  have port : (Machine.putPort p y s).port j = if p = j then y else s.port j := State.port_setPort_eq s p j y
  have flag : (Machine.putPort p y s).halt.settled[j] = if p = j then y.mode.settled else s.halt.settled[j] := by
    simp [Machine.putPort, settleFlag, Vector.getElem_set, Fin.ext_iff]
  rw [port, flag]
  split
  · rfl
  · exact h j

theorem State.HaltedAtRest.putPort {s : State} {p : Fin 4} {y : Port}
    (settled : s.halt.state = .halted → y.mode.settled = true) (h : s.HaltedAtRest) : (putPort p y s).HaltedAtRest := by
  obtain ⟨flags, rest⟩ := h
  refine ⟨State.FlagsKept.putPort y flags, fun halted j => ?_⟩
  have port : (Machine.putPort p y s).port j = if p = j then y else s.port j := State.port_setPort_eq s p j y
  rw [port]
  split
  · exact settled halted
  · exact rest halted j

theorem State.HaltedAtRest.setPort {s : State} {p : Fin 4} {y : Port} (mode : y.mode = (s.port p).mode)
    (h : s.HaltedAtRest) : (s.setPort p y).HaltedAtRest := by
  have modes (j : Fin 4) : ((s.setPort p y).port j).mode = (s.port j).mode := by
    rw [State.port_setPort_eq]
    split
    next e => rw [mode, e]
    · rfl
  obtain ⟨flags, rest⟩ := h
  exact ⟨fun j => by rw [modes]; exact flags j, fun halted j => by rw [modes]; exact rest halted j⟩

theorem keptByUpdates_haltedAtRest : KeptByUpdates State.HaltedAtRest where
  free := fun _ _ _ _ _ _ _ _ h => h
  battery := fun _ _ h => h
  port := fun _ _ mode h => h.setPort mode
  mode := fun _ _ settled h => h.putPort settled
  takePort := fun {s p y} _ _ settled h => by
    obtain ⟨entries, eq⟩ := suspendSource_eq (s.port p).source s
    rw [eq]
    exact State.HaltedAtRest.putPort (s := { s with entries := entries }) settled h
  voice := fun _ h => h
  takePitch := fun {s v x} _ _ h => by
    obtain ⟨entries, eq⟩ := suspendVoiceSource_eq (s.voice v).pitchSource (s.setVoice v x)
    rw [eq]
    exact h
  takeVolume := fun {s v x} _ _ h => by
    obtain ⟨entries, eq⟩ := suspendVoiceSource_eq (s.voice v).volumeSource (s.setVoice v x)
    rw [eq]
    exact h
  entry := fun _ h => h
  staging := fun _ h => h
  halt := fun {s x} step ⟨flags, rest⟩ =>
    ⟨fun p => by rw [State.setHalt_halt, step.settled]; exact flags p,
      fun halted => rest (step.state.symm.trans halted)⟩
  halted := fun {s} _ settled ⟨flags, _⟩ => by
    refine ⟨flags, fun _ p => ?_⟩
    have flag : s.halt.settled[p] = true := by
      have all := List.all_eq_true.1 settled p (by fin_cases p <;> simp [fourPorts])
      exact all
    exact (flags p).symm.trans flag
  bus := fun _ h => h
  link := fun _ h => h
  clock := fun _ h => h

/-! ### The halt record -/

theorem keptByUpdates_haltRecordKept : KeptByUpdates State.HaltRecordKept where
  free := fun _ _ _ _ _ _ _ _ h => h
  battery := fun _ _ h => h
  port := fun _ _ _ h => h
  mode := fun _ _ _ h => h
  takePort := fun {s p y} _ _ _ h => by
    obtain ⟨entries, eq⟩ := suspendSource_eq (s.port p).source s
    rw [eq]
    exact h
  voice := fun _ h => h
  takePitch := fun {s v x} _ _ h => by
    obtain ⟨entries, eq⟩ := suspendVoiceSource_eq (s.voice v).pitchSource (s.setVoice v x)
    rw [eq]
    exact h
  takeVolume := fun {s v x} _ _ h => by
    obtain ⟨entries, eq⟩ := suspendVoiceSource_eq (s.voice v).volumeSource (s.setVoice v x)
    rw [eq]
    exact h
  entry := fun _ h => h
  staging := fun _ h => h
  halt := fun {s x} step ⟨first, further⟩ => by
    refine ⟨by rw [State.setHalt_halt, step.state, step.first]; exact first, fun running => ?_⟩
    have was : s.halt.state = .running := step.state.symm.trans running
    obtain ⟨port, set⟩ := step.record was
    rw [State.setHalt_halt, port, set]
    exact further was
  halted := fun {s} halting _ ⟨first, _⟩ => by
    have cause : s.halt.first ≠ none := fun none => by simp [first.2 none] at halting
    exact ⟨⟨fun running => by simp at running, fun none => absurd none cause⟩, fun running => by simp at running⟩
  bus := fun _ h => h
  link := fun _ h => h
  clock := fun _ h => h

/-! ### Halt entry -/

theorem reportIdle_voices (v : Fin 3) (s : State) : (reportIdle v s).voices = s.voices := by
  obtain ⟨link, eq⟩ := tell_only 2 (.progress true (v.val + 1) (s.voice v).queue.length) s
  rw [reportIdle, eq, State.setLink_voices]

theorem startStopTimer_voices (s : State) : (startStopTimer s).voices = s.voices := by
  unfold startStopTimer
  split
  · rfl
  · rfl

/-- R72: a voice that becomes Idle leaves the others. -/
theorem becomeIdle_voices (v : Fin 3) (s : State) :
    (becomeIdle v s).voices = (s.setVoice v { (s.voice v).quiet with state := .idle }).voices := by
  unfold becomeIdle
  dsimp only
  split
  · rfl
  · rw [startStopTimer_voices, reportIdle_voices]

theorem silenceVoice_voice (v j : Fin 3) (s : State) :
    (silenceVoice v s).voice j
      = if v = j then { (s.voice v).quiet with queue := [], state := .idle } else s.voice j := by
  have voices := becomeIdle_voices v (s.setVoice v { s.voice v with queue := [] })
  rw [State.setVoice_setVoice, State.voice_setVoice] at voices
  have eq : (silenceVoice v s).voice j
      = (s.setVoice v { (s.voice v).quiet with queue := [], state := .idle }).voice j := congrArg (fun x => x[j]) voices
  rw [eq, State.voice_setVoice_eq]

/-- R81: the silence request silences every voice. -/
theorem silenceAll_silent (s : State) (j : Fin 3) : ((silenceAll s).voice j).silent := by
  simp only [silenceAll, threeVoices, List.foldl_cons, List.foldl_nil, State.voice_setAudio_other, silenceVoice_voice]
  fin_cases j <;> simp [Voice.silent, Voice.quiet]

/-- R121, R123: the ports at halt entry, between the halt record and the silence request. -/
theorem haltPorts_keeps (c : CauseKind) (at_ : Option CausePort) {s : State} (h : s.FlagsKept) :
    (fourPorts.foldl (haltPort c at_) s).FlagsKept ∧ (fourPorts.foldl (haltPort c at_) s).halt.state = s.halt.state
      ∧ (fourPorts.foldl (haltPort c at_) s).halt.first = s.halt.first :=
  foldl_keeps (I := fun t => t.FlagsKept ∧ t.halt.state = s.halt.state ∧ t.halt.first = s.halt.first)
    (f := haltPort c at_) (fun _ h => ⟨h.1.putPort _, h.2⟩) fourPorts ⟨h, rfl, rfl⟩

theorem haltBreak_only (c : CauseKind) (s : State) : OnlyBusLink s (haltBreak c s) := by
  unfold haltBreak
  split
  · exact startBreak_only s
  · exact .refl s

/-! ### Resume -/

theorem suspendMotorEntry_eq (s : State) (n : Fin 16) : ∃ entries, suspendMotorEntry s n = { s with entries := entries } := by
  have suspended : ∃ entries, suspendEntry n s = { s with entries := entries } := by
    obtain ⟨e, eq⟩ := suspendEntry_eq n s
    exact ⟨_, eq⟩
  unfold suspendMotorEntry
  split
  · exact suspended
  · exact suspended
  · exact suspended
  · exact ⟨s.entries, rfl⟩

/-- R130: the first steps of a Resume keep the halt record empty and the flags right. -/
theorem resumed_keeps {s : State} (h : Halt) (flags : (s.setHalt h).FlagsKept) :
    let t := sixteen.foldl suspendMotorEntry (fourPorts.foldl (fun s p => putPort p (s.port p).resume s) (s.setHalt h))
    t.FlagsKept ∧ t.halt.state = h.state ∧ t.halt.first = h.first ∧ t.halt.firstPort = h.firstPort
      ∧ t.halt.further = h.further := by
  let I : State → Prop := fun t => t.FlagsKept ∧ t.halt.state = h.state ∧ t.halt.first = h.first
    ∧ t.halt.firstPort = h.firstPort ∧ t.halt.further = h.further
  have ports : I (fourPorts.foldl (fun s p => putPort p (s.port p).resume s) (s.setHalt h)) :=
    foldl_keeps (I := I) (f := fun s p => putPort p (s.port p).resume s) (fun _ h => ⟨h.1.putPort _, h.2⟩) _
      ⟨flags, rfl, rfl, rfl, rfl⟩
  refine foldl_keeps (I := I) (f := suspendMotorEntry) (fun {s} n h => ?_) sixteen ports
  obtain ⟨entries, eq⟩ := suspendMotorEntry_eq s n
  rw [eq]
  exact h

/-! ### The obligation -/

/-- The promises of the halt controller (R81, R119, R121, R124, R125). -/
def State.HaltKept (s : State) : Prop := (s.HaltQuiet ∧ s.HaltedAtRest) ∧ s.HaltRecordKept

/-- R121, R124: the staging list and the Go frames are emptied at a station whose voices are silent. -/
theorem haltQuiet_emptied {s : State} (silent : ∀ v, (s.voice v).silent) :
    (removeGoFrames (s.setStaging [])).HaltQuiet := fun _ =>
  ⟨rfl, silent, fun f mem => by simpa using (List.mem_filter.1 mem).2⟩

/-- R121: the staging list and the Go frames are no part of the halt record and of the port-settled flags. -/
theorem haltKept_emptied {s : State} (silent : ∀ v, (s.voice v).silent) (flags : s.FlagsKept)
    (state : s.halt.state = .halting) (first : s.halt.first ≠ none) :
    (removeGoFrames (s.setStaging [])).HaltKept :=
  ⟨⟨haltQuiet_emptied silent, flags, fun halted => absurd (state.symm.trans halted) (by simp)⟩,
    ⟨fun running => absurd (state.symm.trans running) (by simp), fun none => absurd none first⟩,
    fun running => absurd (state.symm.trans running) (by simp)⟩

theorem silenceAll_halt (s : State) : (silenceAll s).halt = s.halt := by
  obtain ⟨_, _, _, _, _, _, _, _, eq⟩ := silenceAll_only s
  rw [eq]

theorem resetImage_haltKept (f : StartFields) (invalid : Bool) (kind : ResetKind) (s : State) :
    (resetImage f invalid kind s).HaltKept := by
  refine ⟨⟨fun halted => by simp [State.isRunning, resetImage, Halt.fresh] at halted, fun p => ?_, fun halted => ?_⟩, ?_⟩
  · rw [resetImage_port]
    simp [resetImage, Halt.fresh, Port.fresh, Mode.settled]
  · simp [resetImage, Halt.fresh] at halted
  · exact ⟨⟨fun _ => rfl, fun _ => rfl⟩, fun _ => ⟨rfl, rfl⟩⟩

theorem keptByUpdates_haltKept : KeptByUpdates State.HaltKept :=
  (keptByUpdates_haltQuiet.and keptByUpdates_haltedAtRest).and keptByUpdates_haltRecordKept

theorem keptByCauses_haltKept : KeptByCauses State.HaltKept :=
  { keptByUpdates_haltKept with
    haltStart := fun {s} c at_ _ h => by
      obtain ⟨bus, link, broken⟩ := haltBreak_only c (recordFirst c at_ s)
      have entered : (haltBreak c (recordFirst c at_ s)).FlagsKept := by
        rw [broken]
        exact h.1.2.1
      have halt : (haltBreak c (recordFirst c at_ s)).halt = (recordFirst c at_ s).halt := by rw [broken]; rfl
      obtain ⟨moved, state, first⟩ := haltPorts_keeps c at_ entered
      rw [halt] at state first
      generalize fourPorts.foldl (haltPort c at_) (haltBreak c (recordFirst c at_ s)) = u at moved state first ⊢
      have rest : u.HaltedAtRest := ⟨moved, fun halted => absurd (state.symm.trans halted) (by simp [recordFirst])⟩
      refine haltKept_emptied (silenceAll_silent u) (keptByUpdates_haltedAtRest.silenceAll rest).1 ?_ ?_
      · rw [silenceAll_halt, state]
        rfl
      · rw [silenceAll_halt, first]
        simp [recordFirst] }

theorem keptByRows_haltKept : KeptByRows State.HaltKept :=
  have k := keptByUpdates_haltKept
  have sources : IgnoresSources State.HaltKept :=
    ⟨fun _ _ _ h => h, fun _ _ _ h => ⟨⟨h.1.1, h.1.2.setPort rfl⟩, h.2⟩,
      fun _ _ _ h => ⟨⟨h.1.1.setVoice fun _ silent => silent, h.1.2⟩, h.2⟩,
      fun _ _ _ h => ⟨⟨h.1.1.setVoice fun _ silent => silent, h.1.2⟩, h.2⟩⟩
  { keptByCauses_haltKept with
    bind := fun _ passed _ h => k.bind_of_sources sources passed h
    release := fun _ h => k.release_of_sources sources _ _ _ h
    ceiling := fun {s} b h => k.reclampPorts (s := { s with battery := b }) _ h
    resume := fun {s} _ h => by
      obtain ⟨flags, state, first, port, further⟩ := resumed_keeps (s := s) { s.halt with
        state := .running, first := none, firstPort := none, further := [], safeTimer := none } h.1.2.1
      refine ⟨⟨fun halted => ?_, flags, fun halted => absurd (state.symm.trans halted) (by simp)⟩,
        ⟨fun _ => first, fun _ => state⟩, fun _ => ⟨port, further⟩⟩
      exact absurd state (by simpa [State.isRunning] using halted)
    withdraw := fun c _ h => k.withdraw_of_causes (fun _ _ h => h) c h
    clockFailed := fun _ h => keptByCauses_haltKept.clockFailed_of_clock (fun _ _ h => h) (fun _ _ h => h) h
    startFailed := fun _ h => keptByCauses_haltKept.startFailed_of_clock (fun _ _ h => h) h
    switched := fun _ h => k.switched_of_clock (fun _ _ h => h) (fun _ _ h => h) _ h
    image := fun {s} kind straps b _ => by
      obtain ⟨f, invalid, eq⟩ := readImage_eq kind straps s
      rw [eq]
      exact resetImage_haltKept f invalid kind s }

/-- Settles O56: the three promises are one invariant, kept by every row. -/
theorem haltPromisesKept : Obligations.HaltPromisesKept := fun _ _ quiet rest record next =>
  have ⟨⟨quiet', rest'⟩, record'⟩ := keptByRows_haltKept.step (fun _ _ h => h) next ⟨⟨quiet, rest⟩, record⟩
  ⟨quiet', rest', record'⟩

end Sys2Proof.Machine
end

section

/-! PROOF. A Withdrawn station is silent, the Clock cause and a retry follow the clock unit, and no Restart outlasts its
Reply frame (O57). -/

namespace Sys2Proof.Machine

/-! ### The parts that every update keeps -/

/-- An invariant that looks at the bus station and the clock unit alone. -/
theorem KeptByUpdates.of_bus_clock {I : State → Prop}
    (same : ∀ {s t : State}, I s → t.bus = s.bus → t.clock = s.clock → I t)
    (bus : ∀ {s b}, BusStep s.isRunning s.bus b → I s → I (s.setBus b))
    (clock : ∀ {s c}, ClockStep s.clock c → I s → I (s.setClock c)) : KeptByUpdates I where
  free := fun _ _ _ _ _ _ _ _ h => same h rfl rfl
  battery := fun _ _ h => same h rfl rfl
  port := fun _ _ _ h => same h rfl rfl
  mode := fun _ _ _ h => same h rfl rfl
  takePort := fun {s p y} _ _ _ h => by
    obtain ⟨entries, eq⟩ := suspendSource_eq (s.port p).source s
    rw [eq]
    exact same h rfl rfl
  voice := fun _ h => same h rfl rfl
  takePitch := fun {s v x} _ _ h => by
    obtain ⟨entries, eq⟩ := suspendVoiceSource_eq (s.voice v).pitchSource (s.setVoice v x)
    rw [eq]
    exact same h rfl rfl
  takeVolume := fun {s v x} _ _ h => by
    obtain ⟨entries, eq⟩ := suspendVoiceSource_eq (s.voice v).volumeSource (s.setVoice v x)
    rw [eq]
    exact same h rfl rfl
  entry := fun _ h => same h rfl rfl
  staging := fun _ h => same h rfl rfl
  halt := fun _ h => same h rfl rfl
  halted := fun _ _ h => same h rfl rfl
  bus := bus
  link := fun _ h => same h rfl rfl
  clock := clock

theorem isWithdrawn_iff (s : State) : s.isWithdrawn = true ↔ s.bus.withdrawn ≠ [] := by
  simp [State.isWithdrawn]

theorem keptByUpdates_withdrawnSilent : KeptByUpdates State.WithdrawnSilent :=
  .of_bus_clock
    (fun h bus _ => by
      unfold State.WithdrawnSilent State.isWithdrawn
      rw [bus]
      exact h)
    (fun step h withdrawn =>
      have causes := step.withdrawn ▸ (isWithdrawn_iff _).1 withdrawn
      step.silent causes (h ((isWithdrawn_iff _).2 causes)))
    fun _ h => h

/-- The withdrawn causes are `w`, and the clock unit is OnPLL exactly when `onPLL` says so. -/
def State.Withheld (w : List WithdrawnCause) (onPLL : Prop) (s : State) : Prop :=
  s.bus.withdrawn = w ∧ (s.clock.state = .onPLL ↔ onPLL)

theorem keptByUpdates_withheld (w : List WithdrawnCause) (onPLL : Prop) :
    KeptByUpdates (State.Withheld w onPLL) :=
  .of_bus_clock
    (fun h bus clock => by
      unfold State.Withheld
      rw [bus, clock]
      exact h)
    (fun step h => ⟨step.withdrawn.trans h.1, h.2⟩) fun step h => ⟨h.1, step.onPLL.trans h.2⟩

theorem keptByUpdates_retryKept : KeptByUpdates State.RetryKept :=
  .of_bus_clock
    (fun h _ clock => by
      unfold State.RetryKept
      rw [clock]
      exact h)
    (fun _ h => h) fun step h => step.retry h

theorem State.ClockWithdrawn.of_eq {s t : State} (causes : t.bus.withdrawn = s.bus.withdrawn)
    (clock : t.clock.state = .onPLL ↔ s.clock.state = .onPLL) (h : s.ClockWithdrawn) : t.ClockWithdrawn := by
  unfold State.ClockWithdrawn
  rw [causes, ne_eq, clock]
  exact h

theorem keptByUpdates_clockWithdrawn : KeptByUpdates State.ClockWithdrawn :=
  .of_bus_clock (fun h bus clock => h.of_eq (by rw [bus]) (by rw [clock])) (fun step h => h.of_eq step.withdrawn Iff.rfl)
    fun {s c} step h => State.ClockWithdrawn.of_eq (s := s) (t := s.setClock c) rfl step.onPLL h

/-- Silent while Withdrawn, with the causes `w`, and OnPLL exactly when `onPLL` says so. -/
def State.Withdrawing (w : List WithdrawnCause) (onPLL : Prop) (s : State) : Prop :=
  s.WithdrawnSilent ∧ s.Withheld w onPLL

theorem keptByCauses_withdrawing (w : List WithdrawnCause) (onPLL : Prop) : KeptByCauses (State.Withdrawing w onPLL) :=
  (keptByUpdates_withdrawnSilent.and (keptByUpdates_withheld w onPLL)).causes fun _ _ h => h

theorem keptByCauses_retryKept : KeptByCauses State.RetryKept := keptByUpdates_retryKept.causes fun _ _ h => h

/-! ### A withdrawal -/

theorem tabletReply_bus (st tk : Nat) (r : Result) (d : List Byte) (s : State) :
    (tabletReply st tk r d s).bus = s.bus := by
  obtain ⟨link, eq⟩ := tabletReply_only st tk r d s
  rw [eq, State.setLink_bus]

/-- R140: nothing is in transmission after the frame there is dropped. -/
theorem dropSending_sending (s : State) : (dropSending s).bus.sending = none := by
  unfold dropSending
  split
  next sending => exact sending
  next f _ =>
    unfold frameDropped
    split
    · unfold reportOrigin
      split
      · rfl
      · dsimp only
        rw [tabletReply_bus]
        rfl
    · rfl

/-- R152: a cause joins the set, and a station that it withdraws is silent. -/
theorem State.Withdrawing.withdraw {w : List WithdrawnCause} {onPLL : Prop} {s : State} (c : WithdrawnCause)
    (h : s.Withdrawing w onPLL) : (withdraw c s).Withdrawing (addWithdrawn c w) onPLL := by
  obtain ⟨silent, causes, clock⟩ := h
  have joined : (s.setBus { s.bus with withdrawn := addWithdrawn c s.bus.withdrawn }).Withheld
      (addWithdrawn c w) onPLL := ⟨by rw [State.setBus_bus, causes], clock⟩
  unfold Machine.withdraw
  refine ite_keeps (I := State.Withdrawing (addWithdrawn c w) onPLL)
    (fun was => ⟨fun _ => silent was, joined⟩) fun _ => ?_
  have dropped := (keptByUpdates_withheld _ _).dropSending joined
  have none := dropSending_sending (s.setBus { s.bus with withdrawn := addWithdrawn c s.bus.withdrawn })
  generalize dropSending (s.setBus { s.bus with withdrawn := addWithdrawn c s.bus.withdrawn }) = u at dropped none
  have k := (keptByCauses_withdrawing (addWithdrawn c w) onPLL).toKeptByUpdates
  exact k.updateSignal _ _ (foldl_keeps (fun f h => k.frameDropped _ f h) _ ⟨fun _ => ⟨rfl, none⟩, dropped⟩)

theorem contains_addWithdrawn (c d : WithdrawnCause) (w : List WithdrawnCause) :
    (addWithdrawn c w).contains d = (d == c || w.contains d) := by
  have member : d ∈ addWithdrawn c w ↔ d = c ∨ d ∈ w := by
    cases d <;> simp [addWithdrawn, WithdrawnCause.all]
  rw [Bool.eq_iff_iff]
  simpa using member

/-! ### The clock unit -/

/-- R183: no retry is pending once it has been answered. -/
theorem finishRetry_retryKept (s : State) : (finishRetry s).RetryKept := by
  unfold finishRetry
  split
  · exact keptByUpdates_retryKept.answered _ fun pending => by simp [done] at pending
  next none => exact fun pending => by simp [none] at pending

theorem State.Withdrawing.finishRetry {w : List WithdrawnCause} {onPLL : Prop} {s : State}
    (h : s.Withdrawing w onPLL) : (finishRetry s).Withdrawing w onPLL := by
  unfold Machine.finishRetry
  split
  · exact (keptByCauses_withdrawing w onPLL).answered _ h
  · exact h

theorem State.Withdrawing.clockWithdrawn {w : List WithdrawnCause} {onPLL : Prop} {s : State}
    (h : s.Withdrawing w onPLL) (same : w.contains .clock = true ↔ ¬onPLL) : s.ClockWithdrawn := by
  obtain ⟨-, causes, clock⟩ := h
  unfold State.ClockWithdrawn
  rw [causes, same, ne_eq, clock]

/-! ### The first three promises -/

/-- Silent while Withdrawn, the Clock cause in step with the clock unit, and a retry with its start. -/
def State.ClockKept (s : State) : Prop := (s.WithdrawnSilent ∧ s.ClockWithdrawn) ∧ s.RetryKept

theorem keptByUpdates_clockKept : KeptByUpdates State.ClockKept :=
  (keptByUpdates_withdrawnSilent.and keptByUpdates_clockWithdrawn).and keptByUpdates_retryKept

theorem keptByCauses_clockKept : KeptByCauses State.ClockKept := keptByUpdates_clockKept.causes fun _ _ h => h

/-- A state silent while Withdrawn has its own causes. -/
theorem State.WithdrawnSilent.withdrawing {s : State} (silent : s.WithdrawnSilent) :
    s.Withdrawing s.bus.withdrawn (s.clock.state = .onPLL) := ⟨silent, rfl, Iff.rfl⟩

theorem withdraw_clockKept {c : WithdrawnCause} {s : State} (other : c ≠ .clock) (h : s.ClockKept) :
    (withdraw c s).ClockKept := by
  obtain ⟨⟨silent, clock⟩, retry⟩ := h
  have withdrawn := silent.withdrawing.withdraw c
  refine ⟨⟨withdrawn.1, withdrawn.clockWithdrawn ?_⟩, ?_⟩
  · rw [contains_addWithdrawn]
    have differs : (WithdrawnCause.clock == c) = false := beq_false_of_ne (Ne.symm other)
    rw [differs, Bool.false_or]
    exact clock
  · exact keptByUpdates_retryKept.withdraw_of_causes (fun _ _ h => h) c retry

/-- R182: the clock is lost while OnPLL. -/
theorem clockFailed_clockKept {s : State} (onPLL : s.clock.state = .onPLL) (h : s.ClockKept) :
    (clockFailed s).ClockKept := by
  obtain ⟨⟨silent, -⟩, retry⟩ := h
  have idle : ¬s.clock.retry.isSome = true := fun pending => by simpa [onPLL] using retry pending
  have failed : (s.setClock s.clock.failed).Withdrawing s.bus.withdrawn False :=
    ⟨silent, rfl, by simp [Clock.failed]⟩
  have lost := (keptByCauses_withdrawing _ _).giveCause .clockLost none ((keptByCauses_withdrawing _ _).dropSending failed)
  have withdrawn := lost.withdraw .clock
  have k := (keptByCauses_withdrawing (addWithdrawn .clock s.bus.withdrawn) False).toKeptByUpdates
  have all : (clockFailed s).Withdrawing (addWithdrawn .clock s.bus.withdrawn) False :=
    k.updateSignal _ _ (k.audioClockLost (ite_keeps (fun _ => k.startBreak withdrawn) fun _ => withdrawn))
  refine ⟨⟨all.1, all.clockWithdrawn (by rw [contains_addWithdrawn]; simp)⟩, ?_⟩
  have kr := keptByCauses_retryKept
  have retried : (s.setClock s.clock.failed).RetryKept := fun pending => absurd pending idle
  have left := kr.withdraw_of_causes (fun _ _ h => h) .clock (kr.giveCause .clockLost none (kr.dropSending retried))
  exact kr.updateSignal _ _ (kr.audioClockLost (ite_keeps (fun _ => kr.startBreak left) fun _ => left))

/-- R180: a start ends in OnRC-Failed. -/
theorem startFailed_clockKept {s : State} (starting : s.clock.state ≠ .onPLL) (h : s.ClockKept) :
    (startFailed s).ClockKept := by
  obtain ⟨⟨silent, clock⟩, -⟩ := h
  have failed : (s.setClock s.clock.failed).Withdrawing s.bus.withdrawn False :=
    ⟨silent, rfl, by simp [Clock.failed]⟩
  have ended := ((keptByCauses_withdrawing _ _).giveCause .clockLost none failed).finishRetry
  exact ⟨⟨ended.1, ended.clockWithdrawn (by simpa using clock.2 starting)⟩, finishRetry_retryKept _⟩

/-- R153: the Clock cause leaves the set. -/
theorem State.Withdrawing.clearClockCause {w : List WithdrawnCause} {onPLL : Prop} {s : State}
    (h : s.Withdrawing w onPLL) :
    (clearClockCause s).Withdrawing (w.filter fun d => d != .clock) onPLL := by
  obtain ⟨silent, causes, clock⟩ := h
  have k := (keptByCauses_withdrawing (w.filter fun d => d != .clock) onPLL).toKeptByUpdates
  have cleared : (s.setBus { s.bus with withdrawn := s.bus.withdrawn.filter fun d => d != .clock }).Withdrawing
      (w.filter fun d => d != .clock) onPLL := by
    refine ⟨fun left => silent ?_, by rw [State.setBus_bus, causes], clock⟩
    rw [isWithdrawn_iff] at left ⊢
    exact fun none => left (by simp [none])
  exact ite_keeps (fun _ => k.announceRequest (k.updateSignal _ _ cleared)) fun _ => cleared

/-- R181: the switch to the PLL completes. -/
theorem switched_clockKept {s : State} (h : s.ClockKept) :
    (finishRetry (writePll true (audioClockReady (clearClockCause
      (s.setClock { s.clock with state := .onPLL, edgeMonitor := some 1 }))))).ClockKept := by
  obtain ⟨⟨silent, -⟩, -⟩ := h
  have onPLL : (s.setClock { s.clock with state := .onPLL, edgeMonitor := some 1 }).Withdrawing
      s.bus.withdrawn True := ⟨silent, rfl, by simp⟩
  have k := (keptByCauses_withdrawing (s.bus.withdrawn.filter fun d => d != .clock) True).toKeptByUpdates
  have ready := k.audioClockReady onPLL.clearClockCause
  generalize audioClockReady _ = u at ready ⊢
  have ended : (finishRetry (writePll true u)).Withdrawing _ True := State.Withdrawing.finishRetry (k.updateSignal _ _ ready)
  exact ⟨⟨ended.1, ended.clockWithdrawn (by simp)⟩, finishRetry_retryKept _⟩

theorem resetImage_clockKept (f : StartFields) (invalid : Bool) (kind : ResetKind) (s : State) :
    (resetImage f invalid kind s).ClockKept := by
  refine ⟨⟨fun _ => ⟨rfl, rfl⟩, ?_⟩, fun pending => absurd pending (by simp [resetImage, Clock.fresh])⟩
  simp only [State.ClockWithdrawn, resetImage, Bus.fresh, Clock.fresh]
  split
  · simp
  · simp

theorem keptByRows_clockKept : KeptByRows State.ClockKept :=
  have k := keptByCauses_clockKept
  have sources : IgnoresSources State.ClockKept :=
    ⟨fun _ _ _ h => h, fun _ _ _ h => h, fun _ _ _ h => h, fun _ _ _ h => h⟩
  { keptByCauses_clockKept with
    bind := fun _ passed _ h => k.bind_of_sources sources passed h
    release := fun _ h => k.release_of_sources sources _ _ _ h
    ceiling := fun {s} b h => k.reclampPorts (s := { s with battery := b }) _ h
    resume := fun _ h => k.resume_of_sources sources (fun _ _ h => h) _ h
    withdraw := fun c other h => withdraw_clockKept other h
    clockFailed := fun onPLL h => clockFailed_clockKept onPLL h
    startFailed := fun starting h => startFailed_clockKept
      (fun onPLL => by simp [onPLL] at starting) h
    switched := fun _ h => switched_clockKept h
    image := fun {s} kind straps b _ => by
      obtain ⟨f, invalid, eq⟩ := readImage_eq kind straps s
      rw [eq]
      exact resetImage_clockKept f invalid kind s }

/-! ### A pending Restart -/

theorem State.RestartWaits.of_none {s : State} (h : s.station.restartPending = none) : s.RestartWaits := by
  intro stamp pending
  rw [h] at pending
  exact absurd pending (by simp)

/-- R163: at the end of an event a Restart waits for a frame that the station still holds. -/
theorem restartAfter_waiting (s : State) : (restartAfter s).RestartWaits := by
  rcases restartAfter_cases s with ⟨stays, eq⟩ | ⟨-, eq⟩
  · rw [eq]
    intro stamp pending
    simpa only [restartFrameGone, pending, Bool.not_eq_false', List.any_eq_true, beq_iff_eq] using stays
  · rw [eq]
    exact .of_none (beginReset_restartPending _ _)

theorem giveCause_station (c : CauseKind) (at_ : Option CausePort) (s : State) :
    (giveCause c at_ s).station = s.station := by
  obtain ⟨_, _, _, _, _, _, _, _, _, _, eq⟩ := giveCause_only c at_ s
  rw [eq]

theorem updateSignal_station (i : Fin 16) (v : Int) (s : State) : (updateSignal i v s).station = s.station := by
  obtain ⟨_, _, _, _, _, _, _, _, eq⟩ := updateSignal_only i v s
  rw [eq]

theorem undervoltageCheck_station (s : State) : (undervoltageCheck s).station = s.station := by
  unfold undervoltageCheck
  dsimp only
  split
  · split
    · rfl
    · rfl
  · split
    · split
      · rfl
      · rw [giveCause_station]
    · rfl

theorem reclampPorts_station (was : Nat) (s : State) : (reclampPorts was s).station = s.station := by
  unfold reclampPorts
  split
  · rfl
  · rfl

theorem batteryTakes_station (v : Int) (s : State) : (batteryTakes v s).station = s.station := by
  unfold batteryTakes
  dsimp only
  rw [updateSignal_station, undervoltageCheck_station, reclampPorts_station]

theorem whenAwake_restartWaits {s t : State} {f : State → State} (next : s.whenAwake f = .next t)
    (h : s.RestartWaits) : t.RestartWaits := by
  unfold State.whenAwake at next
  split at next
  · cases next
    exact restartAfter_waiting (f s)
  · cases next
    exact h

theorem execResetEnd_restartWaits {kind : ResetKind} {straps : Fin 16} {mv : Nat} {s t : State}
    (next : execResetEnd kind straps mv s = .next t) (h : s.RestartWaits) : t.RestartWaits := by
  unfold execResetEnd at next
  dsimp only at next
  split at next
  · split at next
    · cases next
      refine .of_none ?_
      unfold finishReset
      dsimp only
      rw [batteryTakes_station, readImage_restartPending]
    · cases next
      exact h
  · cases next
    exact h

theorem exec_restartWaits {c : Instr} {s t : State} (next : exec c s = .next t) (h : s.RestartWaits) :
    t.RestartWaits := by
  by_cases on : c = .powerOnReset
  · subst on
    cases next
    exact .of_none (beginReset_restartPending _ _)
  by_cases pin : c = .resetPin
  · subst pin
    cases next
    exact .of_none (beginReset_restartPending _ _)
  by_cases hold : ∃ kind straps mv, c = .resetEnd kind straps mv
  · obtain ⟨kind, straps, mv, rfl⟩ := hold
    exact execResetEnd_restartWaits next h
  · obtain ⟨f, eq⟩ := exec_eq_whenAwake s on pin fun kind straps mv e => hold ⟨kind, straps, mv, e⟩
    exact whenAwake_restartWaits (eq.symm.trans next) h

theorem step_restartWaits {s t : State} (next : step s = .next t) (h : s.RestartWaits) : t.RestartWaits := by
  unfold step at next
  split at next
  · cases next
    exact h
  · exact exec_restartWaits next h

/-- Settles O57: the first three promises by the rows, the last by the ends of the events. -/
theorem withdrawnPromisesKept : Obligations.WithdrawnPromisesKept := fun _ _ silent clock retry waits next =>
  have ⟨⟨silent', clock'⟩, retry'⟩ := keptByRows_clockKept.step (fun _ _ h => h) next ⟨⟨silent, clock⟩, retry⟩
  ⟨silent', clock', retry', step_restartWaits next waits⟩

end Sys2Proof.Machine
end

section

/-! PROOF. One owner per destination, and each source in step with its entry (O59).

A port, a pitch and a volume scale are the slots a listen entry can hold. The source of a slot names at most one
entry, so one owner per destination follows from the agreement of the slots with the entries. -/

namespace Sys2Proof.Machine

/-! ### Slots -/

/-- What a listen entry can drive alone: a motor port, a voice's pitch, a voice's volume scale. -/
inductive Slot
  | port (p : Fin 4) | pitch (v : Fin 3) | volume (v : Fin 3)
deriving DecidableEq

/-- The slot of a destination; a Go trigger has none. -/
def Destination.slot : Destination → Option Slot
  | .motorPower p | .motorSpeed p | .motorPosition p => some (.port p)
  | .voicePitch v => some (.pitch v)
  | .voiceVolume v => some (.volume v)
  | .goTrigger _ => none

/-- The slot an acting entry holds. -/
def Entry.slot (e : Entry) : Option Slot := e.owns.bind Destination.slot

/-- The entry a source names. -/
def Source.entry : Source → Option (Fin 16)
  | .listen n => some n
  | .command | .pattern => none

def VoiceSource.entry : VoiceSource → Option (Fin 16)
  | .listen n => some n
  | .own => none

/-- The entry that the source of a slot names. -/
def State.holder (s : State) : Slot → Option (Fin 16)
  | .port p => (s.port p).source.entry
  | .pitch v => (s.voice v).pitchSource.entry
  | .volume v => (s.voice v).volumeSource.entry

/-- A slot names an entry exactly when the entry holds it. -/
def State.Agree (s : State) : Prop := ∀ σ n, s.holder σ = some n ↔ (s.entry n).slot = some σ

/-- R1: a port of kind None is in Coast with source Command. -/
def State.OffPorts (s : State) : Prop :=
  ∀ p, (s.port p).kind = .none → (s.port p).mode = .coast ∧ (s.port p).source = .command

theorem Source.entry_eq_some {src : Source} {n : Fin 16} : src.entry = some n ↔ src = .listen n := by
  cases src <;> simp [Source.entry]

theorem VoiceSource.entry_eq_some {src : VoiceSource} {n : Fin 16} : src.entry = some n ↔ src = .listen n := by
  cases src <;> simp [VoiceSource.entry]

theorem Destination.slot_eq_port {d : Destination} {p : Fin 4} : d.slot = some (.port p) ↔ d.motorPort = some p := by
  cases d <;> simp [Destination.slot, Destination.motorPort]

theorem Destination.slot_eq_pitch {d : Destination} {v : Fin 3} : d.slot = some (.pitch v) ↔ d = .voicePitch v := by
  cases d <;> simp [Destination.slot]

theorem Destination.slot_eq_volume {d : Destination} {v : Fin 3} : d.slot = some (.volume v) ↔ d = .voiceVolume v := by
  cases d <;> simp [Destination.slot]

/-- R103: two destinations conflict exactly when they share a slot. -/
theorem Destination.conflicts_iff {d d' : Destination} :
    d.conflicts d' = true ↔ ∃ σ, d.slot = some σ ∧ d'.slot = some σ := by
  have shared : (∃ σ, d.slot = some σ ∧ d'.slot = some σ) ↔ d.slot.isSome = true ∧ d.slot = d'.slot := by
    cases d.slot with
    | none => simp
    | some σ => simp [eq_comm]
  rw [shared]
  cases d <;> cases d' <;> simp [Destination.conflicts, Destination.slot, Destination.motorPort]

theorem sourcesMatch_iff (s : State) : s.SourcesMatch ↔ s.OffPorts ∧ s.Agree := by
  have port (n : Fin 16) (p : Fin 4) :
      (s.entry n).owns.bind Destination.motorPort = some p ↔ (s.entry n).slot = some (.port p) := by
    simp only [Entry.slot, Option.bind_eq_some_iff, Destination.slot_eq_port]
  have pitch (n : Fin 16) (v : Fin 3) :
      (s.entry n).owns = some (.voicePitch v) ↔ (s.entry n).slot = some (.pitch v) := by
    simp [Entry.slot, Option.bind_eq_some_iff, Destination.slot_eq_pitch]
  have volume (n : Fin 16) (v : Fin 3) :
      (s.entry n).owns = some (.voiceVolume v) ↔ (s.entry n).slot = some (.volume v) := by
    simp [Entry.slot, Option.bind_eq_some_iff, Destination.slot_eq_volume]
  unfold State.SourcesMatch
  refine and_congr Iff.rfl ⟨fun h σ n => ?_, fun h n => ⟨fun p => ?_, fun v => ⟨?_, ?_⟩⟩⟩
  · cases σ with
    | port p => exact Source.entry_eq_some.trans (((h n).1 p).trans (port n p))
    | pitch v => exact VoiceSource.entry_eq_some.trans (((h n).2 v).1.trans (pitch n v))
    | volume v => exact VoiceSource.entry_eq_some.trans (((h n).2 v).2.trans (volume n v))
  · exact Source.entry_eq_some.symm.trans ((h (.port p) n).trans (port n p).symm)
  · exact VoiceSource.entry_eq_some.symm.trans ((h (.pitch v) n).trans (pitch n v).symm)
  · exact VoiceSource.entry_eq_some.symm.trans ((h (.volume v) n).trans (volume n v).symm)

/-- R103: a slot names one entry at most, so no two entries own conflicting destinations. -/
theorem State.Agree.oneOwner {s : State} (agree : s.Agree) (kept : ∀ n, (s.entry n).wellKept) : s.OneOwner := by
  refine ⟨kept, fun m n differ d owned d' owned' => ?_⟩
  by_contra conflict
  obtain ⟨σ, first, second⟩ := Destination.conflicts_iff.1 (by simpa using conflict)
  have holds {k : Fin 16} {x : Destination} (owns : x ∈ (s.entry k).owns) (slot : x.slot = some σ) :
      s.holder σ = some k := (agree σ k).2 (Option.bind_eq_some_iff.2 ⟨x, owns, slot⟩)
  exact differ (Option.some.inj ((holds owned first).symm.trans (holds owned' second)))

/-! ### Changes of slots and entries -/

/-- The slot `σ` is taken from whatever entry it named. -/
theorem State.Agree.taken {s t : State} {σ : Slot} (h : s.Agree)
    (holder : ∀ τ, t.holder τ = if τ = σ then none else s.holder τ)
    (slots : ∀ n, (t.entry n).slot = if s.holder σ = some n then none else (s.entry n).slot) : t.Agree := by
  intro τ n
  rw [holder, slots]
  by_cases same : τ = σ
  · subst same
    have := h τ n
    by_cases held : s.holder τ = some n
    · simp [held]
    · simpa [held] using fun slot => held (this.2 slot)
  · by_cases held : s.holder σ = some n
    · have other : s.holder τ ≠ some n := fun e =>
        same (Option.some.inj (((h τ n).1 e).symm.trans ((h σ n).1 held)))
      simp [same, held, other]
    · simpa [same, held] using h τ n

/-- The free slot `σ` is given to the entry `n`, which held none. -/
theorem State.Agree.bound {s t : State} {σ : Slot} {n : Fin 16} (h : s.Agree) (free : s.holder σ = none)
    (idle : (s.entry n).slot = none) (holder : ∀ τ, t.holder τ = if τ = σ then some n else s.holder τ)
    (slots : ∀ m, (t.entry m).slot = if m = n then some σ else (s.entry m).slot) : t.Agree := by
  intro τ m
  rw [holder, slots]
  by_cases slot : τ = σ
  · subst slot
    by_cases entry : m = n
    · simp [entry]
    · have other : (s.entry m).slot ≠ some τ := fun e => absurd ((h τ m).2 e) (by simp [free])
      simp [entry, other, Ne.symm entry]
  · by_cases entry : m = n
    · subst entry
      have other : s.holder τ ≠ some m := fun e => absurd ((h τ m).1 e) (by simp [idle])
      simp [slot, other, Ne.symm slot]
    · simpa [slot, entry] using h τ m

theorem State.Agree.of_eq {s t : State} (h : s.Agree) (holder : ∀ τ, t.holder τ = s.holder τ)
    (slots : ∀ n, (t.entry n).slot = (s.entry n).slot) : t.Agree := fun τ n => by
  rw [holder, slots]
  exact h τ n

theorem State.holder_setPort (s : State) (p : Fin 4) (y : Port) (τ : Slot) :
    (s.setPort p y).holder τ = if τ = .port p then y.source.entry else s.holder τ := by
  cases τ with
  | port j =>
    simp only [State.holder, State.port_setPort_eq, Slot.port.injEq, eq_comm (a := j)]
    split
    · rfl
    · rfl
  | pitch v => simp [State.holder]
  | volume v => simp [State.holder]

theorem State.holder_setVoice_pitch (s : State) {v : Fin 3} {x : Voice} (volume : x.volumeSource = (s.voice v).volumeSource)
    (τ : Slot) : (s.setVoice v x).holder τ = if τ = .pitch v then x.pitchSource.entry else s.holder τ := by
  cases τ with
  | port j => simp [State.holder]
  | pitch j =>
    simp only [State.holder, State.voice_setVoice_eq, Slot.pitch.injEq, eq_comm (a := j)]
    split
    · rfl
    · rfl
  | volume j =>
    simp only [State.holder, State.voice_setVoice_eq, reduceCtorEq, if_false]
    split
    next e => rw [volume, e]
    · rfl

theorem State.holder_setVoice_volume (s : State) {v : Fin 3} {x : Voice} (pitch : x.pitchSource = (s.voice v).pitchSource)
    (τ : Slot) : (s.setVoice v x).holder τ = if τ = .volume v then x.volumeSource.entry else s.holder τ := by
  cases τ with
  | port j => simp [State.holder]
  | pitch j =>
    simp only [State.holder, State.voice_setVoice_eq, reduceCtorEq, if_false]
    split
    next e => rw [pitch, e]
    · rfl
  | volume j =>
    simp only [State.holder, State.voice_setVoice_eq, Slot.volume.injEq, eq_comm (a := j)]
    split
    · rfl
    · rfl

theorem State.slot_setEntry (s : State) (n m : Fin 16) (e : Entry) :
    ((s.setEntry n e).entry m).slot = if m = n then e.slot else (s.entry m).slot := by
  rw [State.entry_setEntry_eq]
  by_cases same : m = n
  · simp [same]
  · simp [same, Ne.symm same]

theorem Entry.slot_of_idle {e : Entry} (idle : e.acting = false) : e.slot = none := by simp [Entry.slot, Entry.owns, idle]

theorem Entry.slot_of_acting {e : Entry} {r : Route} (acting : e.acting = true) (route : e.route = some r) :
    e.slot = r.dest.slot := by simp [Entry.slot, Entry.owns, acting, route]

theorem Entry.acting_of_slot {e : Entry} {σ : Slot} (h : e.slot = some σ) : e.acting = true := by
  by_contra idle
  simp [Entry.slot_of_idle (by simpa using idle)] at h

/-! ### Suspension -/

/-- R106: the record of an entry that a suspension reaches. -/
def Entry.suspend (e : Entry) : Entry := if e.acting then { e with state := .suspended, age := none } else e

theorem suspendEntry_eq_setEntry (n : Fin 16) (s : State) : suspendEntry n s = s.setEntry n (s.entry n).suspend := by
  unfold suspendEntry Entry.suspend
  split
  · rfl
  · simp [State.setEntry, State.entry]

theorem Entry.suspend_slot (e : Entry) : e.suspend.slot = none := by
  unfold Entry.suspend
  split
  · exact Entry.slot_of_idle rfl
  next idle => exact Entry.slot_of_idle (by simpa using idle)

theorem Entry.suspend_wellKept {e : Entry} (kept : e.wellKept) : e.suspend.wellKept := by
  obtain ⟨route, age⟩ := kept
  unfold Entry.suspend
  split
  next acting =>
    have routed : e.route ≠ none := fun none => by simp [Entry.acting, route.2 none] at acting
    exact ⟨by simp [routed], by simp⟩
  · exact ⟨route, age⟩

/-- R106: a suspension of whatever entry a slot names. -/
theorem suspendHolder_slot (s : State) (o : Option (Fin 16)) (m : Fin 16) :
    ((o.elim s fun n => suspendEntry n s).entry m).slot = if o = some m then none else (s.entry m).slot := by
  cases o with
  | none => simp
  | some n =>
    simp only [Option.elim_some, suspendEntry_eq_setEntry, State.slot_setEntry, Entry.suspend_slot, Option.some.injEq,
      eq_comm (a := m)]

theorem suspendSource_eq_elim (src : Source) (s : State) :
    suspendSource src s = src.entry.elim s fun n => suspendEntry n s := by cases src <;> rfl

theorem suspendVoiceSource_eq_elim (src : VoiceSource) (s : State) :
    suspendVoiceSource src s = src.entry.elim s fun n => suspendEntry n s := by cases src <;> rfl

/-! ### The invariant under updates -/

/-- The entries well kept, the ports of kind None off, and the slots in agreement with the entries. -/
def State.BindingsKept (s : State) : Prop := (∀ n, (s.entry n).wellKept) ∧ s.OffPorts ∧ s.Agree

theorem bindingsKept_iff (s : State) : s.BindingsKept ↔ s.OneOwner ∧ s.SourcesMatch := by
  rw [sourcesMatch_iff]
  exact ⟨fun ⟨kept, off, agree⟩ => ⟨agree.oneOwner kept, off, agree⟩, fun ⟨owner, off, agree⟩ => ⟨owner.1, off, agree⟩⟩

theorem wellKept_setEntry {s : State} {n : Fin 16} {e : Entry} (h : ∀ m, (s.entry m).wellKept) (kept : e.wellKept)
    (m : Fin 16) : ((s.setEntry n e).entry m).wellKept := by
  rw [State.entry_setEntry_eq]
  split
  · exact kept
  · exact h m

theorem wellKept_suspendHolder {s : State} (o : Option (Fin 16)) (h : ∀ m, (s.entry m).wellKept) (m : Fin 16) :
    ((o.elim s fun n => suspendEntry n s).entry m).wellKept := by
  cases o with
  | none => exact h m
  | some n =>
    rw [Option.elim_some, suspendEntry_eq_setEntry]
    exact wellKept_setEntry h (Entry.suspend_wellKept (h n)) m

theorem State.OffPorts.setPort {s : State} {p : Fin 4} {y : Port}
    (off : y.kind = .none → y.mode = .coast ∧ y.source = .command) (h : s.OffPorts) : (s.setPort p y).OffPorts := by
  intro j
  rw [State.port_setPort_eq]
  split
  · exact off
  · exact h j

theorem SourceStays.entry {x y : Port} (h : SourceStays x y) : y.source.entry = x.source.entry := by
  rcases h with same | ⟨pattern, command⟩
  · rw [same]
  · rw [pattern, command]
    rfl

/-- A port whose source names the same entry. -/
theorem State.BindingsKept.setPort {s : State} {p : Fin 4} {y : Port} {c : Nat} (step : PortStep c (s.port p) y)
    (source : SourceStays (s.port p) y) (h : s.BindingsKept) : (s.setPort p y).BindingsKept := by
  obtain ⟨kept, off, agree⟩ := h
  refine ⟨kept, off.setPort fun none => ?_, agree.of_eq (fun τ => ?_) fun _ => rfl⟩
  · rw [step.kind] at none
    obtain ⟨coast, command⟩ := off p none
    refine ⟨step.off none coast, ?_⟩
    rcases source with same | ⟨pattern, -⟩
    · rw [same, command]
    · simp [command] at pattern
  · rw [State.holder_setPort, source.entry]
    split
    next e => rw [e]; rfl
    · rfl

/-- R17: a port takes its source back from the entry it names. -/
theorem State.BindingsKept.takePort {s : State} {p : Fin 4} {y : Port} {c : Nat} (step : PortStep c (s.port p) y)
    (source : SourceTaken (s.port p) y) (h : s.BindingsKept) :
    ((suspendSource (s.port p).source s).setPort p y).BindingsKept := by
  obtain ⟨kept, off, agree⟩ := h
  obtain ⟨entries, eq⟩ := suspendSource_eq (s.port p).source s
  have none : y.source.entry = none := by
    rcases source with command | ⟨pattern, -⟩
    · rw [command]; rfl
    · rw [pattern]; rfl
  refine ⟨fun m => ?_, ?_, agree.taken (σ := .port p) (fun τ => ?_) fun m => ?_⟩
  · rw [State.entry_setPort_other, suspendSource_eq_elim]
    exact wellKept_suspendHolder _ kept m
  · rw [eq]
    refine State.OffPorts.setPort (s := { s with entries := entries }) (fun isNone => ?_) off
    rw [step.kind] at isNone
    obtain ⟨coast, -⟩ := off p isNone
    refine ⟨step.off isNone coast, ?_⟩
    rcases source with command | ⟨-, kind⟩
    · exact command
    · exact absurd isNone kind
  · rw [State.holder_setPort, none, eq]
    rfl
  · rw [State.entry_setPort_other, suspendSource_eq_elim, suspendHolder_slot]
    rfl

theorem State.BindingsKept.setVoice {s : State} {v : Fin 3} {x : Voice} (pitch : x.pitchSource = (s.voice v).pitchSource)
    (volume : x.volumeSource = (s.voice v).volumeSource) (h : s.BindingsKept) : (s.setVoice v x).BindingsKept := by
  obtain ⟨kept, off, agree⟩ := h
  refine ⟨kept, off, agree.of_eq (fun τ => ?_) fun _ => rfl⟩
  rw [State.holder_setVoice_pitch s volume, pitch]
  split
  next e => rw [e]; rfl
  · rfl

/-- R79, R80: a voice takes an input, the slot `σ`, back from the entry its source names. -/
theorem State.BindingsKept.takeVoice {s : State} {v : Fin 3} {x : Voice} {σ : Slot} {src : VoiceSource}
    (named : s.holder σ = src.entry) (holder : ∀ τ, (s.setVoice v x).holder τ = if τ = σ then none else s.holder τ)
    (h : s.BindingsKept) : (suspendVoiceSource src (s.setVoice v x)).BindingsKept := by
  obtain ⟨kept, off, agree⟩ := h
  obtain ⟨entries, eq⟩ := suspendVoiceSource_eq src (s.setVoice v x)
  refine ⟨fun m => ?_, ?_, agree.taken (σ := σ) (fun τ => ?_) fun m => ?_⟩
  · rw [suspendVoiceSource_eq_elim]
    exact wellKept_suspendHolder (s := s.setVoice v x) _ kept m
  · rw [eq]
    exact off
  · rw [← holder, eq]
    cases τ <;> rfl
  · rw [suspendVoiceSource_eq_elim, suspendHolder_slot, named]
    rfl

theorem State.BindingsKept.same {s t : State} (h : s.BindingsKept) (ports : t.ports = s.ports)
    (voices : t.voices = s.voices) (entries : t.entries = s.entries) : t.BindingsKept := by
  obtain ⟨kept, off, agree⟩ := h
  have port (p : Fin 4) : t.port p = s.port p := by rw [State.port, State.port, ports]
  have voice (v : Fin 3) : t.voice v = s.voice v := by rw [State.voice, State.voice, voices]
  have entry (n : Fin 16) : t.entry n = s.entry n := by rw [State.entry, State.entry, entries]
  refine ⟨fun n => by rw [entry]; exact kept n, fun p => by rw [port]; exact off p,
    agree.of_eq (fun τ => ?_) fun n => by rw [entry]⟩
  cases τ with
  | port p => rw [State.holder, State.holder, port]
  | pitch v => rw [State.holder, State.holder, voice]
  | volume v => rw [State.holder, State.holder, voice]

theorem keptByUpdates_bindingsKept : KeptByUpdates State.BindingsKept where
  free := fun _ _ _ _ _ _ _ _ h => h.same rfl rfl rfl
  battery := fun _ _ h => h.same rfl rfl rfl
  port := fun step source _ h => h.setPort step (.inl source)
  mode := fun {s p y} step source _ h => (h.setPort step source).same rfl rfl rfl
  takePort := fun {s p y} step source _ h => (h.takePort step source).same rfl rfl rfl
  voice := fun step h => h.setVoice step.pitch step.volume
  takePitch := fun {s v x} step own h => h.takeVoice (σ := .pitch v) rfl fun τ => by
    rw [State.holder_setVoice_pitch (x := x) s step.volume, own]
    rfl
  takeVolume := fun {s v x} step own h => h.takeVoice (σ := .volume v) rfl fun τ => by
    rw [State.holder_setVoice_volume (x := x) s step.pitch, own]
    rfl
  entry := fun {s n e} step h => by
    obtain ⟨kept, off, agree⟩ := h
    obtain ⟨kept', owns⟩ := step (kept n)
    refine ⟨wellKept_setEntry kept kept', off, agree.of_eq (fun _ => rfl) fun m => ?_⟩
    rw [State.slot_setEntry, Entry.slot, owns]
    split
    next e => rw [e]; rfl
    · rfl
  staging := fun _ h => h.same rfl rfl rfl
  halt := fun _ h => h.same rfl rfl rfl
  halted := fun _ _ h => h.same rfl rfl rfl
  bus := fun _ h => h.same rfl rfl rfl
  link := fun _ h => h.same rfl rfl rfl
  clock := fun _ h => h.same rfl rfl rfl

end Sys2Proof.Machine
end

section

/-! PROOF. A destination bound and released, a Resume and a reset keep the slots in step with the entries (O59). -/

namespace Sys2Proof.Machine

/-! ### Enable -/

theorem destinationTaken_of_slot {s : State} {m n : Fin 16} {d : Destination} {σ : Slot} (differ : m ≠ n)
    (held : (s.entry m).slot = some σ) (slot : d.slot = some σ) : destinationTaken n d s = true := by
  obtain ⟨d', owns, slot'⟩ := Option.bind_eq_some_iff.1 held
  have acting := Entry.acting_of_slot held
  obtain ⟨r, route, rfl⟩ : ∃ r, (s.entry m).route = some r ∧ r.dest = d' := by
    simpa [Entry.owns, acting] using owns
  have conflict : d.conflicts r.dest = true := Destination.conflicts_iff.2 ⟨σ, slot, slot'⟩
  unfold destinationTaken
  rw [List.any_eq_true]
  exact ⟨m, by fin_cases m <;> simp [sixteen], by simp [differ, acting, route, conflict]⟩

section

variable {s t : State} {n : Fin 16} {r : Route}

/-- R103: an entry that becomes Enabled is given the slot of its destination, which is free. -/
theorem State.BindingsKept.enabled (h : s.BindingsKept) (route : (s.entry n).route = some r)
    (passed : enableRefusal n (s.entry n) r.dest s = none) (idle : (s.entry n).acting = false)
    (entries : t.entries = (s.setEntry n (s.entry n).enabled).entries) (off : t.OffPorts)
    (holder : ∀ τ, t.holder τ = if r.dest.slot = some τ then some n else s.holder τ) : t.BindingsKept := by
  obtain ⟨kept, -, agree⟩ := h
  have entry (m : Fin 16) : t.entry m = (s.setEntry n (s.entry n).enabled).entry m := by
    rw [State.entry, State.entry, entries]
  have slot : (s.entry n).enabled.slot = r.dest.slot := Entry.slot_of_acting rfl route
  have empty := Entry.slot_of_idle idle
  refine ⟨fun m => entry m ▸ wellKept_setEntry kept ⟨by simp [Entry.enabled, route], fun _ => rfl⟩ m, off, ?_⟩
  cases dest : r.dest.slot with
  | none =>
    refine agree.of_eq (fun τ => by rw [holder, dest]; rfl) fun m => ?_
    rw [entry, State.slot_setEntry, slot, dest]
    split
    next e => rw [e, empty]
    · rfl
  | some σ =>
    have free : s.holder σ = none := by
      by_contra taken
      obtain ⟨m, held⟩ := Option.ne_none_iff_exists'.1 taken
      have owner := (agree σ m).1 held
      have differ : m ≠ n := fun e => by rw [e, empty] at owner; exact absurd owner (by simp)
      obtain ⟨-, untaken⟩ := enableRefusal_eq_none passed
      simp [destinationTaken_of_slot differ owner dest] at untaken
    refine agree.bound free empty (σ := σ) (n := n) (fun τ => ?_) fun m => ?_
    · rw [holder, dest]
      simp only [Option.some.injEq, eq_comm (a := τ)]
    · rw [entry, State.slot_setEntry, slot, dest]

/-- R19: the bind request of a motor entry. -/
theorem State.BindingsKept.bindPort {p : Fin 4} (m : Mode) (h : s.BindingsKept) (route : (s.entry n).route = some r)
    (passed : enableRefusal n (s.entry n) r.dest s = none) (idle : (s.entry n).acting = false)
    (motor : r.dest.motorPort = some p) :
    (bindPort p n m (s.setEntry n (s.entry n).enabled)).BindingsKept := by
  have kind := ((enableRefusal_eq_none passed).1 p motor).2
  rw [bindPort_eq]
  refine keptByUpdates_bindingsKept.noteEvents _ _ (h.enabled route passed idle rfl (fun j none => ?_) fun τ => ?_)
  · refine State.OffPorts.setPort (fun none => absurd ?_ kind) h.2.1 j none
    exact (Port.boundTo_step kind).kind.symm.trans none
  · refine (State.holder_setPort (s.setEntry n (s.entry n).enabled) p _ τ).trans ?_
    rw [Port.boundTo_source, Destination.slot_eq_port.2 motor]
    simp only [Option.some.injEq, eq_comm (a := τ)]
    rfl

theorem State.BindingsKept.bind (h : s.BindingsKept) (route : (s.entry n).route = some r)
    (passed : enableRefusal n (s.entry n) r.dest s = none) (idle : (s.entry n).acting = false) :
    (bindDestination n r.dest (s.setEntry n (s.entry n).enabled)).BindingsKept := by
  unfold bindDestination
  split
  next dest => exact h.bindPort .power route passed idle (by rw [dest]; rfl)
  next dest => exact h.bindPort .speed route passed idle (by rw [dest]; rfl)
  next dest => exact h.bindPort .position route passed idle (by rw [dest]; rfl)
  next v dest =>
    refine keptByUpdates_bindingsKept.cutNote _ (h.enabled route passed idle rfl h.2.1 fun τ => ?_)
    refine (State.holder_setVoice_pitch _ (by rfl) τ).trans ?_
    rw [dest]
    simp only [Destination.slot, Option.some.injEq, eq_comm (a := τ)]
    rfl
  next v dest =>
    refine h.enabled route passed idle rfl h.2.1 fun τ => ?_
    refine (State.holder_setVoice_volume _ (by rfl) τ).trans ?_
    rw [dest]
    simp only [Destination.slot, Option.some.injEq, eq_comm (a := τ)]
    rfl
  next dest => exact h.enabled route passed idle rfl h.2.1 fun τ => by rw [dest]; rfl

/-! ### Disable and Free -/

/-- R104, R105: an entry that no longer acts gives up the slot it held. -/
theorem State.BindingsKept.released {e : Entry} (h : s.BindingsKept) (kept' : e.wellKept) (idle : e.acting = false)
    (entries : t.entries = (s.setEntry n e).entries) (off : t.OffPorts)
    (holder : ∀ τ, t.holder τ = if (s.entry n).slot = some τ then none else s.holder τ) : t.BindingsKept := by
  obtain ⟨kept, -, agree⟩ := h
  have entry (m : Fin 16) : t.entry m = (s.setEntry n e).entry m := by rw [State.entry, State.entry, entries]
  refine ⟨fun m => entry m ▸ wellKept_setEntry kept kept' m, off, ?_⟩
  cases slot : (s.entry n).slot with
  | none =>
    refine agree.of_eq (fun τ => by rw [holder, slot]; rfl) fun m => ?_
    rw [entry, State.slot_setEntry, Entry.slot_of_idle idle]
    split
    next e => rw [e, slot]
    · rfl
  | some σ =>
    have held := (agree σ n).2 slot
    refine agree.taken (σ := σ) (fun τ => ?_) fun m => ?_
    · rw [holder, slot]
      simp only [Option.some.injEq, eq_comm (a := τ)]
    · rw [entry, State.slot_setEntry, Entry.slot_of_idle idle, held]
      simp only [Option.some.injEq, eq_comm (a := m)]

/-- R19: the release request of a motor entry that acts. -/
theorem State.BindingsKept.releasePort {e : Entry} {p : Fin 4} (h : s.BindingsKept) (kept' : e.wellKept)
    (idle : e.acting = false) (slot : (s.entry n).slot = some (.port p)) :
    (releasePort p n (s.setEntry n e)).BindingsKept := by
  have source : (s.port p).source = .listen n := Source.entry_eq_some.1 ((h.2.2 (.port p) n).2 slot)
  unfold Machine.releasePort
  refine ite_keeps (I := State.BindingsKept) (fun _ => keptByUpdates_bindingsKept.testHalted
    (h.released kept' idle rfl (fun j none => ?_) fun τ => ?_)) fun other => absurd source other
  · exact State.OffPorts.setPort (s := s.setEntry n e) (fun _ => ⟨by simp, rfl⟩) h.2.1 j none
  · refine (State.holder_setPort (s.setEntry n e) p _ τ).trans ?_
    rw [slot]
    simp only [Option.some.injEq, eq_comm (a := τ)]
    rfl

theorem State.BindingsKept.releaseDestination {e : Entry} (h : s.BindingsKept) (kept' : e.wellKept)
    (idle : e.acting = false) (slot : (s.entry n).slot = r.dest.slot) :
    (releaseDestination n r.dest (s.setEntry n e)).BindingsKept := by
  unfold Machine.releaseDestination
  split
  next dest => exact h.releasePort kept' idle (by rw [slot, dest]; rfl)
  next dest => exact h.releasePort kept' idle (by rw [slot, dest]; rfl)
  next dest => exact h.releasePort kept' idle (by rw [slot, dest]; rfl)
  next v dest =>
    rw [dest] at slot
    have source : (s.voice v).pitchSource = .listen n := VoiceSource.entry_eq_some.1 ((h.2.2 (.pitch v) n).2 slot)
    refine ite_keeps (I := State.BindingsKept) (fun _ => keptByUpdates_bindingsKept.bindingEnded _
      (h.released kept' idle rfl h.2.1 fun τ => ?_)) fun other => absurd source other
    refine (State.holder_setVoice_pitch _ (by rfl) τ).trans ?_
    rw [slot]
    simp only [Destination.slot, Option.some.injEq, eq_comm (a := τ)]
    rfl
  next v dest =>
    rw [dest] at slot
    have source : (s.voice v).volumeSource = .listen n := VoiceSource.entry_eq_some.1 ((h.2.2 (.volume v) n).2 slot)
    refine ite_keeps (I := State.BindingsKept) (fun _ => h.released kept' idle rfl h.2.1 fun τ => ?_)
      fun other => absurd source other
    refine (State.holder_setVoice_volume _ (by rfl) τ).trans ?_
    rw [slot]
    simp only [Destination.slot, Option.some.injEq, eq_comm (a := τ)]
    rfl
  next dest =>
    rw [dest] at slot
    exact h.released kept' idle rfl h.2.1 fun τ => by rw [slot]; rfl

theorem State.BindingsKept.release {e : Entry} (h : s.BindingsKept) (kept' : e.wellKept) (idle : e.acting = false) :
    (releaseEntry n (s.entry n) (s.setEntry n e)).BindingsKept := by
  have replaced (none : (s.entry n).slot = none) : (s.setEntry n e).BindingsKept :=
    h.released kept' idle rfl h.2.1 fun τ => by rw [none]; rfl
  unfold releaseEntry
  split
  next r route =>
    split
    next acting => exact h.releaseDestination kept' idle (Entry.slot_of_acting acting route)
    next still => exact replaced (Entry.slot_of_idle (by simpa using still))
  next route => exact replaced (by simp [Entry.slot, Entry.owns, route])

end

/-! ### Resume -/

/-- A fold that writes each entry of a list without repetition once, from that entry. -/
theorem entry_foldl_of_nodup {f : State → Fin 16 → State} {g : Entry → Entry}
    (each : ∀ s n m, (f s n).entry m = if m = n then g (s.entry m) else s.entry m) (l : List (Fin 16)) (nodup : l.Nodup)
    (s : State) (m : Fin 16) : (l.foldl f s).entry m = if m ∈ l then g (s.entry m) else s.entry m := by
  induction l generalizing s with
  | nil => simp
  | cons n l ih =>
    obtain ⟨fresh, rest⟩ := List.nodup_cons.1 nodup
    rw [List.foldl_cons, ih rest, each]
    by_cases here : m = n
    · simp [here, fresh]
    · simp [here]

/-- R130, step 3: the record of an entry at a Resume. -/
def Entry.resumed (e : Entry) : Entry :=
  match e.route with
  | some r => if r.dest.motorPort.isSome then e.suspend else e
  | none => e

theorem entry_suspendMotorEntry (s : State) (n m : Fin 16) :
    (suspendMotorEntry s n).entry m = if m = n then (s.entry m).resumed else s.entry m := by
  have suspended (x : Entry) (motor : x = (s.entry n).suspend) (resumed : (s.entry n).resumed = x) :
      (suspendEntry n s).entry m = if m = n then (s.entry m).resumed else s.entry m := by
    rw [suspendEntry_eq_setEntry, State.entry_setEntry_eq]
    by_cases same : m = n
    · subst same
      simp [resumed, motor]
    · simp [same, Ne.symm same]
  unfold suspendMotorEntry
  split
  next route => exact suspended _ rfl (by simp [Entry.resumed, route, Destination.motorPort])
  next route => exact suspended _ rfl (by simp [Entry.resumed, route, Destination.motorPort])
  next route => exact suspended _ rfl (by simp [Entry.resumed, route, Destination.motorPort])
  next power speed position =>
    split
    next same =>
      subst same
      unfold Entry.resumed
      split
      next r route =>
        obtain ⟨source, signal, dest⟩ := r
        cases dest with
        | motorPower p => exact absurd route (power _ _ _)
        | motorSpeed p => exact absurd route (speed _ _ _)
        | motorPosition p => exact absurd route (position _ _ _)
        | voicePitch v => rfl
        | voiceVolume v => rfl
        | goTrigger g => rfl
      · rfl
    · rfl

/-- R130, step 3: the entries with a motor destination no longer hold a slot. -/
theorem Entry.resumed_slot (e : Entry) :
    e.resumed.slot = match e.slot with
      | some (.port _) => none
      | other => other := by
  have acting (idle : e.acting = false) : e.slot = none := Entry.slot_of_idle idle
  unfold Entry.resumed
  split
  next r route =>
    have slot (h : e.acting = true) : e.slot = r.dest.slot := Entry.slot_of_acting h route
    cases h : e.acting with
    | false =>
      rw [acting h]
      split
      · exact Entry.suspend_slot e
      · exact acting h
    | true =>
      rw [slot h]
      cases dest : r.dest <;> simp [Destination.motorPort, Destination.slot, Entry.suspend_slot, slot h, dest]
  next route => simp [Entry.slot, Entry.owns, route]

theorem Entry.resumed_wellKept {e : Entry} (kept : e.wellKept) : e.resumed.wellKept := by
  unfold Entry.resumed
  split
  · split
    · exact Entry.suspend_wellKept kept
    · exact kept
  · exact kept

/-- R22: every port takes its resume request. -/
theorem port_resumeAll (s : State) (p : Fin 4) :
    (fourPorts.foldl (fun s p => putPort p (s.port p).resume s) s).port p = (s.port p).resume := by
  have port_putPort (s : State) (p j : Fin 4) (y : Port) : (putPort p y s).port j = if p = j then y else s.port j :=
    State.port_setPort_eq s p j y
  simp only [fourPorts, List.foldl_cons, List.foldl_nil, port_putPort]
  fin_cases p <;> simp

theorem resumeAll_only (s : State) : ∃ ports halt,
    fourPorts.foldl (fun s p => putPort p (s.port p).resume s) s = { s with ports := ports, halt := halt } :=
  ⟨_, _, rfl⟩

theorem suspendMotorAll_only (s : State) : ∃ entries,
    sixteen.foldl suspendMotorEntry s = { s with entries := entries } :=
  foldl_keeps (I := fun t => ∃ entries, t = { s with entries := entries }) (f := suspendMotorEntry)
    (fun {t} n ⟨entries, eq⟩ => by
      obtain ⟨entries', eq'⟩ := suspendMotorEntry_eq t n
      exact ⟨entries', by rw [eq', eq]⟩) sixteen ⟨s.entries, rfl⟩

theorem Port.resume_source {x : Port} (off : x.kind = .none → x.mode = .coast ∧ x.source = .command) :
    x.resume.source = .command := by
  unfold Port.resume
  split
  next none => exact (off none).2
  · rfl

/-- R130: the first steps of a Resume leave the motor slots free, and the others as they are. -/
theorem State.BindingsKept.resume {s : State} (x : Halt) (h : s.BindingsKept) :
    (sixteen.foldl suspendMotorEntry (fourPorts.foldl (fun s p => putPort p (s.port p).resume s)
      (s.setHalt x))).BindingsKept := by
  obtain ⟨kept, off, agree⟩ := h
  have port (p : Fin 4) := port_resumeAll (s.setHalt x) p
  obtain ⟨ports, halt, eq⟩ := resumeAll_only (s.setHalt x)
  generalize fourPorts.foldl (fun s p => putPort p (s.port p).resume s) (s.setHalt x) = u at port eq
  have entry (m : Fin 16) : (sixteen.foldl suspendMotorEntry u).entry m = (s.entry m).resumed := by
    rw [entry_foldl_of_nodup entry_suspendMotorEntry sixteen (by decide), if_pos (by fin_cases m <;> simp [sixteen]), eq]
    rfl
  obtain ⟨entries, eq'⟩ := suspendMotorAll_only u
  generalize sixteen.foldl suspendMotorEntry u = t at entry eq'
  have port' (p : Fin 4) : t.port p = (s.port p).resume := by
    rw [eq']
    exact port p
  have voice (v : Fin 3) : t.voice v = s.voice v := by
    rw [eq', eq]
    rfl
  refine ⟨fun m => by rw [entry]; exact Entry.resumed_wellKept (kept m), fun p none => ?_, fun τ n => ?_⟩
  · rw [port'] at none ⊢
    rw [(Port.resume_step 0 _).kind] at none
    exact ⟨(Port.resume_step 0 _).off none (off p none).1, Port.resume_source (off p)⟩
  · rw [entry, Entry.resumed_slot]
    have was := agree τ n
    cases τ with
    | port p =>
      have free : t.holder (.port p) = none := by
        rw [State.holder, port', Port.resume_source (off p)]
        rfl
      rw [free]
      cases slot : (s.entry n).slot with
      | none => simp
      | some σ => cases σ <;> simp
    | pitch v =>
      rw [State.holder, voice, ← State.holder, was]
      cases slot : (s.entry n).slot with
      | none => simp
      | some σ => cases σ <;> simp
    | volume v =>
      rw [State.holder, voice, ← State.holder, was]
      cases slot : (s.entry n).slot with
      | none => simp
      | some σ => cases σ <;> simp

/-! ### The obligation -/

theorem resetImage_bindingsKept (f : StartFields) (invalid : Bool) (kind : ResetKind) (s : State) :
    (resetImage f invalid kind s).BindingsKept := by
  refine ⟨fun n => ?_, fun p _ => ?_, fun τ n => ?_⟩
  · rw [resetImage_entry]
    exact ⟨by simp [Entry.fresh], by simp [Entry.fresh]⟩
  · rw [resetImage_port]
    exact ⟨rfl, rfl⟩
  · have idle : (Entry.fresh).slot = none := Entry.slot_of_idle rfl
    rw [resetImage_entry, idle]
    cases τ <;> simp [State.holder, Port.fresh, Voice.fresh, Source.entry, VoiceSource.entry]

theorem keptByRows_bindingsKept : KeptByRows State.BindingsKept :=
  have k : KeptByCauses State.BindingsKept := keptByUpdates_bindingsKept.causes fun _ _ h => h.same rfl rfl rfl
  { k with
    bind := fun route passed idle h => h.bind route passed idle
    release := fun {s n e} was h => by
      rcases was with ⟨rfl, busy⟩ | rfl
      · refine h.release ⟨?_, by simp⟩ rfl
        simpa using fun none => busy ((h.1 n).1.2 none)
      · exact h.release ⟨by simp [Entry.fresh], by simp [Entry.fresh]⟩ rfl
    ceiling := fun {s} b h => k.reclampPorts (s := { s with battery := b }) _ (h.same rfl rfl rfl)
    resume := fun _ h => h.resume _
    withdraw := fun c _ h => k.withdraw_of_causes (fun _ _ h => h.same rfl rfl rfl) c h
    clockFailed := fun _ h => k.clockFailed_of_clock (fun _ _ h => h.same rfl rfl rfl) (fun _ _ h => h.same rfl rfl rfl) h
    startFailed := fun _ h => k.startFailed_of_clock (fun _ _ h => h.same rfl rfl rfl) h
    switched := fun _ h => k.switched_of_clock (fun _ _ h => h.same rfl rfl rfl) (fun _ _ h => h.same rfl rfl rfl) _ h
    image := fun {s} kind straps b _ => by
      obtain ⟨f, invalid, eq⟩ := readImage_eq kind straps s
      rw [eq]
      exact (resetImage_bindingsKept f invalid kind s).same rfl rfl rfl }

/-- Settles O59: a slot names the entry that holds it, and no other. -/
theorem ownersAndSourcesAgree : Obligations.OwnersAndSourcesAgree := fun s t owner sources next =>
  (bindingsKept_iff t).1 (keptByRows_bindingsKept.step (fun _ _ h => h.same rfl rfl rfl) next
    ((bindingsKept_iff s).2 ⟨owner, sources⟩))

end Sys2Proof.Machine
end

section

/-! PROOF. A step takes the front command (O1), and the reset state keeps every promise (O60). -/

namespace Sys2Proof.Machine

/-- Settles O1. -/
theorem stepTakesFrontCommand : Obligations.StepTakesFrontCommand := fun _ _ _ => ⟨rfl, rfl⟩

/-- The reset state is the image of a reset with the factory defaults, its battery monitor seeded. -/
theorem reset_eq_resetImage : State.reset = { resetImage (StartFields.factory 1) true .powerOn State.reset with
    signals := State.reset.signals, battery := State.reset.battery } := by
  have sensors : State.reset.sensors = (resetImage (StartFields.factory 1) true .powerOn State.reset).sensors := by
    refine Vector.ext fun i h => ?_
    simp [State.reset, resetImage, StartFields.factory]
  have ports : State.reset.ports = (resetImage (StartFields.factory 1) true .powerOn State.reset).ports := by
    simp [State.reset, resetImage, StartFields.factory]
  dsimp only
  rw [← sensors, ← ports]
  rfl

/-- Settles O60: the reset state is the image of a reset, which keeps every invariant. -/
theorem resetKeepsEveryPromise : Obligations.ResetKeepsEveryPromise := by
  let f := StartFields.factory 1
  have collections : State.reset.CollectionsKept := by
    rw [reset_eq_resetImage]
    exact resetImage_collectionsKept f true .powerOn State.reset
  have halt : State.reset.HaltKept := by
    rw [reset_eq_resetImage]
    exact resetImage_haltKept f true .powerOn State.reset
  have clock : State.reset.ClockKept := by
    rw [reset_eq_resetImage]
    exact resetImage_clockKept f true .powerOn State.reset
  have duty : State.reset.DutyBounded := by
    rw [reset_eq_resetImage]
    exact resetImage_dutyBounded f true .powerOn State.reset _
  have bindings : State.reset.BindingsKept := by
    rw [reset_eq_resetImage]
    exact (resetImage_bindingsKept f true .powerOn State.reset).same rfl rfl rfl
  obtain ⟨⟨quiet, rest⟩, record⟩ := halt
  obtain ⟨⟨silent, causes⟩, retry⟩ := clock
  exact ⟨(collectionsKept_iff _).1 collections, ⟨quiet, rest, record⟩,
    ⟨silent, causes, retry, .of_none rfl⟩, duty, (bindingsKept_iff _).1 bindings⟩

end Sys2Proof.Machine
end

section

/-! PROOF. Each block command is one operation of its block: how a command of the table reaches it, and how its
characters do (O3, O4). -/

namespace Sys2Proof.Machine

/-! ### A block command as an operation of its block -/

/-- The path of a block command and what its block does; `none` for a row that is no block command. -/
def blockOp : Instr → Option (Via × (State → Taken))
  | .coast v i => some (v, atPort i motorCoast)
  | .brake v i => some (v, atPort i motorBrake)
  | .setPower v i duty => some (v, atPort i (motorSetPower duty))
  | .setSpeed v i speed => some (v, atPort i (motorSetSpeed speed))
  | .setPosition v i position => some (v, atPort i (motorSetPosition position))
  | .moveBy v i delta => some (v, atPort i (motorMoveBy delta))
  | .setPattern v i waveform phase cycles => some (v, atPort i (motorSetPattern waveform phase cycles))
  | .setPresets v i lower upper => some (v, atPort i (motorSetPresets lower upper))
  | .setRamp v i step period => some (v, atPort i (motorSetRamp step period))
  | .setGains v i set kp ki => some (v, atPort i (motorSetGains set kp ki))
  | .setLimits v i duty current stall policy => some (v, atPort i (motorSetLimits duty current stall policy))
  | .setSafeAction v i action => some (v, atPort i (motorSetSafeAction action))
  | .setArrival v i window => some (v, atPort i (motorSetArrival window))
  | .zeroPosition v i value => some (v, atPort i (motorZeroPosition value))
  | .queryPort v i => some (v, atPort i motorQueryPort)
  | .setFilter v i beta lbeta n => some (v, atSensor i (sensorSetFilter beta lbeta n))
  | .setThresholds v i activation hysteresis freeze timeout =>
    some (v, atSensor i (sensorSetThresholds activation hysteresis freeze timeout))
  | .setPolarity v i polarity => some (v, atSensor i (sensorSetPolarity polarity))
  | .tune v i target => some (v, atSensor i (sensorTune target))
  | .setTuneRetry v i period => some (v, atSensor i (sensorSetTuneRetry period))
  | .setHaltInput v i setting => some (v, atSensor i (sensorSetHaltInput setting))
  | .querySensor v i => some (v, atSensor i sensorQuery)
  | .note v i record => some (v, atVoice i (voiceNote record))
  | .clearVoice v i => some (v, atVoice i voiceClear)
  | .setEnvelope v i attack release => some (v, atVoice i (voiceSetEnvelope attack release))
  | .setVoiceScale v i scale => some (v, atVoice i (voiceSetScale scale))
  | .setMasterVolume v i volume => some (v, atVoice i (voiceSetMaster volume))
  | .queryVoice v i => some (v, atVoice i voiceQuery)
  | .setPublish v i policy deadband interval => some (v, atSixteen i (signalSetPublish policy deadband interval))
  | .querySignal v i => some (v, atSixteen i signalQuery)
  | .setEntryRoute v i source signal destKind destIndex =>
    some (v, atSixteen i (listenSetRoute source signal destKind destIndex))
  | .setEntryTransform v i weight offset => some (v, atSixteen i (listenSetTransform weight offset))
  | .setEntryClamp v i lower upper => some (v, atSixteen i (listenSetClamp lower upper))
  | .setEntryStale v i timeout action fallback => some (v, atSixteen i (listenSetStale timeout action fallback))
  | .setEntryTrigger v i level => some (v, atSixteen i (listenSetTrigger level))
  | .enable v i => some (v, atSixteen i listenEnable)
  | .disable v i => some (v, atSixteen i listenDisable)
  | .free v i => some (v, atSixteen i listenFree)
  | .queryEntry v i => some (v, atSixteen i listenQuery)
  | .stage v i block windex code args => some (v, atGroup i (stagingStage block windex code args))
  | .cancelGroup v i => some (v, atGroup i stagingCancel)
  | .go v i => some (v, atGroup i stagingGo)
  | .halt v i => some (v, atStation i haltHalt)
  | .resume v i => some (v, atStation i haltResume)
  | .restart v i => some (v, atStation i (stationRestart v))
  | .queryStation v i => some (v, atStation i (stationQuery v))
  | .clockRetry v i => some (v, atStation i (stationClockRetry v))
  | _ => none

/-- R156 to R160: a block command that reaches a part awake. -/
theorem exec_of_blockOp {c : Instr} {v : Via} {op : State → Taken} (block : blockOp c = some (v, op)) {s : State}
    (awake : s.resetHeld = []) : exec c s = ends (answered v (op s)) := by
  cases c
  all_goals cases block
  all_goals
    dsimp only [exec]
    exact State.whenAwake_awake awake _

/-! ### The path checks (R155, R156) -/

theorem commandOf_eq_some {block code : Nat} {c : CommandName} :
    commandOf block code = some c ↔ code / 16 = block ∧ (blockCommands block)[code % 16]? = some c := by
  unfold commandOf
  split
  next same => simp [same]
  next other => simp [other]

theorem commandOf_eq_none {block code : Nat} :
    commandOf block code = none ↔ code / 16 ≠ block ∨ (blockCommands block).length ≤ code % 16 := by
  unfold commandOf
  split
  next same => simp [same]
  next other => simp [other]

/-- R155: only the eight blocks have commands. -/
theorem block_of_command {block k : Nat} {c : CommandName} (h : (blockCommands block)[k]? = some c) :
    1 ≤ block ∧ block ≤ 8 := by
  by_contra outside
  have none : blockCommands block = [] := by
    unfold blockCommands
    split
    iterate 8 exact absurd ⟨by decide, by decide⟩ outside
    rfl
  rw [none] at h
  exact absurd h (by simp)

theorem indexOk_iff {block index : Nat} (low : 1 ≤ block) (high : block ≤ 8) :
    indexOk block index = true ↔ IndexInRange block index := by
  interval_cases block <;> simp [indexOk, IndexInRange]

theorem pathTaken_unknown {via : Via} {block index code : Nat} {args : List Byte} {s : State}
    (none : commandOf block code = none) : pathTaken via block index code args s = refuse .unknownCommand s := by
  simp [pathTaken, pathCheck, none]

theorem pathTaken_badIndex {via : Via} {block index code : Nat} {args : List Byte} {c : CommandName} {s : State}
    (command : commandOf block code = some c) (outside : indexOk block index = false) :
    pathTaken via block index code args s = refuse .badIndex s := by
  simp [pathTaken, pathCheck, command, outside]

theorem pathTaken_badArgument {via : Via} {block index code : Nat} {args : List Byte} {c : CommandName} {s : State}
    (command : commandOf block code = some c) (inside : indexOk block index = true)
    (count : countOk c args.length = false) : pathTaken via block index code args s = refuse .badArgument s := by
  simp [pathTaken, pathCheck, command, inside, count]

theorem pathTaken_ok {via : Via} {block index code : Nat} {args : List Byte} {c : CommandName} {s : State}
    (command : commandOf block code = some c) (inside : indexOk block index = true)
    (count : countOk c args.length = true) : pathTaken via block index code args s = runCommand via c index args s := by
  simp [pathTaken, pathCheck, command, inside, count]

/-- Settles O4. -/
theorem pathChecksInOrder : Obligations.PathChecksInOrder := by
  intro via block index code args c s
  refine ⟨fun unknown => ?_, fun same command outside => ?_, fun same command inside count => ?_⟩
  · rw [carryOut, pathTaken_unknown (commandOf_eq_none.2 unknown)]
  · obtain ⟨low, high⟩ := block_of_command command
    have no : indexOk block index = false := by simpa using mt (indexOk_iff low high).1 outside
    rw [carryOut, pathTaken_badIndex (commandOf_eq_some.2 ⟨same, command⟩) no]
  · obtain ⟨low, high⟩ := block_of_command command
    rw [carryOut, pathTaken_badArgument (commandOf_eq_some.2 ⟨same, command⟩) ((indexOk_iff low high).2 inside) count]

/-! ### Commands by their characters (R187, R190, R191) -/

/-- R156, step 2: a block tells an index outside its range as the path does. -/
theorem runCommand_badIndex {via : Via} {block code index : Nat} {args : List Byte} {c : CommandName} {s : State}
    (command : commandOf block code = some c) (outside : indexOk block index = false) :
    runCommand via c index args s = refuse .badIndex s := by
  obtain ⟨-, listed⟩ := commandOf_eq_some.1 command
  obtain ⟨low, high⟩ := block_of_command listed
  have member := List.mem_of_getElem? listed
  have port (op : Fin 4 → State → Taken) (h : ¬index < 4) : atPort index op s = refuse .badIndex s := dif_neg h
  have sensor (op : Fin 4 → State → Taken) (h : ¬(1 ≤ index ∧ index ≤ 4)) :
      atSensor index op s = refuse .badIndex s := dif_neg h
  have voice (op : Fin 3 → State → Taken) (h : ¬(1 ≤ index ∧ index ≤ 3)) :
      atVoice index op s = refuse .badIndex s := dif_neg h
  have sixteen (op : Fin 16 → State → Taken) (h : ¬index < 16) : atSixteen index op s = refuse .badIndex s := dif_neg h
  have group (op : Nat → State → Taken) (h : ¬(1 ≤ index ∧ index ≤ 7)) :
      atGroup index op s = refuse .badIndex s := if_neg h
  have station (op : State → Taken) (h : ¬index = 0) : atStation index op s = refuse .badIndex s := if_neg h
  interval_cases block
  all_goals
    simp only [blockCommands, List.mem_cons, List.not_mem_nil, or_false] at member
    simp only [indexOk, decide_eq_false_iff_not, Bool.and_eq_false_iff, beq_eq_false_iff_ne, ne_eq] at outside
  · rcases member with rfl | rfl | rfl | rfl | rfl | rfl | rfl | rfl | rfl | rfl | rfl | rfl | rfl | rfl | rfl
    all_goals exact port _ outside
  · rcases member with rfl | rfl | rfl | rfl | rfl | rfl | rfl
    all_goals exact sensor _ (by omega)
  · rcases member with rfl | rfl | rfl | rfl | rfl | rfl
    all_goals exact voice _ (by omega)
  · rcases member with rfl | rfl
    all_goals exact sixteen _ outside
  · rcases member with rfl | rfl | rfl | rfl | rfl | rfl | rfl | rfl | rfl
    all_goals exact sixteen _ outside
  · rcases member with rfl | rfl | rfl
    all_goals exact group _ (by omega)
  · rcases member with rfl | rfl
    all_goals exact station _ outside
  · rcases member with rfl | rfl | rfl
    all_goals exact station _ outside

/-- R156: the path does no more than the block, once the code and the count are right. -/
theorem carryOut_of_command {via : Via} {block index code : Nat} {args : List Byte} {c : CommandName} {s : State}
    (command : commandOf block code = some c) (count : countOk c args.length = true) :
    carryOut via block index code args s = answered via (runCommand via c index args s) := by
  unfold carryOut
  cases inside : indexOk block index with
  | true => rw [pathTaken_ok command inside count]
  | false => rw [pathTaken_badIndex command inside, runCommand_badIndex command inside]

theorem readU_byte {n : Nat} (h : fitsByte n = true) : readU (charsOf 1 n) = n :=
  readU_charsOf_nat (by simpa [fitsByte] using h)

theorem readU_word {n : Nat} (h : fitsWord n = true) : readU (charsOf 2 n) = n :=
  readU_charsOf_nat (by simpa [fitsWord] using h)

theorem readS_signed16 {x : Int} (h : fitsSigned16 x = true) : readS (charsOf 2 x) = x := by
  simp only [fitsSigned16, Bool.and_eq_true, decide_eq_true_eq] at h
  exact readS_charsOf (by norm_num; omega) (by norm_num; omega)

theorem readS_signed24 {x : Int} (h : fitsSigned24 x = true) : readS (charsOf 3 x) = x := by
  simp only [fitsSigned24, Bool.and_eq_true, decide_eq_true_eq] at h
  exact readS_charsOf (by norm_num; omega) (by norm_num; omega)

/-- R190: a note record reads back. -/
theorem readNoteArgs_noteBytes {a : NoteArgs} (h : a.wellFormed = true) : readNoteArgs (noteBytes a) = a := by
  obtain ⟨kind, wave, form, pitch, duration, volume⟩ := a
  simp only [NoteArgs.wellFormed, Bool.and_eq_true, decide_eq_true_eq] at h
  obtain ⟨⟨⟨⟨⟨kindOk, waveOk⟩, formOk⟩, pitchOk⟩, durationOk⟩, volumeOk⟩ := h
  have head : readU (charsOf 1 ((kind + 4 * wave + 16 * form : Nat) : Int)) = kind + 4 * wave + 16 * form :=
    readU_charsOf_nat (by omega)
  change NoteArgs.mk (bitsOf (readU (charsOf 1 ((kind + 4 * wave + 16 * form : Nat) : Int))) 0 2)
    (bitsOf (readU (charsOf 1 ((kind + 4 * wave + 16 * form : Nat) : Int))) 2 2)
    (bitsOf (readU (charsOf 1 ((kind + 4 * wave + 16 * form : Nat) : Int))) 4 1)
    (readU (charsOf 2 pitch)) (readU (charsOf 2 duration)) (readU (charsOf 1 volume)) = _
  rw [head, readU_word pitchOk, readU_word durationOk, readU_byte volumeOk]
  simp only [bitsOf, NoteArgs.mk.injEq, and_self, and_true]
  omega

theorem fieldU_head (k : Nat) (v : Int) (rest : List Byte) : fieldU (charsOf k v ++ rest) 0 k = readU (charsOf k v) := by
  simp [fieldU]

theorem fieldU_whole (k : Nat) (v : Int) : fieldU (charsOf k v) 0 k = readU (charsOf k v) := by
  simpa using fieldU_head k v []

theorem fieldU_tail {k i : Nat} (h : k ≤ i) (v : Int) (rest : List Byte) (n : Nat) :
    fieldU (charsOf k v ++ rest) i n = fieldU rest (i - k) n := by
  simp [fieldU, List.drop_append, List.drop_of_length_le, h]

theorem fieldS_head (k : Nat) (v : Int) (rest : List Byte) : fieldS (charsOf k v ++ rest) 0 k = readS (charsOf k v) := by
  simp [fieldS]

theorem fieldS_whole (k : Nat) (v : Int) : fieldS (charsOf k v) 0 k = readS (charsOf k v) := by
  simpa using fieldS_head k v []

theorem fieldS_tail {k i : Nat} (h : k ≤ i) (v : Int) (rest : List Byte) (n : Nat) :
    fieldS (charsOf k v ++ rest) i n = fieldS rest (i - k) n := by
  simp [fieldS, List.drop_append, List.drop_of_length_le, h]

/-- R191: the fallback of SetEntryStale is present exactly where its characters are. -/
theorem runCommand_setEntryStale {v : Via} {i timeout action : Nat} {fallback : Option Int} {s : State}
    (timeoutOk : fitsByte timeout = true) (actionOk : fitsByte action = true)
    (fallbackOk : fallback.all fitsSigned16 = true) :
    countOk .setEntryStale (staleBytes timeout action fallback).length = true
      ∧ runCommand v .setEntryStale i (staleBytes timeout action fallback) s
        = atSixteen i (listenSetStale timeout action fallback) s := by
  cases fallback with
  | none =>
    refine ⟨by simp [countOk, staleBytes], ?_⟩
    simp [runCommand, staleBytes, fieldU_head, fieldU_whole, fieldU_tail, readU_byte timeoutOk, readU_byte actionOk]
  | some x =>
    refine ⟨by simp [countOk, staleBytes], ?_⟩
    have read : fieldS (charsOf 1 timeout ++ (charsOf 1 action ++ charsOf 2 x)) 2 2 = x := by
      rw [fieldS_tail (by decide), fieldS_tail (by decide)]
      exact (fieldS_whole 2 x).trans (readS_signed16 (by simpa using fallbackOk))
    simp [runCommand, staleBytes, fieldU_head, fieldU_tail, read, readU_byte timeoutOk, readU_byte actionOk]

/-- R109, R191: the wrapped command of a Stage reads back. -/
theorem runCommand_stage {v : Via} {i block windex code : Nat} {args : List Byte} {s : State} (blockOk : block < 16)
    (windexOk : windex < 16) (codeOk : fitsByte code = true) (argsOk : args.length ≤ 7) :
    countOk .stage (charsOf 1 ((16 * block + windex : Nat) : Int) ++ charsOf 1 code ++ args).length = true
      ∧ runCommand v .stage i (charsOf 1 ((16 * block + windex : Nat) : Int) ++ charsOf 1 code ++ args) s
        = atGroup i (stagingStage block windex code args) s := by
  refine ⟨by simp only [countOk, List.length_append, charsOf_length, Bool.and_eq_true, decide_eq_true_eq]; omega, ?_⟩
  have target : readU (charsOf 1 ((16 * block + windex : Nat) : Int)) = 16 * block + windex :=
    readU_charsOf_nat (by omega)
  have high : (16 * block + windex) / 16 = block := by omega
  have low : (16 * block + windex) % 16 = windex := by omega
  simp only [runCommand, List.append_assoc, fieldU_head, fieldU_tail (Nat.le_refl 1), Nat.sub_self, target,
    readU_byte codeOk, high, low]
  rfl

/-- Tables 9-2, 12-5: the characters of a block command name it, and its block reads its arguments back. -/
theorem runCommand_of_parts {c : Instr} {P : Parts} {v : Via} {op : State → Taken} (ok : c.wellFormed = true)
    (parts : partsOf c = some P) (block : blockOp c = some (v, op)) :
    ∃ name, commandOf P.block P.code = some name ∧ countOk name P.args.length = true
      ∧ ∀ s, runCommand P.via name P.index P.args s = op s := by
  obtain ⟨name, command⟩ : ∃ name, commandOf P.block P.code = some name := by
    cases c
    all_goals cases parts
    all_goals simp [commandOf, blockCommands]
  refine ⟨name, command, ?_⟩
  cases c
  all_goals cases parts
  all_goals cases block
  all_goals
    simp only [Instr.wellFormed, Bool.and_eq_true, decide_eq_true_eq] at ok
    simp [commandOf, blockCommands] at command
    subst command
  case setEntryStale =>
    obtain ⟨⟨⟨-, timeoutOk⟩, actionOk⟩, fallbackOk⟩ := ok
    exact ⟨(runCommand_setEntryStale (v := v) (i := 0) (s := State.reset) timeoutOk actionOk fallbackOk).1,
      fun s => (runCommand_setEntryStale timeoutOk actionOk fallbackOk).2⟩
  case stage =>
    obtain ⟨⟨⟨⟨-, blockOk⟩, windexOk⟩, codeOk⟩, argsOk⟩ := ok
    exact ⟨(runCommand_stage (v := v) (i := 0) (s := State.reset) blockOk windexOk codeOk argsOk).1,
      fun s => (runCommand_stage blockOk windexOk codeOk argsOk).2⟩
  case note =>
    exact ⟨by simp [countOk, noteBytes], fun s => by simp only [runCommand, readNoteArgs_noteBytes ok.2]⟩
  all_goals refine ⟨by simp [countOk], fun s => ?_⟩
  all_goals simp [runCommand, fieldU_head, fieldU_whole, fieldU_tail, fieldS_head, fieldS_whole, fieldS_tail, ok,
    readU_byte, readU_word, readS_signed16, readS_signed24]

theorem blockOp_of_parts {c : Instr} {P : Parts} (parts : partsOf c = some P) : ∃ op, blockOp c = some (P.via, op) := by
  cases c
  all_goals cases parts
  all_goals exact ⟨_, rfl⟩

/-- Settles O3. -/
theorem commandsMatchTheirCharacters : Obligations.CommandsMatchTheirCharacters := by
  intro c P s ok parts awake
  obtain ⟨op, block⟩ := blockOp_of_parts parts
  obtain ⟨name, command, count, run⟩ := runCommand_of_parts ok parts block
  rw [exec_of_blockOp block awake, carryOut_of_command command count, run]

end Sys2Proof.Machine
end

section

/-! PROOF. The answer of a command on its way back (O5), and the parts of a reply (O6). -/

namespace Sys2Proof.Machine

/-! ### Messages for the tablet (R172) -/

theorem OutMsg.samePair_eq_false {m : OutMsg} (other : m.isTelemetry = false) (n : OutMsg) : m.samePair n = false := by
  cases m with
  | telemetry => simp [OutMsg.isTelemetry] at other
  | _ => rfl

/-- R172: a message that is no telemetry joins the tail of a FIFO that has room. -/
theorem Lane.take_of_room {l : Lane} {m : OutMsg} (other : m.isTelemetry = false) (room : l.outbound.length < 6) :
    l.take m = l.join m := by
  have apart : l.outbound.any (fun x => m.samePair x.msg) = false := by
    simp [OutMsg.samePair_eq_false other]
  rw [Lane.take, if_neg (by simp [apart]), if_pos room]

/-- R172: a message that is no telemetry is dropped at a full FIFO. -/
theorem Lane.take_of_full {l : Lane} {m : OutMsg} (other : m.isTelemetry = false) (full : 6 ≤ l.outbound.length) :
    l.take m = { l with dropped := true } := by
  have apart : l.outbound.any (fun x => m.samePair x.msg) = false := by
    simp [OutMsg.samePair_eq_false other]
  rw [Lane.take, if_neg (by simp [apart]), if_neg (by omega), if_neg (by simp [other])]

/-- R174: the tail of a FIFO is the message that joined. -/
theorem Lane.join_msgs (l : Lane) (m : OutMsg) :
    (l.join m).outbound.map OutSlot.msg = l.outbound.map OutSlot.msg ++ [m] := by
  unfold Lane.join
  dsimp only
  split
  · simp [releaseSlots]
  · simp

theorem tell_absent {s : State} (absent : s.link.present = false) (l : Fin 4) (m : OutMsg) : tell l m s = s := by
  simp [tell, absent]

theorem tell_present {s : State} (present : s.link.present = true) (l : Fin 4) (m : OutMsg) :
    tell l m s = s.setLane l ((s.lane l).take m) := by
  simp [tell, present]

/-! ### Reply frames (R136, R137, R192) -/

theorem replyParts_of_short {fields : List (List Byte)} (short : fields.flatten.length ≤ 10) :
    replyParts fields = [fields.flatten] := if_pos short

theorem replyRequest_withdrawn {s : State} (withdrawn : s.isWithdrawn = true) (d : Nat) (p : List Byte) :
    replyRequest d p s = s := by simp [replyRequest, withdrawn]

/-- R137: a frame joins a queue that has room. -/
theorem joinQueue_of_room {f : Frame} {s : State} (room : s.bus.queue.length < 8) :
    joinQueue f s = (s.setBus { s.bus with queue := insertFrame f s.bus.queue }, true) := if_pos room

/-- R137: a full queue refuses a frame whose code is no lower than any it holds. -/
theorem joinQueue_refused {f : Frame} {s : State} (full : 8 ≤ s.bus.queue.length)
    (low : ∀ g ∈ s.bus.queue, g.kind.code ≤ f.kind.code) : joinQueue f s = (s, false) := by
  rw [joinQueue, if_neg (Nat.not_lt.2 full)]
  split
  · rfl
  next g last => exact if_neg (Nat.not_lt.2 (low g (List.mem_of_getLast? last)))

/-- R137: a full queue takes a frame of lower code than its last, which it evicts. -/
theorem joinQueue_evicts {f g : Frame} {s : State} (full : 8 ≤ s.bus.queue.length)
    (last : s.bus.queue.getLast? = some g) (lower : f.kind.code < g.kind.code) :
    joinQueue f s
      = (frameLost g (s.setBus { s.bus with queue := insertFrame f s.bus.queue.dropLast }), true) := by
  rw [joinQueue, if_neg (Nat.not_lt.2 full), last]
  exact if_pos lower

/-- R137: a frame that does not join changes nothing. -/
theorem joinQueue_of_refused {f : Frame} {s : State} (refused : (joinQueue f s).2 = false) : (joinQueue f s).1 = s := by
  unfold joinQueue at *
  split at refused
  · simp at refused
  next full =>
    rw [if_neg full]
    split at refused
    · rfl
    · split at refused
      · simp at refused
      next low => rw [if_neg low]

theorem replyRequest_up {s : State} (up : s.isWithdrawn = false) (d : Nat) (p : List Byte) :
    replyRequest d p s = (joinQueue ⟨.reply, d, p, s.bus.nextStamp, none, false⟩ (passStamp s)).1 := by
  rw [replyRequest, if_neg (by simp [up])]
  rfl

/-- R137: a Reply request that finds room in the queue. -/
theorem replyRequest_of_room {s : State} (up : s.isWithdrawn = false) (room : s.bus.queue.length < 8) (d : Nat)
    (p : List Byte) : replyRequest d p s = s.setBus { s.bus with
      nextStamp := s.bus.nextStamp + 1,
      queue := insertFrame ⟨.reply, d, p, s.bus.nextStamp, none, false⟩ s.bus.queue } := by
  rw [replyRequest_up up, joinQueue_of_room (s := passStamp s) room]
  rfl

/-- R137: a Reply request refused by a full queue. -/
theorem replyRequest_refused {s : State} (up : s.isWithdrawn = false) (full : 8 ≤ s.bus.queue.length)
    (low : ∀ g ∈ s.bus.queue, g.kind.code ≤ 3) (d : Nat) (p : List Byte) :
    replyRequest d p s = s.setBus { s.bus with nextStamp := s.bus.nextStamp + 1 } := by
  rw [replyRequest_up up, joinQueue_refused (f := ⟨.reply, d, p, s.bus.nextStamp, none, false⟩) (s := passStamp s) full low]
  rfl

/-- R137: a Reply request that evicts the youngest frame of the highest code. -/
theorem replyRequest_evicts {s : State} {g : Frame} (up : s.isWithdrawn = false) (full : 8 ≤ s.bus.queue.length)
    (last : s.bus.queue.getLast? = some g) (high : 3 < g.kind.code) (d : Nat) (p : List Byte) :
    replyRequest d p s = s.setBus { s.bus with
      nextStamp := s.bus.nextStamp + 1,
      queue := insertFrame ⟨.reply, d, p, s.bus.nextStamp, none, false⟩ s.bus.queue.dropLast,
      announcePending := s.bus.announcePending || g.kind == .announce } := by
  rw [replyRequest_up up,
    joinQueue_evicts (f := ⟨.reply, d, p, s.bus.nextStamp, none, false⟩) (s := passStamp s) full last high]
  dsimp only
  unfold frameLost
  cases kind : g.kind with
  | go => simp [kind, FrameKind.code] at high
  | command => simp [kind, FrameKind.code] at high
  | reply => simp [kind, FrameKind.code] at high
  | event => simp [passStamp, State.setBus]
  | signal => simp [passStamp, State.setBus]
  | announce => simp [passStamp, State.setBus]

theorem answered_bus_one {s : State} {r : Result} {data : List (List Byte)} (short : data.flatten.length ≤ 10)
    (d tk : Nat) : answered (.bus d tk) (s, some ⟨r, data⟩)
      = replyRequest d (BitVec.ofNat 8 tk :: BitVec.ofNat 8 r.code :: data.flatten) s := by
  simp only [answered, busReply, replyParts_of_short short, List.foldl_cons, List.foldl_nil]

/-- Settles O5. -/
theorem answerGoesBackByPath : Obligations.AnswerGoesBackByPath := by
  intro s r data d tk g led onBus one frame passed
  have told : answered (.tablet d tk) (s, some ⟨r, data⟩) = tell 1 (.reply d tk r.code data.flatten) s := rfl
  refine ⟨rfl, ?_, ?_, fun absent => tell_absent absent _ _, fun present room => ?_, fun present full => ?_, rfl,
    fun withdrawn => ?_, fun ⟨up, short⟩ room => ?_, fun ⟨up, short⟩ full low => ?_, fun ⟨up, short⟩ full last high => ?_⟩
  · rintro (rfl | rfl)
    · rfl
    · rfl
  · intro done staged
    have refused : r.accepted = false := by cases r <;> simp_all [Result.accepted]
    simp [answered, refused]
  · rw [told, tell_present present, Lane.take_of_room rfl room]
    refine ⟨?_, ?_⟩
    · rw [State.lane_setLane]
      rfl
    · rw [State.lane_setLane, Lane.join_msgs]
  · rw [told, tell_present present, Lane.take_of_full rfl (by omega)]
  · have same (parts : List (List Byte)) : parts.foldl (fun t part => replyRequest d (led part) t) s = s := by
      induction parts with
      | nil => rfl
      | cons p ps ih => rw [List.foldl_cons, replyRequest_withdrawn withdrawn, ih]
    exact same _
  · have sent : onBus = _ := (answered_bus_one short d tk).trans (replyRequest_of_room up room d _)
    exact ⟨by rw [sent]; rfl, by rw [sent]; exact insertFrame_perm frame s.bus.queue⟩
  · exact (answered_bus_one short d tk).trans (replyRequest_refused up full low d _)
  · have sent : onBus = _ := (answered_bus_one short d tk).trans (replyRequest_evicts up full last high d _)
    refine ⟨by rw [sent]; rfl, ?_⟩
    have whole : s.bus.queue = s.bus.queue.dropLast ++ [g] := (List.dropLast_append_getLast? g last).symm
    rw [sent]
    exact ((insertFrame_perm frame s.bus.queue.dropLast).append_right [g]).trans (.of_eq (by rw [List.cons_append, ← whole]))

/-! ### Requests to the transmit queue (R136, R137) -/

theorem Frame.before_of_behind {f g h : Frame} (first : f.before g = true) (behind : h.before g = false) :
    f.before h = true := by
  rw [← Bool.not_eq_true, Frame.before_iff] at behind
  rw [Frame.before_iff] at first ⊢
  omega

/-- R136: where a frame goes in an ordered queue. -/
theorem insertFrame_split (f : Frame) {q : List Frame} (ordered : queueOrdered q) :
    ∃ k ≤ q.length, insertFrame f q = q.take k ++ f :: q.drop k ∧ (∀ h ∈ q.take k, f.before h = false)
      ∧ ∀ h ∈ q.drop k, f.before h = true := by
  induction q with
  | nil => exact ⟨0, Nat.le_refl 0, rfl, by simp, by simp⟩
  | cons g q ih =>
    obtain ⟨behind, rest⟩ := ordered
    cases first : f.before g with
    | true =>
      refine ⟨0, Nat.zero_le _, if_pos first, by simp, fun h mem => ?_⟩
      rcases List.mem_cons.1 mem with rfl | mem
      · exact first
      · exact Frame.before_of_behind first (behind h mem).1
    | false =>
      obtain ⟨k, le, eq, before, after⟩ := ih rest
      refine ⟨k + 1, Nat.succ_le_succ le, ?_, fun h mem => ?_, after⟩
      · rw [insertFrame, if_neg (by simp [first]), eq]
        rfl
      · rcases List.mem_cons.1 mem with rfl | mem
        · exact first
        · exact before h mem

theorem queueOrdered_dropLast {q : List Frame} (ordered : queueOrdered q) : queueOrdered q.dropLast := by
  rw [queueOrdered_iff_pairwise] at *
  exact ordered.sublist (List.dropLast_sublist q)

/-- R136: the last frame is the youngest of the highest code. -/
theorem last_youngest {q : List Frame} {g : Frame} (ordered : queueOrdered q) (last : q.getLast? = some g) {h : Frame}
    (mem : h ∈ q) : h.kind.code ≤ g.kind.code ∧ (h.kind = g.kind → h.stamp ≤ g.stamp) := by
  rw [← List.dropLast_append_getLast? g last] at mem ordered
  rw [queueOrdered_iff_pairwise, List.pairwise_append] at ordered
  rcases List.mem_append.1 mem with front | back
  · have not_before := (ordered.2.2 h front g (by simp)).1
    rw [← Bool.not_eq_true, Frame.before_iff] at not_before
    refine ⟨by omega, fun same => ?_⟩
    rw [same] at not_before
    omega
  · obtain rfl : h = g := by simpa using back
    exact ⟨Nat.le_refl _, fun _ => Nat.le_refl _⟩

theorem tell_forwarded (l : Fin 4) (m : OutMsg) (s : State) : (tell l m s).link.forwarded = s.link.forwarded := by
  unfold tell
  split
  · rfl
  · rfl

/-- R169: a Command frame that leaves lowers the forwarded count. -/
theorem reportOrigin_forwarded (o : Origin) (r : Option Result) (s : State) :
    (reportOrigin (some o) r s).link.forwarded = s.link.forwarded - 1 := by
  unfold reportOrigin
  cases r with
  | none => rfl
  | some r => exact tell_forwarded _ _ _

theorem frameLost_queue (g : Frame) (s : State) : (frameLost g s).bus.queue = s.bus.queue := by
  unfold frameLost
  split
  · unfold reportOrigin
    split
    · rfl
    · dsimp only
      rw [tabletReply_bus]
      rfl
  · rfl
  · rfl

theorem FrameKind.code_injective {k l : FrameKind} (h : k.code = l.code) : k = l := by
  cases k <;> cases l <;> first | rfl | cases h

/-- A payload of one character is read back from its number. -/
theorem payload_of_readU {p p' : List Byte} (one : p.length = 1) (one' : p'.length = 1) (h : readU p = readU p') :
    p = p' := by
  obtain ⟨b, rfl⟩ := List.length_eq_one_iff.1 one
  obtain ⟨b', rfl⟩ := List.length_eq_one_iff.1 one'
  simpa [readU, BitVec.toNat_inj] using h

/-- R109, R136: the queue holds a Go frame of each group 1..7 once at most, so not Go frames alone when it is full. -/
theorem goFrames_length {q : List Frame} (ordered : queueOrdered q) (all : ∀ f ∈ q, f.kind = .go)
    (groups : ∀ f ∈ q, f.kind = .go → 1 ≤ readU f.payload ∧ readU f.payload ≤ 7 ∧ f.payload.length = 1) :
    q.length ≤ 7 := by
  have nodup : (q.map fun f => readU f.payload).Nodup := by
    rw [List.Nodup, List.pairwise_map]
    refine ((queueOrdered_iff_pairwise q).1 ordered).imp_of_mem fun {f g} memF memG ahead same => ?_
    obtain ⟨-, -, one⟩ := groups f memF (all f memF)
    obtain ⟨-, -, one'⟩ := groups g memG (all g memG)
    have identity := ahead.2
    simp [Frame.sameIdentity, all f memF, all g memG, payload_of_readU one one' same] at identity
  have subset : (q.map fun f => readU f.payload).toFinset ⊆ Finset.Icc 1 7 := by
    intro n mem
    obtain ⟨f, memF, rfl⟩ := List.mem_map.1 (List.mem_toFinset.1 mem)
    obtain ⟨low, high, -⟩ := groups f memF (all f memF)
    exact Finset.mem_Icc.2 ⟨low, high⟩
  have card := Finset.card_le_card subset
  rw [List.toFinset_card_of_nodup nodup] at card
  simpa using card

/-- R113: a Go request finds room at a station that is not Withdrawn: a queue cannot be full of Go frames. -/
theorem goRequest_joins {s : State} {group : Nat} (ordered : s.QueueOrdered) (up : s.isWithdrawn = false)
    (groups : ∀ f ∈ s.bus.queue, f.kind = .go →
      1 ≤ readU f.payload ∧ readU f.payload ≤ 7 ∧ f.payload.length = 1) :
    (goRequest group s).2 = true
      ∧ ∃ f ∈ (goRequest group s).1.bus.queue, f.kind = .go ∧ f.payload = [BitVec.ofNat 8 group] := by
  unfold goRequest
  rw [if_neg (by simp [up])]
  split
  next queued =>
    obtain ⟨f, mem, same⟩ := List.any_eq_true.1 queued
    exact ⟨rfl, f, mem, by simpa using same⟩
  · let f : Frame := newFrame .go 0 [BitVec.ofNat 8 group] none s
    change (joinQueue f (passStamp s)).2 = true ∧ ∃ g ∈ (joinQueue f (passStamp s)).1.bus.queue, _
    rcases Nat.lt_or_ge s.bus.queue.length 8 with room | full
    · rw [joinQueue_of_room (s := passStamp s) room]
      exact ⟨rfl, f, mem_insertFrame.2 (.inl rfl), rfl, rfl⟩
    · have filled : s.bus.queue ≠ [] := fun empty => by simp [empty] at full
      obtain ⟨g, last⟩ : ∃ g, s.bus.queue.getLast? = some g := ⟨_, List.getLast?_eq_some_getLast filled⟩
      have higher : f.kind.code < g.kind.code := by
        by_contra low
        have all : ∀ h ∈ s.bus.queue, h.kind = .go := fun h mem => by
          have := (last_youngest ordered last mem).1
          refine FrameKind.code_injective ?_
          have least : 1 ≤ h.kind.code := by cases h.kind <;> decide
          exact Nat.le_antisymm (this.trans (Nat.not_lt.1 low)) least
        have := goFrames_length ordered all groups
        omega
      rw [joinQueue_evicts (s := passStamp s) full last higher]
      refine ⟨rfl, f, ?_, rfl, rfl⟩
      dsimp only
      rw [frameLost_queue]
      exact mem_insertFrame.2 (.inl rfl)

/-- Settles O36. -/
theorem transmitQueueRequests : Obligations.TransmitQueueRequests := by
  intro f g i group d bi code o chars s ordered q own payload kind ahead placed passed added announce command
  have ahead_iff (a b : Frame) : ahead a b ↔ a.before b = true := Frame.before_iff.symm
  have inserted {l : List Frame} (h : queueOrdered l) : placed l (insertFrame f l) := by
    obtain ⟨k, le, eq, before, after⟩ := insertFrame_split f h
    refine ⟨⟨k, Nat.lt_succ_of_le le⟩, eq, fun h mem => ?_, fun h mem => (ahead_iff f h).2 (after h mem)⟩
    rw [ahead_iff]
    simp [before h mem]
  refine ⟨fun room => ?_, fun full low => joinQueue_refused full low, fun full last => ?_, fun withdrawn => ?_,
    fun up queued => ?_, fun up unqueued => ?_, fun up => replyRequest_up up d chars, fun up queued => ?_,
    fun up unqueued => ?_, fun up => ?_, fun up unqueued => ?_, fun up queued => ?_,
    fun up groups _ _ => goRequest_joins ordered up groups⟩
  · rw [joinQueue_of_room room]
    exact ⟨rfl, rfl, inserted ordered⟩
  · refine ⟨fun h mem => last_youngest ordered last mem, fun lower => ?_⟩
    rw [joinQueue_evicts full last lower]
    refine ⟨rfl, ?_, List.dropLast_append_getLast? g last, fun isCommand z origin => ?_, fun isAnnounce => ?_⟩
    · dsimp only
      rw [frameLost_queue]
      exact inserted (queueOrdered_dropLast ordered)
    · simp only [frameLost, isCommand, Option.mem_def.1 origin]
      rw [reportOrigin_forwarded, State.setBus_link]
    · simp only [frameLost, isAnnounce]
      rfl
  · simp [publishRequest, goRequest, replyRequest, announceRequest, commandRequest, withdrawn]
  · have here : s.signalQueued i = true := queued
    rw [publishRequest]
    simp only [up, here, if_true]
    simp [refreshFrames, q, payload]
  · have absent : s.signalQueued i = false := unqueued
    rw [publishRequest]
    simp only [up, absent]
    rfl
  · obtain ⟨h, mem, isAnnounce⟩ := queued
    have any : s.bus.queue.any (fun f => f.kind == .announce) = true :=
      List.any_eq_true.2 ⟨h, mem, by simp [isAnnounce]⟩
    simp [announceRequest, up, any]
  · have absent : s.bus.queue.any (fun f => f.kind == .announce) = false := by
      simpa using unqueued
    have eq : announceRequest s = if (added .announce 0 announce none).2 then (added .announce 0 announce none).1
        else (added .announce 0 announce none).1.setBus
          { (added .announce 0 announce none).1.bus with announcePending := true } := by
      rw [announceRequest, if_neg (by simp [up]), if_neg (by simp [absent])]
      rfl
    refine ⟨fun joins => by rw [eq, if_pos joins], fun refused => ?_⟩
    rw [eq, if_neg (by simp [refused]), joinQueue_of_refused refused]
  · rw [commandRequest, if_neg (by simp [up])]
    rfl
  · have absent : s.bus.queue.any (fun f => f.kind == .go && f.payload == [BitVec.ofNat 8 group]) = false := by
      simpa using unqueued
    rw [goRequest, if_neg (by simp [up]), if_neg (by simp [absent])]
    rfl
  · obtain ⟨h, mem, isGo, same⟩ := queued
    have any : s.bus.queue.any (fun f => f.kind == .go && f.payload == [BitVec.ofNat 8 group]) = true :=
      List.any_eq_true.2 ⟨h, mem, by simp [isGo, same]⟩
    simp [goRequest, up, any]

end Sys2Proof.Machine
end

section

/-! PROOF. The parts of a reply (O6). -/

namespace Sys2Proof.Machine

/-- R192: the fields of each part of a reply, in order. -/
def groupFields : List (List Byte) → List (List Byte) → List (List (List Byte))
  | part, [] => [part]
  | part, f :: fs =>
    if part.flatten.length + f.length ≤ 9 then groupFields (part ++ [f]) fs else part :: groupFields [f] fs

theorem packFields_eq (part fields : List (List Byte)) :
    packFields part.flatten fields = (groupFields part fields).map List.flatten := by
  induction fields generalizing part with
  | nil => rfl
  | cons f fs ih =>
    unfold packFields groupFields
    split
    · simpa using ih (part ++ [f])
    · simpa using ih [f]

theorem groupFields_flatten (part fields : List (List Byte)) : (groupFields part fields).flatten = part ++ fields := by
  induction fields generalizing part with
  | nil => simp [groupFields]
  | cons f fs ih =>
    unfold groupFields
    split
    · simp [ih]
    · simp [ih]

theorem groupFields_le {part fields : List (List Byte)} (fits : part.flatten.length ≤ 9)
    (short : ∀ f ∈ fields, f.length ≤ 9) : ∀ p ∈ groupFields part fields, p.flatten.length ≤ 9 := by
  induction fields generalizing part with
  | nil => simpa [groupFields] using fits
  | cons f fs ih =>
    obtain ⟨head, tail⟩ := List.forall_mem_cons.1 short
    unfold groupFields
    split
    next room => exact ih (by simpa using room) tail
    · exact List.forall_mem_cons.2 ⟨fits, ih (by simpa using head) tail⟩

/-- The first part begins with the fields already there. -/
theorem groupFields_eq_cons (part fields : List (List Byte)) :
    ∃ more rest, groupFields part fields = (part ++ more) :: rest := by
  induction fields generalizing part with
  | nil => exact ⟨[], [], by simp [groupFields]⟩
  | cons f fs ih =>
    unfold groupFields
    split
    · obtain ⟨more, rest, eq⟩ := ih (part ++ [f])
      exact ⟨f :: more, rest, by simp [eq]⟩
    · exact ⟨[], _, by rw [List.append_nil]⟩

/-- R192: a part ends where the next field would not fit. -/
theorem groupFields_greedy (part fields : List (List Byte)) (k : Nat) (f : List Byte)
    (next : ((groupFields part fields)[k + 1]?).bind List.head? = some f) (p : List (List Byte))
    (here : (groupFields part fields)[k]? = some p) : 9 < p.flatten.length + f.length := by
  induction fields generalizing part k with
  | nil => simp [groupFields] at next
  | cons g fs ih =>
    unfold groupFields at next here
    split at next
    next room =>
      rw [if_pos room] at here
      exact ih _ k next here
    next full =>
      rw [if_neg full] at here
      cases k with
      | zero =>
        obtain ⟨more, rest, eq⟩ := groupFields_eq_cons [g] fs
        obtain rfl : g = f := by simpa [eq] using next
        obtain rfl : part = p := by simpa using here
        omega
      | succ k => exact ih _ k (by simpa using next) (by simpa using here)

theorem numberParts_eq (count k : Nat) (ps : List (List (List Byte))) :
    numberParts count (k + 1) (ps.map List.flatten)
      = (ps.zipIdx k).map fun (p, j) => BitVec.ofNat 8 (16 * (j + 1) + count) :: p.flatten := by
  induction ps generalizing k with
  | nil => rfl
  | cons p ps ih => simp [numberParts, ih]

/-- R192: a reply of more than 10 characters goes in numbered parts. -/
theorem replyParts_of_long {fields : List (List Byte)} (long : 10 < fields.flatten.length) :
    replyParts fields = (groupFields [] fields).zipIdx.map fun (p, k) =>
      BitVec.ofNat 8 (16 * (k + 1) + (groupFields [] fields).length) :: p.flatten := by
  have packed := packFields_eq [] fields
  rw [List.flatten_nil] at packed
  rw [replyParts, if_neg (by omega), packed]
  dsimp only
  rw [List.length_map]
  exact numberParts_eq _ 0 _

/-- Settles O6. -/
theorem replyPartsHoldWholeFields : Obligations.ReplyPartsHoldWholeFields := by
  refine ⟨fun fields _ short => replyParts_of_short short, fun fields short long => ?_, fun _ _ => rfl, fun _ => rfl,
    fun _ _ => rfl, fun _ => rfl, fun _ _ _ _ _ => rfl, fun source n tk code part s number token result => ?_⟩
  · exact ⟨groupFields [] fields, groupFields_flatten [] fields, groupFields_le (by simp) short,
      groupFields_greedy [] fields, replyParts_of_long long⟩
  · have own : s.isOwn n = true := by simp [State.isOwn, number]
    simp only [replyFrame, own, if_true, fieldU, List.drop_zero, List.drop_succ_cons, List.take_succ_cons, List.take_zero,
      readU, BitVec.toNat_ofNat]
    rw [Nat.mod_eq_of_lt token, Nat.mod_eq_of_lt result]
    simp

end Sys2Proof.Machine
end

section

/-! PROOF. What the commands of a block leave alone in the other blocks (O7). -/

namespace Sys2Proof.Machine

/-! ### How far a block reaches -/

/-- `t` is `s` but for what a command to a port or an entry reaches: all that an update can, and the halt record
but for its causes. -/
def OnlyBinding (s t : State) : Prop :=
  ∃ u h, OnlyUpdate s u ∧ t = u.setHalt h ∧ h.first = s.halt.first ∧ h.firstPort = s.halt.firstPort
    ∧ h.further = s.halt.further

/-- `t` is `s` but for what a halt cause reaches and the sensor ports. -/
def OnlySensing (s t : State) : Prop := ∃ sensors, OnlyHalt { s with sensors := sensors } t

/-- `t` is `s` but for what an update reaches and the staging list. -/
def OnlyStaging (s t : State) : Prop := ∃ l, OnlyUpdate (s.setStaging l) t

theorem OnlyUpdate.halt_eq {s t : State} (h : OnlyUpdate s t) : t.halt = s.halt := by
  obtain ⟨_, _, _, _, _, _, _, _, rfl⟩ := h
  rfl

theorem OnlyUpdate.binding {s t : State} (h : OnlyUpdate s t) : OnlyBinding s t :=
  ⟨t, t.halt, h, rfl, by rw [h.halt_eq], by rw [h.halt_eq], by rw [h.halt_eq]⟩

theorem OnlyBinding.trans {s t u : State} (h : OnlyBinding s t) (g : OnlyBinding t u) : OnlyBinding s u := by
  obtain ⟨_, x, ⟨_, _, _, _, _, _, _, _, rfl⟩, rfl, first, port, further⟩ := h
  obtain ⟨_, y, ⟨p, v, a, i, e, m, b, k, rfl⟩, rfl, first', port', further'⟩ := g
  exact ⟨_, y, ⟨p, v, a, i, e, m, b, k, rfl⟩, rfl, first'.trans first, port'.trans port, further'.trans further⟩

theorem OnlyHalt.sensing {s t : State} (h : OnlyHalt s t) : OnlySensing s t := ⟨s.sensors, h⟩

theorem OnlySensing.trans {s t u : State} (h : OnlySensing s t) (g : OnlySensing t u) : OnlySensing s u := by
  obtain ⟨_, _, _, _, _, _, _, _, _, _, _, rfl⟩ := h
  obtain ⟨x, p, v, a, i, e, l, m, c, b, k, rfl⟩ := g
  exact ⟨x, p, v, a, i, e, l, m, c, b, k, rfl⟩

theorem OnlySensing.setSensor (p : Fin 4) (x : Sensor) (s : State) : OnlySensing s (s.setSensor p x) :=
  ⟨s.sensors.set p x, .refl _⟩

theorem OnlyUpdate.sensing {s t : State} (h : OnlyUpdate s t) : OnlySensing s t := h.halt.sensing

theorem OnlyUpdate.staging {s t : State} (h : OnlyUpdate s t) : OnlyStaging s t := by
  obtain ⟨p, v, a, i, e, m, b, k, rfl⟩ := h
  exact ⟨s.staging, p, v, a, i, e, m, b, k, rfl⟩

theorem OnlyStaging.update {s t u : State} (h : OnlyStaging s t) (g : OnlyUpdate t u) : OnlyStaging s u := by
  obtain ⟨l, reach⟩ := h
  exact ⟨l, reach.trans g⟩

/-! ### The Motor block -/

theorem putPort_binding (p : Fin 4) (x : Port) (s : State) : OnlyBinding s (putPort p x s) :=
  ⟨s.setPort p x, _, .setPort p x s, rfl, rfl, rfl, rfl⟩

theorem directMotion_binding (p : Fin 4) (src : Source) (move : Port → Port) (s : State) :
    OnlyBinding s (directMotion p src move s) :=
  ((suspendSource_only _ s).binding.trans (putPort_binding p _ _)).trans (noteEvents_only p _ _).binding

theorem motorTaken_binding {need : EncoderNeed} {motion : Bool} {p : Fin 4} {op : State → Taken} {s : State}
    (h : OnlyBinding s (op s).1) : OnlyBinding s (motorTaken need motion p op s).1 := by
  unfold motorTaken
  split
  · exact (OnlyUpdate.refl s).binding
  · exact h

theorem configure_binding (p : Fin 4) (f : Port → Port) (s : State) : OnlyBinding s (configure p f s).1 :=
  (OnlyUpdate.setPort p _ s).binding

/-- An operation of one record at an index answers within a relation. -/
theorem atPort_reaches {R : State → State → Prop} {op : Fin 4 → State → Taken} {s : State} (refl : R s s)
    (each : ∀ p, R s (op p s).1) (i : Nat) : R s (atPort i op s).1 := by
  unfold atPort
  split
  · exact each _
  · exact refl

theorem atSensor_reaches {R : State → State → Prop} {op : Fin 4 → State → Taken} {s : State} (refl : R s s)
    (each : ∀ p, R s (op p s).1) (i : Nat) : R s (atSensor i op s).1 := by
  unfold atSensor
  split
  · exact each _
  · exact refl

theorem atVoice_reaches {R : State → State → Prop} {op : Fin 3 → State → Taken} {s : State} (refl : R s s)
    (each : ∀ v, R s (op v s).1) (i : Nat) : R s (atVoice i op s).1 := by
  unfold atVoice
  split
  · exact each _
  · exact refl

theorem atSixteen_reaches {R : State → State → Prop} {op : Fin 16 → State → Taken} {s : State} (refl : R s s)
    (each : ∀ n, R s (op n s).1) (i : Nat) : R s (atSixteen i op s).1 := by
  unfold atSixteen
  split
  · exact each _
  · exact refl

theorem atGroup_reaches {R : State → State → Prop} {op : Nat → State → Taken} {s : State} (refl : R s s)
    (each : ∀ g, R s (op g s).1) (i : Nat) : R s (atGroup i op s).1 := by
  unfold atGroup
  split
  · exact each _
  · exact refl

theorem atStation_reaches {R : State → State → Prop} {op : State → Taken} {s : State} (refl : R s s)
    (each : R s (op s).1) (i : Nat) : R s (atStation i op s).1 := by
  unfold atStation
  split
  · exact each
  · exact refl

/-- A done command leaves the state that it is done with. -/
theorem done_reaches {R : State → State → Prop} {s t : State} (h : R s t) : R s (done t).1 := h

theorem blockOp_motor {c : Instr} {P : Parts} {op : State → Taken} (parts : partsOf c = some P)
    (block : blockOp c = some (P.via, op)) (motor : P.block = 1) (s : State) : OnlyBinding s (op s).1 := by
  have refl := (OnlyUpdate.refl s).binding
  have moved (p : Fin 4) (src : Source) (move : Port → Port) : OnlyBinding s (done (directMotion p src move s)).1 :=
    done_reaches (directMotion_binding p src move s)
  cases c
  all_goals cases parts
  all_goals cases motor
  all_goals cases block
  all_goals refine atPort_reaches refl (fun p => ?_) _
  case coast => exact motorTaken_binding (moved p _ _)
  case brake => exact motorTaken_binding (moved p _ _)
  case setPower => exact motorTaken_binding (moved p _ _)
  case setSpeed => exact motorTaken_binding (moved p _ _)
  case setPosition => exact motorTaken_binding (moved p _ _)
  case moveBy => exact motorTaken_binding (moved p _ _)
  case setPattern =>
    refine motorTaken_binding ?_
    split
    · exact refl
    · split
      · exact refl
      · exact moved p _ _
  case setPresets =>
    refine motorTaken_binding ?_
    split
    · exact configure_binding p _ s
    · exact refl
  case setRamp => exact motorTaken_binding (configure_binding p _ s)
  case setGains =>
    refine motorTaken_binding ?_
    dsimp only
    split
    · exact refl
    · exact configure_binding p _ s
    · exact configure_binding p _ s
  case setLimits =>
    refine motorTaken_binding ?_
    split
    · exact refl
    · exact configure_binding p _ s
  case setSafeAction =>
    refine motorTaken_binding ?_
    split
    · exact refl
    · exact configure_binding p _ s
  case setArrival => exact motorTaken_binding (configure_binding p _ s)
  case zeroPosition =>
    refine motorTaken_binding ?_
    dsimp only
    split
    · exact done_reaches ((OnlyUpdate.setPort p _ s).trans (noteEvents_only p _ _)).binding
    · exact refl
  case queryPort => exact motorTaken_binding refl

/-! ### The Sensor block -/

theorem setActive_sensing (p : Fin 4) (a : Bool) (s : State) : OnlySensing s (setActive p a s) := by
  have told : OnlySensing s (notify (if a then 2 else 3) (p.val + 1) 0
      (writeSensorBits p (s.setSensor p { s.sensor p with active := a }))) :=
    (OnlySensing.setSensor p _ s).trans ((updateSignal_only _ _ _).trans (notify_only _ _ _ _).bus.update).sensing
  exact ite_keeps (I := OnlySensing s) (fun _ => told.trans (giveCause_only _ _ _).sensing) fun _ => told

theorem startTune_sensing (p : Fin 4) (s : State) : OnlySensing s (startTune p s) := by
  have released : OnlySensing s (if (s.sensor p).active then setActive p false s else s) :=
    ite_keeps (fun _ => setActive_sensing p false s) fun _ => (OnlyUpdate.refl s).sensing
  exact (released.trans (.setSensor p _ _)).trans (updateSignal_only _ _ _).sensing

theorem sensorTaken_sensing {kinds : List SensorKind} {p : Fin 4} {op : Sensor → State → Taken} {s : State}
    (h : ∀ x, OnlySensing s (op x s).1) : OnlySensing s (sensorTaken kinds p op s).1 := by
  unfold sensorTaken
  split
  · exact h _
  · exact (OnlyUpdate.refl s).sensing

theorem blockOp_sensor {c : Instr} {P : Parts} {op : State → Taken} (parts : partsOf c = some P)
    (block : blockOp c = some (P.via, op)) (sensor : P.block = 2) (s : State) : OnlySensing s (op s).1 := by
  have refl := (OnlyUpdate.refl s).sensing
  cases c
  all_goals cases parts
  all_goals cases sensor
  all_goals cases block
  all_goals
    refine atSensor_reaches refl (fun p => sensorTaken_sensing fun x => ?_) _
  case setFilter => exact .setSensor p _ s
  case setThresholds => exact .setSensor p _ s
  case setPolarity =>
    split
    · exact refl
    · dsimp only [done]
      split
      · exact (OnlySensing.setSensor p _ s).trans (setActive_sensing p false _)
      · exact .setSensor p _ s
  case tune =>
    split
    · exact refl
    · exact (OnlySensing.setSensor p _ s).trans (startTune_sensing p _)
  case setTuneRetry => exact .setSensor p _ s
  case setHaltInput =>
    split
    · exact refl
    · dsimp only [done]
      split
      · exact (OnlySensing.setSensor p _ s).trans (giveCause_only _ _ _).sensing
      · exact .setSensor p _ s
  case querySensor => exact refl

/-! ### The Voice and the Signal block -/

theorem blockOp_voice {c : Instr} {P : Parts} {op : State → Taken} (parts : partsOf c = some P)
    (block : blockOp c = some (P.via, op)) (voice : P.block = 3 ∨ P.block = 4) (s : State) : OnlyUpdate s (op s).1 := by
  have refl := OnlyUpdate.refl s
  cases c
  all_goals cases parts
  all_goals simp only [Nat.reduceEqDiff, or_self] at voice
  all_goals cases block
  case note =>
    refine atVoice_reaches refl (fun v => ?_) _
    unfold voiceNote
    split
    · exact refl
    · split
      · exact refl
      · dsimp only
        split
        · exact refl
        · exact ((OnlyUpdate.setVoice v _ s).trans (suspendVoiceSource_only _ _)).trans (bindingEnded_only v _)
  case clearVoice =>
    exact atVoice_reaches refl (fun v =>
      ((OnlyUpdate.setVoice v _ s).trans (suspendVoiceSource_only _ _)).trans (becomeIdle_only v _)) _
  case setEnvelope => exact atVoice_reaches refl (fun v => .setVoice v _ s) _
  case setVoiceScale =>
    exact atVoice_reaches refl (fun v => (OnlyUpdate.setVoice v _ s).trans (suspendVoiceSource_only _ _)) _
  case setMasterVolume => exact atVoice_reaches refl (fun _ => .setAudio _ s) _
  case queryVoice => exact atVoice_reaches refl (fun _ => refl) _
  case setPublish =>
    refine atSixteen_reaches refl (fun i => ?_) _
    unfold signalSetPublish
    split
    · exact refl
    · exact (OnlyUpdate.setSignal i _ s).trans (testPublish_only i _).update
  case querySignal => exact atSixteen_reaches refl (fun _ => refl) _

/-! ### The Listen block -/

theorem testHalted_binding (s : State) : OnlyBinding s (testHalted s) := by
  unfold testHalted
  split
  · have ended : OnlyBinding s (s.setHalt { s.halt with state := .halted, safeTimer := none }) :=
      ⟨s, _, .refl s, rfl, rfl, rfl, rfl⟩
    exact ended.trans (OnlyUpdate.binding (updateSignal_only 15 _ _))
  · exact (OnlyUpdate.refl s).binding

theorem bindDestination_binding (n : Fin 16) (d : Destination) (s : State) : OnlyBinding s (bindDestination n d s) := by
  have port (p : Fin 4) (m : Mode) : OnlyBinding s (bindPort p n m s) :=
    (putPort_binding p _ s).trans (noteEvents_only p _ _).binding
  cases d with
  | motorPower p => exact port p _
  | motorSpeed p => exact port p _
  | motorPosition p => exact port p _
  | voicePitch v => exact (bindPitch_only v n s).binding
  | voiceVolume v => exact (OnlyUpdate.setVoice v _ s).binding
  | goTrigger _ => exact (OnlyUpdate.refl s).binding

theorem releaseDestination_binding (n : Fin 16) (d : Destination) (s : State) :
    OnlyBinding s (releaseDestination n d s) := by
  have port (p : Fin 4) : OnlyBinding s (releasePort p n s) := by
    unfold releasePort
    dsimp only
    split
    · exact (putPort_binding p _ s).trans (testHalted_binding _)
    · exact (OnlyUpdate.refl s).binding
  cases d with
  | motorPower p => exact port p
  | motorSpeed p => exact port p
  | motorPosition p => exact port p
  | voicePitch v => exact (releasePitch_only v n s).binding
  | voiceVolume v => exact (releaseVolume_only v n s).binding
  | goTrigger _ => exact (OnlyUpdate.refl s).binding

theorem releaseEntry_binding (n : Fin 16) (e : Entry) (s : State) : OnlyBinding s (releaseEntry n e s) := by
  unfold releaseEntry
  split
  · split
    · exact releaseDestination_binding n _ s
    · exact (OnlyUpdate.refl s).binding
  · exact (OnlyUpdate.refl s).binding

theorem unlessFree_binding {n : Fin 16} {op : Entry → State → Taken} {s : State}
    (h : ∀ e, OnlyBinding s (op e s).1) : OnlyBinding s (unlessFree n op s).1 := by
  unfold unlessFree
  split
  · exact (OnlyUpdate.refl s).binding
  · exact h _

theorem blockOp_listen {c : Instr} {P : Parts} {op : State → Taken} (parts : partsOf c = some P)
    (block : blockOp c = some (P.via, op)) (listen : P.block = 5) (s : State) : OnlyBinding s (op s).1 := by
  have refl := (OnlyUpdate.refl s).binding
  have written (n : Fin 16) (e : Entry) : OnlyBinding s (s.setEntry n e) := (OnlyUpdate.setEntry n e s).binding
  cases c
  all_goals cases parts
  all_goals cases listen
  all_goals cases block
  all_goals refine atSixteen_reaches refl (fun n => ?_) _
  case setEntryRoute =>
    unfold listenSetRoute
    split
    · exact refl
    · dsimp only
      split
      · exact written n _
      · exact written n _
      · exact written n _
      · exact refl
      · exact refl
  case setEntryTransform => exact unlessFree_binding fun _ => written n _
  case setEntryClamp =>
    refine unlessFree_binding fun e => ?_
    dsimp only
    split
    · exact refl
    · exact written n _
  case setEntryStale =>
    refine unlessFree_binding fun e => ?_
    dsimp only
    split
    · exact written n _
    · exact written n _
    · exact refl
    · exact refl
  case setEntryTrigger =>
    refine unlessFree_binding fun e => ?_
    split
    · exact written n _
    · exact refl
  case enable =>
    unfold listenEnable
    dsimp only
    split
    · exact refl
    · exact refl
    · exact refl
    · split
      · exact refl
      · exact (written n _).trans (bindDestination_binding n _ _)
    · split
      · exact refl
      · exact (written n _).trans (bindDestination_binding n _ _)
    · exact refl
    · exact refl
  case disable => exact unlessFree_binding fun e => (written n _).trans (releaseEntry_binding n _ _)
  case free =>
    unfold listenFree
    dsimp only
    split
    · exact refl
    · exact (written n _).trans (releaseEntry_binding n _ _)
  case queryEntry => exact refl

/-! ### The Staging and the Halt block -/

theorem blockOp_staging {c : Instr} {P : Parts} {op : State → Taken} (parts : partsOf c = some P)
    (block : blockOp c = some (P.via, op)) (staging : P.block = 6) (s : State) : OnlyStaging s (op s).1 := by
  have refl := (OnlyUpdate.refl s).staging
  have listed (l : List Staged) : OnlyStaging s (s.setStaging l) := ⟨l, .refl _⟩
  cases c
  all_goals cases parts
  all_goals cases staging
  all_goals cases block
  all_goals refine atGroup_reaches refl (fun g => ?_) _
  case stage =>
    unfold stagingStage
    split
    · exact refl
    · split
      · exact refl
      · unfold placeStaged
        split
        · exact listed _
        · split
          · exact refl
          · exact listed _
  case cancelGroup => exact listed _
  case go =>
    unfold stagingGo
    split
    · exact refl
    · have asked := (goRequest_only g s).update
      dsimp only
      split
      · exact asked.staging
      · exact (asked.trans (setStageMiss_only _)).staging

theorem resumeVoice_only (v : Fin 3) (s : State) : OnlyUpdate s (resumeVoice v s) := by
  unfold resumeVoice
  dsimp only
  split
  · exact ite_keeps (fun _ => chooseSound_only v s) fun _ => .refl s
  · exact .refl s

theorem resumeStation_only (s : State) : OnlyHalt s (resumeStation s) := by
  have emptied := OnlyHalt.setHalt { s.halt with
    state := .running, first := none, firstPort := none, further := [], safeTimer := none } s
  unfold resumeStation
  dsimp only
  generalize s.setHalt _ = t at emptied
  have ports : OnlyHalt t (fourPorts.foldl (fun s p => putPort p (s.port p).resume s) t) :=
    foldl_reaches OnlyHalt.refl OnlyHalt.trans (fun s p => putPort_only p _ s) _ _
  generalize fourPorts.foldl _ t = u at ports
  have entries : OnlyHalt u (sixteen.foldl suspendMotorEntry u) := by
    obtain ⟨entries, eq⟩ := suspendMotorAll_only u
    rw [eq]
    exact OnlyUpdate.halt ⟨u.ports, u.voices, u.audio, u.signals, entries, u.stageMiss, u.bus, u.link, rfl⟩
  generalize sixteen.foldl _ u = w at entries
  have voices : OnlyHalt w (threeVoices.foldl (fun s v => resumeVoice v s) w) :=
    foldl_reaches OnlyHalt.refl OnlyHalt.trans (fun s v => (resumeVoice_only v s).halt) _ _
  generalize threeVoices.foldl _ w = x at voices
  have told : OnlyUpdate x (notify 1 0 0 (writeHaltWord x)) :=
    (updateSignal_only 15 _ x).trans (notify_only 1 0 0 (writeHaltWord x)).bus.update
  exact (((emptied.trans ports).trans entries).trans voices).trans told.halt

/-- A command done with data leaves the state that it is done with. -/
theorem doneWith_reaches {R : State → State → Prop} {s t : State} (data : List (List Byte)) (h : R s t) :
    R s (doneWith data t).1 := h

theorem blockOp_halt {c : Instr} {P : Parts} {op : State → Taken} (parts : partsOf c = some P)
    (block : blockOp c = some (P.via, op)) (halt : P.block = 7) (s : State) : OnlyHalt s (op s).1 := by
  have refl := OnlyHalt.refl s
  cases c
  all_goals cases parts
  all_goals cases halt
  all_goals cases block
  all_goals refine atStation_reaches refl ?_ _
  case halt => exact doneWith_reaches _ (giveCause_only .tabletHalt none s)
  case resume =>
    unfold haltResume
    split
    · exact refl
    · exact refl
    · split
      · exact done_reaches (resumeStation_only s)
      · exact refl

/-! ### The obligation -/

/-- `t` has the blocks of `s` that no command but a Station command changes. -/
structure SharedKept (s t : State) : Prop where
  hot : t.hot = s.hot
  battery : t.battery = s.battery
  clock : t.clock = s.clock
  station : t.station = s.station
  record : t.record = s.record
  resetHeld : t.resetHeld = s.resetHeld

theorem OnlySensing.shared {s t : State} (h : OnlySensing s t) : SharedKept s t := by
  obtain ⟨_, _, _, _, _, _, _, _, _, _, _, rfl⟩ := h
  exact ⟨rfl, rfl, rfl, rfl, rfl, rfl⟩

theorem OnlyHalt.sensors_eq {s t : State} (h : OnlyHalt s t) : t.sensors = s.sensors := by
  obtain ⟨_, _, _, _, _, _, _, _, _, _, rfl⟩ := h
  rfl

theorem OnlyBinding.onlyHalt {s t : State} (h : OnlyBinding s t) : OnlyHalt s t := by
  obtain ⟨u, x, update, rfl, -⟩ := h
  exact update.halt.trans (.setHalt x u)

theorem OnlyBinding.causes {s t : State} (h : OnlyBinding s t) : t.staging = s.staging
    ∧ t.halt.first = s.halt.first ∧ t.halt.firstPort = s.halt.firstPort ∧ t.halt.further = s.halt.further := by
  obtain ⟨u, x, ⟨_, _, _, _, _, _, _, _, rfl⟩, rfl, first, port, further⟩ := h
  exact ⟨rfl, first, port, further⟩

theorem OnlyUpdate.staging_eq {s t : State} (h : OnlyUpdate s t) : t.staging = s.staging := by
  obtain ⟨_, _, _, _, _, _, _, _, rfl⟩ := h
  rfl

theorem OnlyStaging.onlyHalt {s t : State} (h : OnlyStaging s t) : OnlyHalt s t := by
  obtain ⟨l, update⟩ := h
  exact (OnlyHalt.setStaging l s).trans update.halt

theorem block_of_partsOf {c : Instr} {P : Parts} (parts : partsOf c = some P) : 1 ≤ P.block ∧ P.block ≤ 8 := by
  cases c
  all_goals cases parts
  all_goals simp

/-- Settles O7: each block's commands and the answer after them stay within what the block reaches. -/
theorem blockCommandsKeepOtherBlocks : Obligations.BlockCommandsKeepOtherBlocks := by
  intro c P s parts awake
  obtain ⟨op, block⟩ := blockOp_of_parts parts
  have answer := answered_only P.via (op s)
  refine ⟨answered P.via (op s), exec_of_blockOp block awake, ?_⟩
  obtain ⟨low, high⟩ := block_of_partsOf parts
  have shared {t : State} (h : OnlySensing s t) : t.hot = s.hot ∧ t.battery = s.battery ∧ t.clock = s.clock
      ∧ t.station = s.station ∧ t.record = s.record ∧ t.resetHeld = s.resetHeld :=
    have ⟨hot, battery, clock, station, record, resetHeld⟩ := h.shared
    ⟨hot, battery, clock, station, record, resetHeld⟩
  generalize number : P.block = b at low high
  have motor (h : OnlyBinding s (op s).1) := h.trans answer.binding
  interval_cases b
  · have reach := motor (blockOp_motor parts block number s)
    simpa [reach.onlyHalt.sensors_eq, reach.causes] using shared reach.onlyHalt.sensing
  · simpa using shared ((blockOp_sensor parts block number s).trans answer.sensing)
  · have reach := (blockOp_voice parts block (.inl number) s).trans answer
    simpa [reach.halt.sensors_eq, reach.staging_eq, reach.halt_eq] using shared reach.sensing
  · have reach := (blockOp_voice parts block (.inr number) s).trans answer
    simpa [reach.halt.sensors_eq, reach.staging_eq, reach.halt_eq] using shared reach.sensing
  · have reach := motor (blockOp_listen parts block number s)
    simpa [reach.onlyHalt.sensors_eq, reach.causes] using shared reach.onlyHalt.sensing
  · have reach := (blockOp_staging parts block number s).update answer
    obtain ⟨l, update⟩ := reach
    simpa [OnlyStaging.onlyHalt ⟨l, update⟩ |>.sensors_eq, update.halt_eq] using
      shared (OnlyStaging.onlyHalt ⟨l, update⟩).sensing
  · have reach := (blockOp_halt parts block number s).trans answer.halt
    simpa [reach.sensors_eq] using shared reach.sensing
  · simp

end Sys2Proof.Machine
end

section

/-! PROOF. What the offer of a value leaves alone: at a voice that acts, at the bus station and the tablet link, and
at the ports, entries and voices of every update of a signal. -/

namespace Sys2Proof.Machine

@[simp] theorem State.setPort_self (s : State) (p : Fin 4) : s.setPort p (s.port p) = s := by
  simp [State.setPort, State.port]

@[simp] theorem State.setVoice_self (s : State) (v : Fin 3) : s.setVoice v (s.voice v) = s := by
  simp [State.setVoice, State.voice]

@[simp] theorem State.setEntry_self (s : State) (n : Fin 16) : s.setEntry n (s.entry n) = s := by
  simp [State.setEntry, State.entry]

@[simp] theorem State.setSignal_setSignal (s : State) (i : Fin 16) (x y : Signal) :
    (s.setSignal i x).setSignal i y = s.setSignal i y := by
  simp [State.setSignal]

/-! ### A voice that acts -/

/-- What a sound does not change of a voice: its sources, what they set, and the envelope times. -/
structure SameVoice (x y : Voice) : Prop where
  pitchSource : y.pitchSource = x.pitchSource
  volumeSource : y.volumeSource = x.volumeSource
  boundPitch : y.boundPitch = x.boundPitch
  volumeScale : y.volumeScale = x.volumeScale
  attackMs : y.attackMs = x.attackMs
  releaseMs : y.releaseMs = x.releaseMs

theorem SameVoice.refl (x : Voice) : SameVoice x x := ⟨rfl, rfl, rfl, rfl, rfl, rfl⟩

theorem SameVoice.trans {x y z : Voice} (h : SameVoice x y) (g : SameVoice y z) : SameVoice x z :=
  ⟨g.1.trans h.1, g.2.trans h.2, g.3.trans h.3, g.4.trans h.4, g.5.trans h.5, g.6.trans h.6⟩

/-- `t` is `s` but for the sound of one voice, the gate, and the messages to the tablet. -/
def VoiceActs (v : Fin 3) (s t : State) : Prop :=
  ∃ x audio lanes, t = ((s.setVoice v x).setAudio audio).setLink { s.link with lanes := lanes }
    ∧ SameVoice (s.voice v) x ∧ audio.master = s.audio.master ∧ ∀ l : Fin 4, l ≠ 2 → lanes[l] = s.link.lanes[l]

theorem VoiceActs.refl (v : Fin 3) (s : State) : VoiceActs v s s :=
  ⟨s.voice v, s.audio, s.link.lanes, by rw [State.setVoice_self]; rfl, .refl _, rfl, fun _ _ => rfl⟩

theorem VoiceActs.trans {v : Fin 3} {s t u : State} (h : VoiceActs v s t) (g : VoiceActs v t u) : VoiceActs v s u := by
  obtain ⟨x, a, l, rfl, same, master, kept⟩ := h
  obtain ⟨y, b, m, rfl, same', master', kept'⟩ := g
  refine ⟨y, b, m, ?_, same.trans ?_, master'.trans master, fun i ne => (kept' i ne).trans (kept i ne)⟩
  · simp [State.setVoice, State.setAudio, State.setLink]
  · simpa [State.voice, State.setVoice, State.setAudio, State.setLink] using same'

theorem VoiceActs.setVoice {v : Fin 3} {x : Voice} {s : State} (same : SameVoice (s.voice v) x) :
    VoiceActs v s (s.setVoice v x) := ⟨x, s.audio, s.link.lanes, rfl, same, rfl, fun _ _ => rfl⟩

theorem VoiceActs.setAudio {v : Fin 3} {a : Audio} {s : State} (master : a.master = s.audio.master) :
    VoiceActs v s (s.setAudio a) :=
  ⟨s.voice v, a, s.link.lanes, by rw [State.setVoice_self]; rfl, .refl _, master, fun _ _ => rfl⟩

theorem tell_acts (v : Fin 3) (m : OutMsg) (s : State) : VoiceActs v s (tell 2 m s) :=
  ite_keeps (I := VoiceActs v s)
    (fun _ => ⟨s.voice v, s.audio, _, by rw [State.setVoice_self]; rfl, .refl _, rfl, fun _ ne =>
      Vector.getElem_set_ne _ _ fun same => ne (Fin.ext same.symm)⟩) fun _ => .refl v s

theorem startStopTimer_acts (v : Fin 3) (s : State) : VoiceActs v s (startStopTimer s) :=
  ite_keeps (I := VoiceActs v s) (fun _ => .setAudio rfl) fun _ => .refl v s

theorem Voice.quiet_same (x : Voice) : SameVoice x x.quiet := ⟨rfl, rfl, rfl, rfl, rfl, rfl⟩

theorem Voice.start_same (x : Voice) (snd : Sound) : SameVoice x (x.start snd) := by
  unfold Voice.start
  cases snd with
  | tone =>
    dsimp only
    split <;> exact ⟨rfl, rfl, rfl, rfl, rfl, rfl⟩
  | note n =>
    dsimp only
    split
    · exact ⟨rfl, rfl, rfl, rfl, rfl, rfl⟩
    · split <;> exact ⟨rfl, rfl, rfl, rfl, rfl, rfl⟩

theorem becomeIdle_acts (v : Fin 3) (s : State) : VoiceActs v s (becomeIdle v s) := by
  have quiet : VoiceActs v s (s.setVoice v { (s.voice v).quiet with state := .idle }) :=
    .setVoice ⟨rfl, rfl, rfl, rfl, rfl, rfl⟩
  exact ite_keeps (I := VoiceActs v s) (fun _ => quiet) fun _ =>
    (quiet.trans (tell_acts v _ _)).trans (startStopTimer_acts v _)

theorem startSound_acts (v : Fin 3) (snd : Sound) (s : State) : VoiceActs v s (startSound v snd s) := by
  have started : VoiceActs v s (s.setVoice v ((s.voice v).start snd)) := .setVoice (Voice.start_same _ _)
  cases snd with
  | tone => exact started
  | note n =>
    exact ite_keeps (I := VoiceActs v s) (fun _ => started.trans (tell_acts v _ _)) fun _ => started

theorem leaveWaiting_acts (v : Fin 3) (s : State) : VoiceActs v s (leaveWaiting v s) := by
  unfold leaveWaiting
  split
  · exact startSound_acts v _ s
  · exact becomeIdle_acts v s

theorem requestClock_acts (v : Fin 3) (s : State) : VoiceActs v s (requestClock v s) := by
  unfold requestClock
  split
  · exact ite_keeps (I := VoiceActs v s) (fun _ => .setAudio rfl) fun _ => .refl v s
  · exact .refl v s
  · exact VoiceActs.trans (.setAudio rfl) (leaveWaiting_acts v _)

theorem enterWaiting_acts (v : Fin 3) (s : State) : VoiceActs v s (enterWaiting v s) :=
  VoiceActs.trans (t := s.setVoice v { (s.voice v).quiet with state := .waiting })
    (.setVoice ⟨rfl, rfl, rfl, rfl, rfl, rfl⟩) (requestClock_acts v _)

theorem chooseSound_acts (v : Fin 3) (s : State) : VoiceActs v s (chooseSound v s) := by
  unfold chooseSound
  split
  · exact becomeIdle_acts v s
  · exact ite_keeps (I := VoiceActs v s) (fun _ => enterWaiting_acts v s) fun _ => startSound_acts v _ s

theorem endSound_acts (v : Fin 3) (s : State) : VoiceActs v s (endSound v s) :=
  (VoiceActs.setVoice (Voice.quiet_same _)).trans (chooseSound_acts v _)

theorem enterRelease_acts (v : Fin 3) (level : Nat) (s : State) : VoiceActs v s (enterRelease v level s) :=
  ite_keeps (I := VoiceActs v s) (fun _ => endSound_acts v s) fun _ => .setVoice ⟨rfl, rfl, rfl, rfl, rfl, rfl⟩

theorem cutTone_acts (v : Fin 3) (s : State) : VoiceActs v s (cutTone v s) :=
  ite_keeps (I := VoiceActs v s) (fun _ => enterRelease_acts v _ s) fun _ => .refl v s

theorem bindingEnded_acts (v : Fin 3) (s : State) : VoiceActs v s (bindingEnded v s) :=
  ite_keeps (I := VoiceActs v s) (fun _ => ite_keeps (fun _ => .refl v s) fun _ => chooseSound_acts v s)
    fun _ => cutTone_acts v s

/-! ### The bus station and the tablet link -/

/-- `t` is `s` but for what a request to the bus station or the tablet link changes there: the transmit queue with
its moments, the pending Announce, the lanes, the watch list and the forwarded count. -/
def OnlyTold (s t : State) : Prop :=
  ∃ q n a lanes watch forwarded,
    t = (s.setBus { s.bus with queue := q, nextStamp := n, announcePending := a }).setLink
      { s.link with lanes := lanes, watch := watch, forwarded := forwarded }

theorem OnlyTold.refl (s : State) : OnlyTold s s :=
  ⟨s.bus.queue, s.bus.nextStamp, s.bus.announcePending, s.link.lanes, s.link.watch, s.link.forwarded, rfl⟩

theorem OnlyTold.trans {s t u : State} (h : OnlyTold s t) (g : OnlyTold t u) : OnlyTold s u := by
  obtain ⟨_, _, _, _, _, _, rfl⟩ := h
  obtain ⟨q, n, a, l, w, f, rfl⟩ := g
  exact ⟨q, n, a, l, w, f, rfl⟩

theorem tell_told (l : Fin 4) (m : OutMsg) (s : State) : OnlyTold s (tell l m s) :=
  ite_keeps (I := OnlyTold s)
    (fun _ => ⟨s.bus.queue, s.bus.nextStamp, s.bus.announcePending, _, s.link.watch, s.link.forwarded, rfl⟩)
    fun _ => .refl s

theorem setWatch_told (w : List WatchPair) (s : State) : OnlyTold s (s.setLink { s.link with watch := w }) :=
  ⟨s.bus.queue, s.bus.nextStamp, s.bus.announcePending, s.link.lanes, w, s.link.forwarded, rfl⟩

theorem setQueue_told (q : List Frame) (s : State) : OnlyTold s (s.setBus { s.bus with queue := q }) :=
  ⟨q, s.bus.nextStamp, s.bus.announcePending, s.link.lanes, s.link.watch, s.link.forwarded, rfl⟩

theorem reportOrigin_told (o : Option Origin) (r : Option Result) (s : State) : OnlyTold s (reportOrigin o r s) := by
  cases o with
  | none => exact .refl s
  | some o =>
    have counted : OnlyTold s (s.setLink { s.link with forwarded := s.link.forwarded - 1 }) :=
      ⟨s.bus.queue, s.bus.nextStamp, s.bus.announcePending, s.link.lanes, s.link.watch, _, rfl⟩
    cases r with
    | none => exact counted
    | some r => exact counted.trans (tell_told 1 _ _)

theorem frameLost_told (f : Frame) (s : State) : OnlyTold s (frameLost f s) := by
  unfold frameLost
  split
  · exact reportOrigin_told _ _ s
  · exact ⟨s.bus.queue, s.bus.nextStamp, true, s.link.lanes, s.link.watch, s.link.forwarded, rfl⟩
  · exact .refl s

theorem joinQueue_told (f : Frame) (s : State) : OnlyTold s (joinQueue f s).1 := by
  unfold joinQueue
  split
  · exact setQueue_told _ s
  · split
    · exact .refl s
    · split
      · exact (setQueue_told _ s).trans (frameLost_told _ _)
      · exact .refl s

theorem addFrame_told (k : FrameKind) (r : Nat) (p : List Byte) (o : Option Origin) (s : State) :
    OnlyTold s (addFrame k r p o s).1 :=
  OnlyTold.trans (t := passStamp s)
    ⟨s.bus.queue, s.bus.nextStamp + 1, s.bus.announcePending, s.link.lanes, s.link.watch, s.link.forwarded, rfl⟩ (joinQueue_told _ _)

theorem publishRequest_told (i : Fin 16) (s : State) : OnlyTold s (publishRequest i s) :=
  ite_keeps (I := OnlyTold s) (fun _ => .refl s) fun _ =>
    ite_keeps (fun _ => setQueue_told _ s) fun _ => addFrame_told _ _ _ _ s

theorem goRequest_told (g : Nat) (s : State) : OnlyTold s (goRequest g s).1 := by
  unfold goRequest
  split
  · exact .refl s
  · split
    · exact .refl s
    · exact addFrame_told _ _ _ _ s

theorem replyRequest_told (d : Nat) (p : List Byte) (s : State) : OnlyTold s (replyRequest d p s) :=
  ite_keeps (I := OnlyTold s) (fun _ => .refl s) fun _ => addFrame_told _ _ _ _ s

theorem publishUpdate_told (i : Fin 16) (s : State) : OnlyTold s (publishUpdate i s) :=
  ite_keeps (I := OnlyTold s) (fun _ => publishRequest_told i s) fun _ =>
    ite_keeps (fun _ => publishRequest_told i s) fun _ => .refl s

theorem watchOwn_told (i : Fin 16) (v : Int) (s : State) : OnlyTold s (watchOwn i v s) := by
  unfold watchOwn
  split
  · exact .refl s
  · dsimp only
    split
    · exact (setWatch_told _ s).trans (tell_told 3 _ _)
    · exact setWatch_told _ s

/-! ### What an offer of a value changes -/

/-- A port that a value of its entry changes: it is bound, in a mode that a binding sets. -/
def Port.TakesValues (x : Port) : Prop :=
  (∃ n, x.source = .listen n) ∧ (x.mode = .power ∨ x.mode = .speed ∨ x.mode = .position)

/-- A value changes of a port its target, its reference and its duty, and only while it takes values. -/
def PortOffered (x y : Port) : Prop :=
  (∃ target reference duty bridge,
    y = { x with target := target, reference := reference, duty := duty, bridge := bridge })
    ∧ (¬x.TakesValues → y = x)

theorem PortOffered.refl (x : Port) : PortOffered x x := ⟨⟨_, _, _, _, rfl⟩, fun _ => rfl⟩

theorem PortOffered.source {x y : Port} (h : PortOffered x y) : y.source = x.source := by
  obtain ⟨⟨_, _, _, _, rfl⟩, -⟩ := h
  rfl

theorem PortOffered.trans {x y z : Port} (h : PortOffered x y) (g : PortOffered y z) : PortOffered x z := by
  obtain ⟨⟨_, _, _, _, rfl⟩, same⟩ := h
  obtain ⟨⟨_, _, _, _, rfl⟩, same'⟩ := g
  exact ⟨⟨_, _, _, _, rfl⟩, fun still => (same' still).trans (same still)⟩

/-- A value changes of an entry what it keeps of its values, and only while it acts. -/
structure EntryOffered (e f : Entry) : Prop where
  acting : f.acting = e.acting
  route : f.route = e.route
  still : e.acting = false → f = e

theorem EntryOffered.refl (e : Entry) : EntryOffered e e := ⟨rfl, rfl, fun _ => rfl⟩

theorem EntryOffered.trans {e f g : Entry} (h : EntryOffered e f) (k : EntryOffered f g) : EntryOffered e g :=
  ⟨k.acting.trans h.acting, k.route.trans h.route, fun still =>
    (k.still (h.acting.trans still)).trans (h.still still)⟩

/-- A voice goes on with what it does and with what it has queued. -/
structure SameSound (x y : Voice) : Prop where
  state : y.state = x.state
  sound : y.sound = x.sound
  queue : y.queue = x.queue

/-- A value changes a voice only while it is bound, and gives a sound only to an Idle one. -/
structure VoiceOffered (x y : Voice) : Prop where
  pitch : y.pitchSource = x.pitchSource
  volume : y.volumeSource = x.volumeSource
  free : x.pitchSource = .own → x.volumeSource = .own → y = x
  sounds : x.pitchSource = .own ∨ x.state ≠ .idle → SameSound x y

theorem VoiceOffered.refl (x : Voice) : VoiceOffered x x := ⟨rfl, rfl, fun _ _ => rfl, fun _ => ⟨rfl, rfl, rfl⟩⟩

theorem VoiceOffered.trans {x y z : Voice} (h : VoiceOffered x y) (g : VoiceOffered y z) : VoiceOffered x z := by
  refine ⟨g.pitch.trans h.pitch, g.volume.trans h.volume, fun pitch volume =>
    (g.free (h.pitch.trans pitch) (h.volume.trans volume)).trans (h.free pitch volume), fun goes => ?_⟩
  obtain ⟨state, sound, queue⟩ := h.sounds goes
  obtain ⟨state', sound', queue'⟩ := g.sounds (goes.imp h.pitch.trans fun busy => state ▸ busy)
  exact ⟨state'.trans state, sound'.trans sound, queue'.trans queue⟩

/-- An acting entry has a motor of port `p` for its destination. -/
def State.Routed (s : State) (p : Fin 4) : Prop :=
  ∃ n r, (s.entry n).acting = true ∧ (s.entry n).route = some r ∧ r.dest.motorPort = some p

theorem State.Routed.before {s t : State} {p : Fin 4} (entry : ∀ n, EntryOffered (s.entry n) (t.entry n)) (h : t.Routed p) :
    s.Routed p := by
  obtain ⟨n, r, acting, route, port⟩ := h
  exact ⟨n, r, (entry n).acting.symm.trans acting, (entry n).route.symm.trans route, port⟩

/-- What the offer of a value to the listen table, the publish policy and the watch list leaves alone. -/
structure Offered (s t : State) : Prop where
  only : ∃ u ports voices audio entries, OnlyTold s u ∧ audio.master = s.audio.master
    ∧ t = { u with ports := ports, voices := voices, audio := audio, entries := entries }
  port : ∀ p, PortOffered (s.port p) (t.port p)
  entry : ∀ n, EntryOffered (s.entry n) (t.entry n)
  voice : ∀ v, VoiceOffered (s.voice v) (t.voice v)
  idle : s.isRunning = false → t.ports = s.ports ∧ t.voices = s.voices ∧ t.audio = s.audio
  duty : ∀ p, (t.port p).duty = (s.port p).duty ∨ ((t.port p).duty.natAbs : Int) ≤ effLimit s.battery.ceiling (t.port p)
  unrouted : ∀ p, ¬s.Routed p → t.port p = s.port p

theorem PortOffered.effLimit {x y : Port} (h : PortOffered x y) (ceiling : Nat) :
    effLimit ceiling y = effLimit ceiling x := by
  obtain ⟨⟨_, _, _, _, rfl⟩, -⟩ := h
  rfl

theorem OnlyTold.offered {s t : State} (h : OnlyTold s t) : Offered s t := by
  have told := h
  obtain ⟨_, _, _, _, _, _, rfl⟩ := h
  exact ⟨⟨_, _, _, _, _, told, rfl, rfl⟩, fun _ => .refl _, fun _ => .refl _, fun _ => .refl _, fun _ => ⟨rfl, rfl, rfl⟩,
    fun _ => .inl rfl, fun _ _ => rfl⟩

theorem Offered.refl (s : State) : Offered s s := (OnlyTold.refl s).offered

theorem Offered.trans {s t u : State} (h : Offered s t) (g : Offered t u) : Offered s u := by
  obtain ⟨⟨_, _, _, _, _, ⟨_, _, _, _, _, _, rfl⟩, master, rfl⟩, port, entry, voice, idle, duty, unrouted⟩ := h
  obtain ⟨⟨_, p, v, a, e, ⟨q, n, c, l, w, f, rfl⟩, master', rfl⟩, port', entry', voice', idle', duty', unrouted'⟩ := g
  refine ⟨⟨_, p, v, a, e, ⟨q, n, c, l, w, f, rfl⟩, master'.trans master, rfl⟩, fun p => (port p).trans (port' p),
    fun n => (entry n).trans (entry' n), fun v => (voice v).trans (voice' v), fun still => ?_, fun p => ?_,
    fun p none => (unrouted' p fun routed => none (routed.before entry)).trans (unrouted p none)⟩
  · obtain ⟨ports, voices, audio⟩ := idle still
    obtain ⟨ports', voices', audio'⟩ := idle' still
    exact ⟨ports'.trans ports, voices'.trans voices, audio'.trans audio⟩
  · rcases duty' p with same | bounded
    · rcases duty p with same' | bounded
      · exact .inl (same.trans same')
      · refine .inr ?_
        rw [same, (port' p).effLimit]
        exact bounded
    · exact .inr bounded

theorem Offered.setPort {s : State} {p : Fin 4} {y : Port} (running : s.isRunning = true) (h : PortOffered (s.port p) y)
    (duty : y.duty = (s.port p).duty ∨ (y.duty.natAbs : Int) ≤ effLimit s.battery.ceiling y) (routed : s.Routed p) :
    Offered s (s.setPort p y) where
  only := ⟨s, _, s.voices, s.audio, s.entries, .refl s, rfl, rfl⟩
  port j := by
    rw [State.port_setPort_eq]
    split
    · exact ‹p = j› ▸ h
    · exact .refl _
  entry _ := .refl _
  voice _ := .refl _
  idle still := absurd still (by simp [running])
  duty j := by
    rw [State.port_setPort_eq]
    split
    · exact ‹p = j› ▸ duty
    · exact .inl rfl
  unrouted j none := State.port_setPort_ne s y fun same => none (same ▸ routed)

theorem Offered.setEntry {s : State} {n : Fin 16} {e : Entry} (h : EntryOffered (s.entry n) e) :
    Offered s (s.setEntry n e) where
  only := ⟨s, s.ports, s.voices, s.audio, _, .refl s, rfl, rfl⟩
  port _ := .refl _
  entry j := by
    rw [State.entry_setEntry_eq]
    split
    · exact ‹n = j› ▸ h
    · exact .refl _
  voice _ := .refl _
  idle _ := ⟨rfl, rfl, rfl⟩
  duty _ := .inl rfl
  unrouted _ _ := rfl

theorem Offered.setVoice {s : State} {v : Fin 3} {y : Voice} (running : s.isRunning = true)
    (h : VoiceOffered (s.voice v) y) : Offered s (s.setVoice v y) where
  only := ⟨s, s.ports, _, s.audio, s.entries, .refl s, rfl, rfl⟩
  port _ := .refl _
  entry _ := .refl _
  voice j := by
    rw [State.voice_setVoice_eq]
    split
    · exact ‹v = j› ▸ h
    · exact .refl _
  idle still := absurd still (by simp [running])
  duty _ := .inl rfl
  unrouted _ _ := rfl

theorem VoiceActs.offered {v : Fin 3} {s t : State} (running : s.isRunning = true)
    (bound : (s.voice v).pitchSource ≠ .own) (idle : (s.voice v).state = .idle) (h : VoiceActs v s t) : Offered s t := by
  obtain ⟨x, a, l, rfl, same, master, -⟩ := h
  have written : Offered s (s.setVoice v x) :=
    .setVoice running ⟨same.pitchSource, same.volumeSource, fun own => absurd own bound,
      fun goes => goes.elim (absurd · bound) (absurd idle)⟩
  refine written.trans ⟨⟨_, s.ports, _, a, s.entries,
    ⟨s.bus.queue, s.bus.nextStamp, s.bus.announcePending, l, s.link.watch, s.link.forwarded, rfl⟩, master, rfl⟩,
    fun _ => .refl _, fun _ => .refl _, fun _ => .refl _, fun still => absurd still ?_, fun _ => .inl rfl,
    fun _ _ => rfl⟩
  simp [running]

/-! ### The value requests -/

theorem valuePort_offered {p : Fin 4} {s : State} (routed : s.Routed p) (n : Fin 16) (v : Int) :
    Offered s (valuePort p n v s) := by
  unfold valuePort
  dsimp only
  split
  next bound =>
    have running := bound.2
    have taken (mode : (s.port p).mode = .power ∨ (s.port p).mode = .speed ∨ (s.port p).mode = .position)
        (t r d : Int) (b : Bridge) : PortOffered (s.port p)
          { s.port p with target := t, reference := r, duty := d, bridge := b } :=
      ⟨⟨t, r, d, b, rfl⟩, fun still => absurd ⟨⟨n, bound.1⟩, mode⟩ still⟩
    split
    next mode =>
      exact .setPort running (taken (.inl mode) _ _ _ _) (.inr (clampAbs_le (Int.natCast_nonneg _) _)) routed
    next mode => exact .setPort running (taken (.inr (.inl mode)) _ _ _ _) (.inl rfl) routed
    next mode => exact .setPort running (taken (.inr (.inr mode)) _ _ _ _) (.inl rfl) routed
    next => exact .refl s
  next => exact .refl s

theorem valuePitch_offered (v : Fin 3) (n : Fin 16) (x : Int) (s : State) : Offered s (valuePitch v n x s) := by
  unfold valuePitch
  dsimp only
  split
  next bound =>
    have running := bound.2
    have notOwn : (s.voice v).pitchSource ≠ .own := by simp [bound.1]
    have taken (y : Voice) (pitch : y.pitchSource = (s.voice v).pitchSource)
        (volume : y.volumeSource = (s.voice v).volumeSource) (goes : SameSound (s.voice v) y) :
        Offered s (s.setVoice v y) :=
      .setVoice running ⟨pitch, volume, fun own => absurd own notOwn, fun _ => goes⟩
    split
    · exact taken _ rfl rfl ⟨rfl, rfl, rfl⟩
    · split
      next idle =>
        refine (taken { s.voice v with boundPitch := some x.toNat } rfl rfl ⟨rfl, rfl, rfl⟩).trans
          ((chooseSound_acts v _).offered (by simpa using running) ?_ ?_)
        · simpa using notOwn
        · simpa using idle
      next => exact taken _ rfl rfl ⟨rfl, rfl, rfl⟩
  next => exact .refl s

theorem valueVolume_offered (v : Fin 3) (n : Fin 16) (x : Int) (s : State) : Offered s (valueVolume v n x s) := by
  unfold valueVolume
  split
  next bound => exact .setVoice bound.2 ⟨rfl, rfl, fun _ own => absurd own (by simp [bound.1]),
      fun _ => ⟨rfl, rfl, rfl⟩⟩
  next => exact .refl s

theorem goTrigger_offered {n : Fin 16} {s : State} (acting : (s.entry n).acting = true) (g : Nat) (out : Int) :
    Offered s (goTrigger n g out s).1 := by
  have armed (b : Bool) : Offered s (s.setEntry n { s.entry n with armed := b }) :=
    .setEntry ⟨rfl, rfl, fun still => absurd still (by simp [acting])⟩
  unfold goTrigger
  dsimp only
  split
  · split
    · split
      · exact (armed false).trans (goRequest_told g _).offered
      · exact armed false
    · exact .refl s
  · exact armed true

theorem sendOutput_offered {n : Fin 16} {s : State} {r : Route} (acting : (s.entry n).acting = true)
    (route : (s.entry n).route = some r) (out : Int) : Offered s (sendOutput n r.dest out s).1 := by
  have routed {p : Fin 4} (port : r.dest.motorPort = some p) : s.Routed p := ⟨n, r, acting, route, port⟩
  generalize r.dest = d at routed
  cases d with
  | motorPower p => exact valuePort_offered (routed rfl) n out
  | motorSpeed p => exact valuePort_offered (routed rfl) n out
  | motorPosition p => exact valuePort_offered (routed rfl) n out
  | voicePitch v => exact valuePitch_offered v n out s
  | voiceVolume v => exact valueVolume_offered v n out s
  | goTrigger g => exact goTrigger_offered acting g out

theorem takeValue_offered {n : Fin 16} {s : State} (acting : (s.entry n).acting = true) (v : Int) :
    Offered s (takeValue n v s).1 := by
  unfold takeValue
  dsimp only
  split
  · exact .refl s
  next r route =>
    have kept (out : Int) : Offered s (s.setEntry n ((s.entry n).takeValue v out)) :=
      .setEntry ⟨acting.symm ▸ rfl, rfl, fun still => absurd still (by simp [acting])⟩
    refine (kept _).trans (sendOutput_offered ?_ ?_ _)
    · rw [State.entry_setEntry]
      rfl
    · rw [State.entry_setEntry]
      exact route

theorem offerEntry_offered (src : Nat) (i : Fin 16) (v : Int) (t : State × Nat) (n : Fin 16) :
    Offered t.1 (offerEntry src i v t n).1 := by
  unfold offerEntry
  split
  next hears =>
    refine takeValue_offered ?_ v
    unfold State.listens at hears
    exact (Bool.and_eq_true_iff.mp hears).1
  next => exact .refl t.1

theorem offerValue_offered (src : Nat) (i : Fin 16) (v : Int) (s : State) : Offered s (offerValue src i v s).1 := by
  suffices all : ∀ (l : List (Fin 16)) (t : State × Nat), Offered t.1 (l.foldl (offerEntry src i v) t).1 from
    all sixteen (s, 0)
  intro l
  induction l with
  | nil => exact fun t => .refl t.1
  | cons n l ih => exact fun t => (offerEntry_offered src i v t n).trans (ih _)

theorem offerOwn_offered (i : Fin 16) (v : Int) (s : State) : Offered s (offerOwn i v s).1 := by
  unfold offerOwn
  split
  · exact offerValue_offered _ i v s
  · exact .refl s

end Sys2Proof.Machine
end

section

/-! PROOF. The bits of the status words, and every update of a signal: the signals, the blocks that it leaves alone,
and its three users (O37). -/

namespace Sys2Proof.Machine

/-! ### The bits of a status word -/

theorem testBit_getBits (lo width : Nat) (w : Int) (j : Nat) :
    (getBits lo width w).testBit j = (decide (j < width) && (BitVec.ofInt 16 w).getLsbD (lo + j)) := by
  simp [getBits, bitsOf, Nat.testBit_mod_two_pow, Nat.testBit_div_two_pow, BitVec.getLsbD, Nat.add_comm]

theorem getLsbD_putBits {lo width k : Nat} (fits : k < 16) (v : Nat) (w : Int) :
    (BitVec.ofInt 16 (putBits lo width v w)).getLsbD k
      = if lo ≤ k ∧ k < lo + width then v.testBit (k - lo) else (BitVec.ofInt 16 w).getLsbD k := by
  unfold putBits
  rw [BitVec.ofInt_toInt]
  simp only [BitVec.getLsbD_or, BitVec.getLsbD_and, BitVec.getLsbD_not, BitVec.getLsbD_ofNat,
    Nat.testBit_mul_two_pow, Nat.testBit_mod_two_pow, Nat.testBit_two_pow_sub_one, fits, decide_true, Bool.true_and]
  by_cases above : lo ≤ k
  · by_cases below : k < lo + width
    · have inside : k - lo < width := by omega
      simp [above, below, inside]
    · have outside : ¬k - lo < width := by omega
      simp [above, below, outside]
  · simp [above]

/-- Bits that a write of a field does not touch. -/
theorem getBits_putBits_other {lo width lo' width' : Nat} (fits : lo' + width' ≤ 16)
    (apart : lo' + width' ≤ lo ∨ lo + width ≤ lo') (v : Nat) (w : Int) :
    getBits lo' width' (putBits lo width v w) = getBits lo' width' w := by
  refine Nat.eq_of_testBit_eq fun j => ?_
  rw [testBit_getBits, testBit_getBits]
  by_cases inside : j < width'
  · rw [getLsbD_putBits (by omega), if_neg (by omega)]
  · simp [inside]

/-- Bits that lie within a field written. -/
theorem getBits_putBits_inside {lo width lo' width' : Nat} (fits : lo' + width' ≤ 16) (above : lo ≤ lo')
    (below : lo' + width' ≤ lo + width) (v : Nat) (w : Int) :
    getBits lo' width' (putBits lo width v w) = bitsOf v (lo' - lo) width' := by
  refine Nat.eq_of_testBit_eq fun j => ?_
  rw [testBit_getBits, bitsOf, Nat.testBit_mod_two_pow, Nat.testBit_div_two_pow]
  by_cases inside : j < width'
  · rw [getLsbD_putBits (by omega), if_pos (by omega)]
    congr 2
    omega
  · simp [inside]

/-- A field written reads back, when it fits. -/
theorem getBits_putBits_same {lo width v : Nat} (fits : lo + width ≤ 16) (small : v < 2 ^ width) (w : Int) :
    getBits lo width (putBits lo width v w) = v := by
  rw [getBits_putBits_inside fits (Nat.le_refl lo) (Nat.le_refl _), bitsOf]
  simpa using Nat.mod_eq_of_lt small

/-! ### Updates -/

/-- `s` with other signals and another stage miss. -/
def State.withSignals (s : State) (signals : Vector Signal 16) (miss : Bool) : State :=
  { s with signals := signals, stageMiss := miss }

theorem Offered.withSignals {s t : State} (h : Offered s t) (g : Vector Signal 16) (m : Bool) :
    Offered (s.withSignals g m) (t.withSignals g m) := by
  obtain ⟨⟨_, p, v, a, e, ⟨q, n, c, l, w, f, rfl⟩, master, rfl⟩, port, entry, voice, idle, duty, unrouted⟩ := h
  exact ⟨⟨_, p, v, a, e, ⟨q, n, c, l, w, f, rfl⟩, master, rfl⟩, port, entry, voice, idle, duty, unrouted⟩

theorem Offered.signals {s t : State} (h : Offered s t) : t.signals = s.signals ∧ t.stageMiss = s.stageMiss := by
  obtain ⟨⟨_, _, _, _, _, ⟨_, _, _, _, _, _, rfl⟩, _, rfl⟩, -⟩ := h
  exact ⟨rfl, rfl⟩

/-- `t` is `s` but for the signals, stage miss, and what the offer of a value can change. -/
def Updated (s t : State) : Prop := Offered s (t.withSignals s.signals s.stageMiss)

theorem Offered.updated {s t : State} (h : Offered s t) : Updated s t := by
  have same := h.signals
  have eq : t.withSignals s.signals s.stageMiss = t := by
    unfold State.withSignals
    rw [← same.1, ← same.2]
  exact eq.symm ▸ h

theorem Updated.refl (s : State) : Updated s s := (Offered.refl s).updated

theorem Updated.trans {s t u : State} (h : Updated s t) (g : Updated t u) : Updated s u :=
  Offered.trans h (Offered.withSignals g s.signals s.stageMiss)

theorem State.withSignals_updated (s : State) (g : Vector Signal 16) (m : Bool) : Updated s (s.withSignals g m) :=
  Offered.refl s

theorem Updated.port {s t : State} (h : Updated s t) (p : Fin 4) : PortOffered (s.port p) (t.port p) :=
  Offered.port h p

theorem Updated.entry {s t : State} (h : Updated s t) (n : Fin 16) : EntryOffered (s.entry n) (t.entry n) :=
  Offered.entry h n

theorem Updated.voice {s t : State} (h : Updated s t) (v : Fin 3) : VoiceOffered (s.voice v) (t.voice v) :=
  Offered.voice h v

theorem Updated.idle {s t : State} (h : Updated s t) (still : s.isRunning = false) :
    t.ports = s.ports ∧ t.voices = s.voices ∧ t.audio = s.audio :=
  Offered.idle (t := t.withSignals s.signals s.stageMiss) h still

/-- R12: an update leaves the duty of a port, or sets it within the effective limit. -/
theorem Updated.duty {s t : State} (h : Updated s t) (p : Fin 4) :
    (t.port p).duty = (s.port p).duty ∨ ((t.port p).duty.natAbs : Int) ≤ effLimit s.battery.ceiling (t.port p) :=
  Offered.duty h p

/-- The blocks that an update does not reach. -/
structure UpdateKept (s t : State) : Prop where
  sensors : t.sensors = s.sensors
  battery : t.battery = s.battery
  hot : t.hot = s.hot
  staging : t.staging = s.staging
  halt : t.halt = s.halt
  clock : t.clock = s.clock
  station : t.station = s.station
  record : t.record = s.record
  resetHeld : t.resetHeld = s.resetHeld
  pending : t.pending = s.pending
  bus : t.bus = { s.bus with
    queue := t.bus.queue, nextStamp := t.bus.nextStamp, announcePending := t.bus.announcePending }
  link : t.link = { s.link with lanes := t.link.lanes, watch := t.link.watch, forwarded := t.link.forwarded }
  master : t.audio.master = s.audio.master

theorem Offered.kept {s t : State} (h : Offered s t) : UpdateKept s t := by
  obtain ⟨⟨_, _, _, _, _, ⟨_, _, _, _, _, _, rfl⟩, master, rfl⟩, -⟩ := h
  exact ⟨rfl, rfl, rfl, rfl, rfl, rfl, rfl, rfl, rfl, rfl, rfl, rfl, master⟩

theorem Updated.kept {s t : State} (h : Updated s t) : UpdateKept s t :=
  have ⟨sensors, battery, hot, staging, halt, clock, station, record, held, pending, bus, link, master⟩ := Offered.kept h
  ⟨sensors, battery, hot, staging, halt, clock, station, record, held, pending, bus, link, master⟩

theorem setSignal_updated (i : Fin 16) (x : Signal) (s : State) : Updated s (s.setSignal i x) := Offered.refl s

theorem notify_updated (a b c : Nat) (s : State) : Updated s (notify a b c s) := (tell_told 3 _ s).offered.updated

section

variable {miss : State → State} (each : ∀ s, Updated s (miss s))
include each

theorem repeat_updated (k : Nat) (s : State) : Updated s (Nat.repeat miss k s) := by
  induction k with
  | zero => exact .refl s
  | succ k ih => exact ih.trans (each _)

theorem updateWith_updated (i : Fin 16) (v : Int) (s : State) : Updated s (updateWith miss i v s) :=
  ((((setSignal_updated i _ s).trans (offerOwn_offered i v _).updated).trans
    (publishUpdate_told i _).offered.updated).trans (watchOwn_told i v _).offered.updated).trans
    (repeat_updated each _ _)

end

theorem setStageMiss_updated (s : State) : Updated s (setStageMiss s) := by
  unfold setStageMiss
  split
  · exact notify_updated 5 0 0 s
  · exact ((s.withSignals_updated s.signals true).trans
      (updateWith_updated (notify_updated 5 0 0) 15 _ _)).trans (notify_updated 5 0 0 _)

theorem updateSignal_updated (i : Fin 16) (v : Int) (s : State) : Updated s (updateSignal i v s) :=
  updateWith_updated setStageMiss_updated i v s

theorem noteEvents_updated (p : Fin 4) (was : Port) (s : State) : Updated s (noteEvents p was s) :=
  ite_keeps (I := Updated s) (fun _ => .refl s) fun _ => updateSignal_updated 14 _ s

theorem clearStageMiss_updated (s : State) : Updated s (clearStageMiss s) :=
  ite_keeps (I := Updated s) (fun _ => (s.withSignals_updated s.signals false).trans (updateSignal_updated 15 _ _))
    fun _ => .refl s

theorem writeHaltWord_updated (s : State) : Updated s (writeHaltWord s) := updateSignal_updated 15 _ s

theorem writeMotorBits_updated (p : Fin 4) (s : State) : Updated s (writeMotorBits p s) := updateSignal_updated 14 _ s

theorem writeSensorBits_updated (p : Fin 4) (s : State) : Updated s (writeSensorBits p s) := updateSignal_updated 13 _ s

/-- A port that no acting entry has for its destination keeps its record through an update. -/
theorem Updated.port_unrouted {s t : State} (h : Updated s t) {p : Fin 4} (none : ¬s.Routed p) : t.port p = s.port p :=
  Offered.unrouted (t := t.withSignals s.signals s.stageMiss) h p none

/-- A port that no entry is bound to keeps its record through an update. -/
theorem Updated.port_free {s t : State} (h : Updated s t) {p : Fin 4} (free : ∀ n, (s.port p).source ≠ .listen n) :
    t.port p = s.port p := (h.port p).2 fun ⟨⟨n, bound⟩, _⟩ => free n bound

/-- A port in Coast, Brake or a mode that no binding sets keeps its record through an update. -/
theorem Updated.port_still {s t : State} (h : Updated s t) {p : Fin 4}
    (still : ¬((s.port p).mode = .power ∨ (s.port p).mode = .speed ∨ (s.port p).mode = .position)) :
    t.port p = s.port p := (h.port p).2 fun ⟨_, mode⟩ => still mode

/-! ### The signals after an update -/

/-- Signal 15 with stage miss in it. -/
def State.missed (s : State) : State :=
  s.withSignals (s.setSignal 15 { s.signal 15 with value := missWord true (s.signal 15).value }).signals true

theorem offers_signals (i : Fin 16) (v : Int) (s : State) :
    let t := watchOwn i v (publishUpdate i (offerOwn i v s).1)
    t.signals = s.signals ∧ t.stageMiss = s.stageMiss :=
  Offered.signals (((offerOwn_offered i v s).trans (publishUpdate_told i _).offered).trans (watchOwn_told i v _).offered)

theorem repeat_missAgain_signals (k : Nat) (s : State) :
    (Nat.repeat missAgain k s).signals = s.signals ∧ (Nat.repeat missAgain k s).stageMiss = s.stageMiss := by
  induction k with
  | zero => exact ⟨rfl, rfl⟩
  | succ k ih =>
    have told := (tell_told 3 (.notice 5 0 0) (Nat.repeat missAgain k s)).offered.signals
    exact ⟨told.1.trans ih.1, told.2.trans ih.2⟩

/-- R116: stage miss is set, and written to signal 15 when it was clear. -/
theorem setStageMiss_signals (s : State) : (setStageMiss s).stageMiss = true
    ∧ (setStageMiss s).signals = if s.stageMiss then s.signals else s.missed.signals := by
  unfold setStageMiss
  split
  next set =>
    have told := (tell_told 3 (.notice 5 0 0) s).offered.signals
    exact ⟨told.2.trans set, told.1⟩
  next clear =>
    dsimp only
    have told (t : State) := (tell_told 3 (.notice 5 0 0) t).offered.signals
    have repeated := repeat_missAgain_signals
    have offers := offers_signals 15 (missWord true (s.signal 15).value) s.missed
    refine ⟨?_, ?_⟩
    · exact ((told _).2.trans (repeated _ _).2).trans offers.2
    · exact ((told _).1.trans (repeated _ _).1).trans offers.1

/-- R116: stage miss set once is as good as set again. -/
theorem repeat_setStageMiss_signals (k : Nat) (s : State) :
    (k = 0 ∧ Nat.repeat setStageMiss k s = s)
      ∨ (0 < k ∧ (Nat.repeat setStageMiss k s).stageMiss = true
          ∧ (Nat.repeat setStageMiss k s).signals = if s.stageMiss then s.signals else s.missed.signals) := by
  induction k with
  | zero => exact .inl ⟨rfl, rfl⟩
  | succ k ih =>
    refine .inr ⟨k.succ_pos, ?_⟩
    have set := setStageMiss_signals (Nat.repeat setStageMiss k s)
    refine ⟨set.1, set.2.trans ?_⟩
    rcases ih with ⟨rfl, -⟩ | ⟨-, was, signals⟩
    · rfl
    · rw [was, if_pos rfl, signals]

/-- R87, R116: the signals after an update: the value stored, and signal 15 with stage miss when a refused trigger has
set it. -/
theorem updateSignal_signals (i : Fin 16) (v : Int) (s : State) :
    let stored := s.setSignal i { s.signal i with value := v }
    let t := updateSignal i v s
    (t.stageMiss = s.stageMiss ∧ t.signals = stored.signals)
      ∨ (s.stageMiss = false ∧ t.stageMiss = true ∧ t.signals = stored.missed.signals) := by
  intro stored t
  obtain ⟨offers, miss⟩ := offers_signals i v stored
  have after : t = Nat.repeat setStageMiss (offerOwn i v stored).2
    (watchOwn i v (publishUpdate i (offerOwn i v stored).1)) := rfl
  generalize watchOwn i v (publishUpdate i (offerOwn i v stored).1) = u at offers miss after
  have stays : u.stageMiss = s.stageMiss := miss
  rcases repeat_setStageMiss_signals (offerOwn i v stored).2 u with ⟨-, none⟩ | ⟨-, set, signals⟩
  · exact .inl ⟨(congrArg State.stageMiss (after.trans none)).trans stays,
      (congrArg State.signals (after.trans none)).trans offers⟩
  · rw [← after] at set signals
    cases was : s.stageMiss
    · refine .inr ⟨rfl, set, ?_⟩
      rw [signals, stays, was, if_neg (by simp)]
      unfold State.missed State.signal
      rw [show u.signals = stored.signals from offers]
      simp [State.withSignals, State.setSignal, offers]
    · refine .inl ⟨set, ?_⟩
      rw [signals, stays, was, if_pos rfl, offers]

theorem State.missed_signal_ne (s : State) {j : Fin 16} (other : j ≠ 15) : s.missed.signal j = s.signal j :=
  State.signal_setSignal_ne s _ (Ne.symm other)

theorem State.missed_signal_15 (s : State) :
    s.missed.signal 15 = { s.signal 15 with value := missWord true (s.signal 15).value } :=
  State.signal_setSignal s 15 _

theorem signal_of_signals {s t : State} (h : t.signals = s.signals) (j : Fin 16) : t.signal j = s.signal j := by
  unfold State.signal
  rw [h]

/-- R87: a producer's write of a signal is stored. -/
theorem updateSignal_signal_same {i : Fin 16} (other : i ≠ 15) (v : Int) (s : State) :
    (updateSignal i v s).signal i = { s.signal i with value := v } := by
  rcases updateSignal_signals i v s with ⟨-, eq⟩ | ⟨-, -, eq⟩
  · rw [signal_of_signals eq, State.signal_setSignal]
  · rw [signal_of_signals eq, State.missed_signal_ne _ other, State.signal_setSignal]

theorem updateSignal_signal_other {i j : Fin 16} (other : j ≠ i) (status : j ≠ 15) (v : Int) (s : State) :
    (updateSignal i v s).signal j = s.signal j := by
  rcases updateSignal_signals i v s with ⟨-, eq⟩ | ⟨-, -, eq⟩
  · rw [signal_of_signals eq, State.signal_setSignal_ne _ _ (Ne.symm other)]
  · rw [signal_of_signals eq, State.missed_signal_ne _ status, State.signal_setSignal_ne _ _ (Ne.symm other)]

theorem setSignal_15_ne {i : Fin 16} (other : i ≠ 15) (x : Signal) (s : State) :
    (s.setSignal i x).signal 15 = s.signal 15 := State.signal_setSignal_ne s x other

/-- R87, R116: signal 15 after an update of another signal. -/
theorem updateSignal_status {i : Fin 16} (other : i ≠ 15) (v : Int) (s : State)
    (same : (updateSignal i v s).stageMiss = s.stageMiss) : (updateSignal i v s).signal 15 = s.signal 15 := by
  rcases updateSignal_signals i v s with ⟨-, eq⟩ | ⟨clear, set, -⟩
  · rw [signal_of_signals eq, setSignal_15_ne other]
  · rw [set, clear] at same
    exact absurd same (by decide)

/-- R87, R116: the bits of signal 15 after its update, but for stage miss. -/
theorem updateSignal_15_bits (v : Int) (s : State) {lo width : Nat} (fits : lo + width ≤ 16)
    (apart : lo + width ≤ 7 ∨ 8 ≤ lo) :
    getBits lo width ((updateSignal 15 v s).signal 15).value = getBits lo width v := by
  rcases updateSignal_signals 15 v s with ⟨-, eq⟩ | ⟨-, -, eq⟩
  · rw [signal_of_signals eq, State.signal_setSignal]
  · rw [signal_of_signals eq, State.missed_signal_15, State.signal_setSignal]
    exact getBits_putBits_other fits (by omega) _ v

theorem updateSignal_stageMiss {i : Fin 16} (v : Int) {s : State} (set : s.stageMiss = true) :
    (updateSignal i v s).stageMiss = true := by
  rcases updateSignal_signals i v s with ⟨same, -⟩ | ⟨clear, -⟩
  · exact same.trans set
  · rw [set] at clear
    exact absurd clear (by decide)

end Sys2Proof.Machine
end

section

/-! PROOF. The publish condition, the commands of the Signal block and the three users of an update (O35, O37). -/

namespace Sys2Proof.Machine

/-! ### The publish condition (R88) -/

theorem Policy.onChange?_iff (p : Policy) : p.onChange? = true ↔ p = .onChange ∨ p = .both := by
  cases p <;> simp [Policy.onChange?]

theorem Policy.periodic?_iff (p : Policy) : p.periodic? = true ↔ p = .periodic ∨ p = .both := by
  cases p <;> simp [Policy.periodic?]

/-- R88: the signal has changed enough from the value last published. -/
def Signal.Changed (i : Fin 16) (x : Signal) : Prop :=
  ∀ l ∈ x.lastPublished, if i.val < 13 then 1 ≤ (x.value - l).natAbs ∧ x.deadband ≤ (x.value - l).natAbs else x.value ≠ l

theorem Signal.mustPublish_iff (i : Fin 16) (x : Signal) : x.mustPublish i = true ↔ x.Changed i := by
  unfold Signal.mustPublish Signal.Changed
  cases x.lastPublished with
  | none => simp
  | some l =>
    by_cases numeric : i.val < 13
    · simp [numeric, and_comm]
    · simp [numeric]

/-- R88: the policy asks for a publish at a change, and the signal has changed. -/
def Signal.Asks (i : Fin 16) (x : Signal) : Prop := (x.policy = .onChange ∨ x.policy = .both) ∧ x.Changed i

theorem testPublish_asks {i : Fin 16} {s : State} (asks : (s.signal i).Asks i) : testPublish i s = publishRequest i s := by
  unfold testPublish
  rw [if_pos]
  rw [Bool.and_eq_true, Policy.onChange?_iff, Signal.mustPublish_iff]
  exact asks

theorem testPublish_quiet {i : Fin 16} {s : State} (quiet : ¬(s.signal i).Asks i) : testPublish i s = s := by
  unfold testPublish
  rw [if_neg]
  rw [Bool.and_eq_true, Policy.onChange?_iff, Signal.mustPublish_iff]
  exact quiet

/-! ### The Signal block -/

theorem atSixteen_val (i : Fin 16) (op : Fin 16 → State → Taken) (s : State) : atSixteen i.val op s = op i s :=
  dif_pos i.isLt

theorem readPolicy_unknown {k : Nat} (unknown : 3 < k) : readPolicy k = none := by
  unfold readPolicy
  split <;> first | rfl | omega

/-- Settles O35, by the cases of the policy and of the publish condition. -/
theorem signalCommands : Obligations.SignalCommands := by
  intro via i policy deadband interval pol s awake x c ms y changed asks
  have run : exec c s = ends (answered via (signalSetPublish policy deadband interval i s)) := by
    rw [exec_of_blockOp (c := c) rfl awake, atSixteen_val]
  have timer : (if pol = .periodic ∨ pol = .both then some ms else none) = if pol.periodic? then some ms else none := by
    simp only [Policy.periodic?_iff]
  have set (known : readPolicy policy = some pol) :
      signalSetPublish policy deadband interval i s = done (testPublish i (s.setSignal i y)) := by
    simp only [signalSetPublish, known, y, x, timer, ms]
  refine ⟨fun unknown => ?_, fun known ask => ?_, fun known quiet => ?_, ?_, fun running => ?_, fun stopped => ?_⟩
  · rw [run, signalSetPublish, readPolicy_unknown unknown]
  · rw [run, set known, testPublish_asks]
    rw [State.signal_setSignal]
    exact ask
  · rw [run, set known, testPublish_quiet]
    rw [State.signal_setSignal]
    exact quiet
  · rw [exec_of_blockOp (c := .querySignal via i.val) rfl awake, atSixteen_val]
    simp only [signalQuery, Signal.report, shown, boolNat, Nat.cast_ite, Nat.cast_one, Nat.cast_zero, x]
  · refine (State.whenAwake_awake awake _).trans ?_
    rw [if_pos running]
  · refine (State.whenAwake_awake awake _).trans ?_
    rw [if_neg]
    rw [show (s.signal i).timer = none from stopped]
    simp

/-! ### The acting entries of an update (R97) -/

/-- R97: entry `n` acts and listens to this station's own signal `i`. -/
def State.hears (number : Option Nat) (i : Fin 16) (u : State) (n : Fin 16) : Prop :=
  (u.entry n).acting = true ∧ ∃ r ∈ (u.entry n).route, number = some r.source ∧ r.signal = i

theorem listens_iff (me : Nat) (i n : Fin 16) (u : State) : u.listens me i n = true ↔ State.hears (some me) i u n := by
  unfold State.listens State.hears
  rw [Bool.and_eq_true]
  cases (u.entry n).route <;> simp [eq_comm (a := me)]

theorem offerEntry_heard {me : Nat} {i n : Fin 16} {t : State × Nat} (v : Int) (h : State.hears (some me) i t.1 n) :
    offerEntry me i v t n = ((takeValue n v t.1).1, t.2 + if (takeValue n v t.1).2 then 1 else 0) :=
  if_pos ((listens_iff me i n t.1).mpr h)

theorem offerEntry_unheard {me : Nat} {i n : Fin 16} {t : State × Nat} (v : Int) (h : ¬State.hears (some me) i t.1 n) :
    offerEntry me i v t n = t :=
  if_neg fun listens => h ((listens_iff me i n t.1).mp listens)

/-- R97: the entries of an update in their order, by any step function that a hearing entry and another agree with. -/
theorem offerOwn_eq_foldl (i : Fin 16) (v : Int) (s : State) (f : State × Nat → Fin 16 → State × Nat)
    (heard : ∀ u n, State.hears s.bus.number i u.1 n →
      f u n = ((takeValue n v u.1).1, u.2 + if (takeValue n v u.1).2 then 1 else 0))
    (unheard : ∀ u n, ¬State.hears s.bus.number i u.1 n → f u n = u) :
    offerOwn i v s = sixteen.foldl f (s, 0) := by
  unfold offerOwn
  cases number : s.bus.number with
  | none =>
    suffices all : ∀ l : List (Fin 16), l.foldl f (s, 0) = (s, 0) from (all sixteen).symm
    intro l
    induction l with
    | nil => rfl
    | cons n l ih =>
      rw [List.foldl_cons, unheard (s, 0) n, ih]
      rintro ⟨-, r, -, own, -⟩
      exact absurd (number.symm.trans own) (by simp)
  | some me =>
    have step : offerEntry me i v = f := by
      rw [number] at heard unheard
      funext u n
      by_cases h : State.hears (some me) i u.1 n
      · rw [offerEntry_heard v h, heard u n h]
      · rw [offerEntry_unheard v h, unheard u n h]
    exact congrArg (fun f => sixteen.foldl f (s, 0)) step

theorem offerOwn_unheard {i : Fin 16} {s : State} (v : Int) (unheard : ∀ n, ¬State.hears s.bus.number i s n) :
    offerOwn i v s = (s, 0) := by
  unfold offerOwn
  cases number : s.bus.number with
  | none => rfl
  | some me =>
    rw [number] at unheard
    suffices all : ∀ l : List (Fin 16), l.foldl (offerEntry me i v) (s, 0) = (s, 0) from all sixteen
    intro l
    induction l with
    | nil => rfl
    | cons n l ih => rw [List.foldl_cons, offerEntry_unheard v (unheard n), ih]

/-! ### The publish policy (R88) -/

theorem signalQueued_iff (i : Fin 16) (s : State) :
    s.signalQueued i = true ↔ ∃ f ∈ s.bus.queue, (f.kind = .signal ∨ f.kind = .event) ∧ f.route = i.val := by
  simp [State.signalQueued]

theorem publishUpdate_asked {i : Fin 16} {s : State} (h : s.signalQueued i = true ∨ (s.signal i).Asks i) :
    publishUpdate i s = publishRequest i s := by
  unfold publishUpdate
  split
  · rfl
  · exact testPublish_asks (h.resolve_left ‹_›)

theorem publishUpdate_quiet {i : Fin 16} {s : State} (free : ¬s.signalQueued i = true) (quiet : ¬(s.signal i).Asks i) :
    publishUpdate i s = s := by
  unfold publishUpdate
  rw [if_neg free, testPublish_quiet quiet]

/-! ### The own pair of the watch list (R176) -/

theorem watchOwn_unlisted {i : Fin 16} {s : State} (v : Int)
    (unlisted : ∀ w ∈ s.link.watch, ¬(s.bus.number = some w.station ∧ w.index = i.val)) : watchOwn i v s = s := by
  have absent : (s.link.watch.find? fun w => s.isOwn w.station && w.index == i.val) = none := by
    rw [List.find?_eq_none]
    intro w mem
    simpa [State.isOwn] using unlisted w mem
  unfold watchOwn
  rw [absent]

/-- R175: a pair of the watch list is the only one with its numbers. -/
theorem watch_same_pair {l : List WatchPair} (distinct : watchDistinct l) {a b : Nat} {w x : WatchPair}
    (first : l[a]? = some w) (second : l[b]? = some x) (station : x.station = w.station) (index : x.index = w.index) :
    a = b := by
  rw [watchDistinct_iff_pairwise, List.pairwise_iff_getElem] at distinct
  obtain ⟨ha, rfl⟩ := List.getElem?_eq_some_iff.mp first
  obtain ⟨hb, rfl⟩ := List.getElem?_eq_some_iff.mp second
  by_contra differ
  rcases Nat.lt_or_gt_of_ne differ with less | more
  · exact absurd (distinct a b ha hb less) (by simp [WatchPair.is, station, index])
  · exact absurd (distinct b a hb ha more) (by simp [WatchPair.is, station, index])

/-- A change of the pair with the numbers of the one at a place is a change at that place. -/
theorem watch_map_eq_set {l : List WatchPair} (distinct : watchDistinct l) {place : Nat} {w : WatchPair}
    (here : l[place]? = some w) (h : Hold) :
    (l.map fun x => if x.station = w.station ∧ x.index = w.index then { x with hold := h } else x)
      = l.set place { w with hold := h } := by
  refine List.ext_getElem? fun k => ?_
  rw [List.getElem?_map, List.getElem?_set]
  by_cases same : place = k
  · subst same
    obtain ⟨inside, rfl⟩ := List.getElem?_eq_some_iff.mp here
    simp [inside]
  · rw [if_neg same]
    cases found : l[k]? with
    | none => rfl
    | some x =>
      rw [Option.map_some, if_neg]
      rintro ⟨station, index⟩
      exact same (watch_same_pair distinct here found station index)

theorem watchOwn_listed {i : Fin 16} {s : State} {place : Nat} {w : WatchPair} (v : Int)
    (distinct : watchDistinct s.link.watch) (here : s.link.watch[place]? = some w)
    (own : s.bus.number = some w.station) (index : w.index = i.val) :
    watchOwn i v s = match w.hold with
      | .stopped => tell 3 (.telemetry w.station w.index v) (s.setLink { s.link with
          watch := s.link.watch.set place { w with hold := .running false } })
      | .running _ => s.setLink { s.link with watch := s.link.watch.set place { w with hold := .running true } } := by
  have found : (s.link.watch.find? fun w => s.isOwn w.station && w.index == i.val) = some w := by
    cases first : s.link.watch.find? fun w => s.isOwn w.station && w.index == i.val with
    | none =>
      rw [List.find?_eq_none] at first
      exact absurd (first w (List.mem_of_getElem? here)) (by simp [State.isOwn, own, index])
    | some x =>
      have ⟨k, at_k⟩ := List.mem_iff_getElem?.mp (List.mem_of_find?_eq_some first)
      have same := List.find?_some first
      simp only [State.isOwn, own, Bool.and_eq_true, beq_iff_eq, Option.some.injEq] at same
      have place : place = k := watch_same_pair distinct here at_k same.1.symm (same.2.trans index.symm)
      rw [← at_k, ← place, here]
  unfold watchOwn
  rw [found]
  dsimp only
  rw [watch_map_eq_set distinct here, watch_map_eq_set distinct here] <;> rfl

/-- Settles O37: the offers keep the signals, and each user takes the value by its own lemma. -/
theorem updateReachesItsUsers : Obligations.UpdateReachesItsUsers := by
  intro i j v place w d s t x y stored asks queued hears entries watched hold
  have kept := (updateSignal_updated i v s).kept
  have eq : entries = offerOwn i v stored := 
    (offerOwn_eq_foldl i v stored _ (fun _ _ h => if_pos h) fun _ _ h => if_neg h).symm
  have queuedIff : stored.signalQueued i = true ↔ queued := signalQueued_iff i stored
  have asksIff : (stored.signal i).Asks i ↔ asks := by rw [State.signal_setSignal]; rfl
  refine ⟨fun other => updateSignal_signal_same other v s, ?_, fun other status => updateSignal_signal_other other status v s,
    fun other same => updateSignal_status other v s same, updateSignal_stageMiss v,
    kept.sensors, kept.battery, kept.staging, kept.halt, kept.clock, kept.station, kept.record, kept.hot,
    kept.resetHeld, kept.pending, ?_, fun unheard => ?_, fun asked => ?_, fun free quiet => ?_,
    watchOwn_unlisted v, fun distinct here stopped => ?_, fun distinct here running => ?_⟩
  · rintro rfl
    exact ⟨updateSignal_15_bits v s (by decide) (.inl (by decide)), updateSignal_15_bits v s (by decide) (.inr (by decide))⟩
  · rw [eq]
    rfl
  · rw [eq]
    exact offerOwn_unheard v unheard
  · exact publishUpdate_asked (asked.imp queuedIff.mpr asksIff.mpr)
  · exact publishUpdate_quiet (mt queuedIff.mp free) (mt asksIff.mp quiet)
  · obtain ⟨place, own, index⟩ := here
    rw [watchOwn_listed v distinct place own index, stopped]
    exact congrArg (fun k => tell 3 (.telemetry w.station k v) (hold (.running false))) index
  · obtain ⟨place, own, index⟩ := here
    rw [watchOwn_listed v distinct place own index, running]

end Sys2Proof.Machine
end

section

/-! PROOF. Mode changes, and the motor commands: their checks, the motion they start and the settings they replace
(O8 to O15). -/

namespace Sys2Proof.Machine

/-! ### Mode changes (R3) -/

/-- R3: a mode change touches the mode, the target, the profile, the regulator and the bridge, and no setting. -/
theorem Port.enter_changes (m : Mode) (x : Port) :
    ∃ target reference acc duty bridge captured stallCount stepTimer waveform pointIndex startIndex startPoint wanted count
      arrived, x.enter m = { x with
        mode := m, target := target, reference := reference, acc := acc, duty := duty, bridge := bridge,
        captured := captured, stallCount := stallCount, stepTimer := stepTimer, waveform := waveform,
        pointIndex := pointIndex, startIndex := startIndex, startPoint := startPoint, cyclesWanted := wanted,
        cycleCount := count, arrived := arrived } := by
  unfold Port.enter Port.clearPattern
  split
  next same => exact ⟨_, _, _, _, _, _, _, _, _, _, _, _, _, _, _, by rw [← same]⟩
  next =>
    cases m
    all_goals
      dsimp only
      split
      · exact ⟨_, _, _, _, _, _, _, _, _, _, _, _, _, _, _, rfl⟩
      · exact ⟨_, _, _, _, _, _, _, _, _, _, _, _, _, _, _, rfl⟩

@[simp] theorem Port.enter_patternDone (m : Mode) (x : Port) : (x.enter m).patternDone = x.patternDone := by
  obtain ⟨_, _, _, _, _, _, _, _, _, _, _, _, _, _, _, eq⟩ := x.enter_changes m
  rw [eq]

@[simp] theorem Port.enter_stallYielded (m : Mode) (x : Port) : (x.enter m).stallYielded = x.stallYielded := by
  obtain ⟨_, _, _, _, _, _, _, _, _, _, _, _, _, _, _, eq⟩ := x.enter_changes m
  rw [eq]

@[simp] theorem Port.enter_encoderLost (m : Mode) (x : Port) : (x.enter m).encoderLost = x.encoderLost := by
  obtain ⟨_, _, _, _, _, _, _, _, _, _, _, _, _, _, _, eq⟩ := x.enter_changes m
  rw [eq]

@[simp] theorem Port.enter_position (m : Mode) (x : Port) : (x.enter m).position = x.position := by
  obtain ⟨_, _, _, _, _, _, _, _, _, _, _, _, _, _, _, eq⟩ := x.enter_changes m
  rw [eq]

@[simp] theorem Port.enter_periodCode (m : Mode) (x : Port) : (x.enter m).periodCode = x.periodCode := by
  obtain ⟨_, _, _, _, _, _, _, _, _, _, _, _, _, _, _, eq⟩ := x.enter_changes m
  rw [eq]

@[simp] theorem Port.enter_lower (m : Mode) (x : Port) : (x.enter m).lower = x.lower := by
  obtain ⟨_, _, _, _, _, _, _, _, _, _, _, _, _, _, _, eq⟩ := x.enter_changes m
  rw [eq]

@[simp] theorem Port.enter_upper (m : Mode) (x : Port) : (x.enter m).upper = x.upper := by
  obtain ⟨_, _, _, _, _, _, _, _, _, _, _, _, _, _, _, eq⟩ := x.enter_changes m
  rw [eq]

@[simp] theorem Port.enter_illegal (m : Mode) (x : Port) : (x.enter m).illegal = x.illegal := by
  obtain ⟨_, _, _, _, _, _, _, _, _, _, _, _, _, _, _, eq⟩ := x.enter_changes m
  rw [eq]

@[simp] theorem Port.enter_safeAction (m : Mode) (x : Port) : (x.enter m).safeAction = x.safeAction := by
  obtain ⟨_, _, _, _, _, _, _, _, _, _, _, _, _, _, _, eq⟩ := x.enter_changes m
  rw [eq]

theorem Port.enter_same {m : Mode} {x : Port} (same : x.mode = m) : x.enter m = x := if_pos same

/-- Settles O12, by the cases of the mode entered, and of a Pattern mode left. -/
theorem modeChangeSteps : Obligations.ModeChangeSteps := by
  intro m x y looped
  refine ⟨fun same => Port.enter_same same, fun other => ?_⟩
  have fields : y.mode = m ∧ y.patternDone = x.patternDone ∧ y.position = x.position ∧ y.source = x.source :=
    ⟨x.enter_mode m, x.enter_patternDone m, x.enter_position m, x.enter_source m⟩
  refine ⟨fields.1, ?_⟩
  have looping (k : Mode) : looped k ↔ k.positional = true := by
    cases k <;> simp [looped, Mode.positional]
  simp only [looping]
  simp only [fields, true_and]
  simp only [y, Port.enter, if_neg other]
  by_cases pattern : x.mode = .pattern
  · cases m
    all_goals simp_all [Port.clearPattern, Port.enteredReference, Mode.positional, Mode.stepping]
  · cases m
    all_goals simp_all [Port.enteredReference, Mode.positional, Mode.stepping]

/-! ### The checks of the motor commands (R23) -/

theorem atPort_val (p : Fin 4) (op : Fin 4 → State → Taken) (s : State) : atPort p.val op s = op p s := dif_pos p.isLt

/-- Every motor command is its checks, and then an operation of its own. -/
theorem motorOp_of_parts {c : Instr} {P : Parts} (parts : partsOf c = some P) (motor : P.block = 1) :
    ∃ (need : EncoderNeed) (op : Fin 4 → State → Taken),
      blockOp c = some (P.via, atPort P.index fun p => motorTaken need (isMotion c) p (op p))
      ∧ (need = .working ↔ needsEncoder c = true) ∧ (need = .any ↔ P.code = 29) := by
  cases c
  all_goals cases parts
  all_goals cases motor
  all_goals
    refine ⟨_, _, rfl, ?_, ?_⟩
    · simp [needsEncoder]
    · simp

theorem code_of_motion {c : Instr} {P : Parts} (parts : partsOf c = some P) (motion : isMotion c = true) : P.code ≠ 29 := by
  cases c
  all_goals cases parts
  all_goals simp_all [isMotion]

theorem motorTaken_refused {need : EncoderNeed} {motion : Bool} {p : Fin 4} {op : State → Taken} {s : State} {r : Result}
    (fails : motorRefusal need motion p s = some r) : motorTaken need motion p op s = refuse r s := by
  unfold motorTaken
  rw [fails]

theorem motorTaken_accepted {need : EncoderNeed} {motion : Bool} {p : Fin 4} {op : State → Taken} {s : State}
    (passes : motorRefusal need motion p s = none) : motorTaken need motion p op s = op s := by
  unfold motorTaken
  rw [passes]

/-- Settles O8: the command is its checks and an operation of its own. -/
theorem motorChecksInOrder : Obligations.MotorChecksInOrder := by
  intro c P p s parts motor index awake
  obtain ⟨need, op, block, working, any⟩ := motorOp_of_parts parts motor
  have run : exec c s = ends (answered P.via (motorTaken need (isMotion c) p (op p) s)) := by
    rw [exec_of_blockOp block awake, index, atPort_val]
  refine ⟨fun off => ?_, fun plain asks => ?_, fun encoded lost asks => ?_, fun on has motion halted => ?_⟩
  · rw [run, motorTaken_refused]
    simp [motorRefusal, off]
  · have lacks : (s.port p).lacksEncoder need = true := by
      rcases asks with asks | asks
      · simp [Port.lacksEncoder, working.mpr asks, plain]
      · simp [Port.lacksEncoder, any.mpr asks, plain]
    rw [run, motorTaken_refused]
    simp [motorRefusal, plain, lacks]
  · rw [run, motorTaken_refused]
    simp [motorRefusal, encoded, Port.lacksEncoder, working.mpr asks, lost]
  · have notAny : need ≠ .any := fun isAny => by
      have code := any.mp isAny
      exact code_of_motion parts motion code
    have gives : (s.port p).lacksEncoder need = false := by
      cases need with
      | no => rfl
      | any => exact absurd rfl notAny
      | working =>
        have free := not_or.mp fun lacks => has ⟨working.mp rfl, lacks⟩
        simp [Port.lacksEncoder, free]
    rw [run, motorTaken_refused]
    simp [motorRefusal, on, gives, motion, State.isRunning, halted]

/-! ### Direct motion (R17, Table 1-6) -/

theorem putPort_port (p : Fin 4) (x : Port) (s : State) : (putPort p x s).port p = x := State.port_setPort s p x

/-- R26: signal 14 is written at the event only when one of its three flags has changed. -/
theorem noteEvents_same {p : Fin 4} {was : Port} {s : State} (pattern : (s.port p).patternDone = was.patternDone)
    (stall : (s.port p).stallYielded = was.stallYielded) (lost : (s.port p).encoderLost = was.encoderLost) :
    noteEvents p was s = s := if_pos ⟨pattern, stall, lost⟩

theorem noteEvents_port {p : Fin 4} {s : State} (was : Port) (free : ∀ n, (s.port p).source ≠ .listen n) :
    (noteEvents p was s).port p = s.port p := (noteEvents_updated p was s).port_free free

theorem directMotion_port {p : Fin 4} {src : Source} {move : Port → Port} {s : State} {y : Port}
    (moved : move { s.port p with source := src, stallYielded := false, patternDone := false } = y)
    (free : ∀ n, y.source ≠ .listen n) : (directMotion p src move s).port p = y := by
  unfold directMotion
  dsimp only
  rw [moved, noteEvents_port]
  · exact putPort_port p y _
  · rw [putPort_port]
    exact free

theorem directMotion_quiet {p : Fin 4} {src : Source} {move : Port → Port} {s : State} {y : Port}
    (moved : move { s.port p with source := src, stallYielded := false, patternDone := false } = y)
    (pattern : y.patternDone = (s.port p).patternDone) (stall : y.stallYielded = (s.port p).stallYielded)
    (lost : y.encoderLost = (s.port p).encoderLost) :
    directMotion p src move s = putPort p y (suspendSource (s.port p).source s) := by
  unfold directMotion
  dsimp only
  rw [moved, noteEvents_same]
  · rw [putPort_port]
    exact pattern
  · rw [putPort_port]
    exact stall
  · rw [putPort_port]
    exact lost

/-- A direct motion command that its port accepts: the port as moved, and the whole state when neither flag was set. -/
theorem directMotion_taken {p : Fin 4} {src : Source} {move : Port → Port} {s : State} {y : Port}
    (moved : move { s.port p with source := src, stallYielded := false, patternDone := false } = y)
    (source : y.source = src) (free : ∀ n, src ≠ .listen n) (pattern : y.patternDone = false)
    (stall : y.stallYielded = false) (lost : y.encoderLost = (s.port p).encoderLost) :
    (directMotion p src move s).port p = y
      ∧ ((s.port p).stallYielded = false ∧ (s.port p).patternDone = false →
          directMotion p src move s = putPort p y (suspendSource (s.port p).source s)) :=
  ⟨directMotion_port moved (source.symm ▸ free), fun ⟨noStall, noPattern⟩ =>
    directMotion_quiet moved (pattern.trans noPattern.symm) (stall.trans noStall.symm) lost⟩

theorem isRunning_iff (s : State) : s.isRunning = true ↔ s.halt.state = .running := by simp [State.isRunning]

/-- Settles O9: the three commands are direct motions of their port. -/
theorem coastBrakeAndPowerTakeThePort : Obligations.CoastBrakeAndPowerTakeThePort := by
  intro via p duty s awake running on x own coast brake power freed quiet
  have passes : motorRefusal .no true p s = none := by
    simp [motorRefusal, on, Port.lacksEncoder, (isRunning_iff s).mpr running]
  have free (n : Fin 16) : Source.command ≠ .listen n := by simp
  refine ⟨⟨_, ?_, directMotion_taken (y := coast)
      (move := fun x => { x.enter .coast with target := 0 }) rfl ?_ free ?_ ?_ ?_⟩,
    ⟨_, ?_, directMotion_taken (y := brake)
      (move := fun x => { x.enter .brake with target := 0 }) rfl ?_ free ?_ ?_ ?_⟩,
    ⟨directMotion p .command (fun x => Port.applyPower s.battery.ceiling
        { x.enter .power with target := clampAbs 1000 duty }) s, ?_,
      directMotion_taken (y := power) ?_ ?_ free ?_ ?_ ?_⟩⟩
  · rw [exec_of_blockOp (c := .coast via p.val) rfl awake, atPort_val, motorCoast, motorTaken_accepted passes]
  iterate 4 simp [coast, own, x]
  · rw [exec_of_blockOp (c := .brake via p.val) rfl awake, atPort_val, motorBrake, motorTaken_accepted passes]
  iterate 4 simp [brake, own, x]
  · rw [exec_of_blockOp (c := .setPower via p.val duty) rfl awake, atPort_val, motorSetPower, motorTaken_accepted passes]
  · simp [power, own, x, Port.applyPower, effLimit]
  iterate 4 simp [power, own, x]

/-! ### Ramped motion (R30 to R32) -/

theorem Port.aim_restart (m : Mode) (target : Int) (x : Port) :
    ((x.enter m).aim target).restartStep = { x.enter m with
      target := target, stepTimer := rampPeriod x.periodCode,
      reference := if x.periodCode = 0 then target else (x.enter m).reference } := by
  simp [Port.aim, Port.restartStep]

/-- Settles O10: the three commands are direct motions, aimed in a ramped mode. -/
theorem rampedMotionTakesThePort : Obligations.RampedMotionTakesThePort := by
  intro via p v s awake running encoded here x own aimed speed position moved freed quiet
  have passes : motorRefusal .working true p s = none := by
    simp [motorRefusal, encoded, here, Port.lacksEncoder, (isRunning_iff s).mpr running]
  have free (n : Fin 16) : Source.command ≠ .listen n := by simp
  have aim (m : Mode) (target : Int) : ((own.enter m).aim target).restartStep = aimed m target := own.aim_restart m target
  have taken (m : Mode) (target : Int) {move : Port → Port} (moves : move own = ((own.enter m).aim target).restartStep) :
      (directMotion p .command move s).port p = aimed m target
        ∧ (quiet → directMotion p .command move s = freed (aimed m target)) :=
    directMotion_taken (moves.trans (aim m target)) (by simp [aimed, own]) free (by simp [aimed, own])
      (by simp [aimed, own]) (by simp [aimed, own, x])
  refine ⟨⟨_, ?_, taken .speed (clampAbs 1500 v) (move := fun x => ((x.enter .speed).aim (clampAbs 1500 v)).restartStep) rfl⟩,
    ⟨_, ?_, taken .position (clamp24 v) (move := fun x => ((x.enter .position).aim (clamp24 v)).restartStep) rfl⟩,
    ⟨_, ?_, taken .position (own.moveTarget v) (move := fun x => ((x.enter .position).aim (x.moveTarget v)).restartStep) rfl⟩⟩
  · rw [exec_of_blockOp (c := .setSpeed via p.val v) rfl awake, atPort_val, motorSetSpeed, motorTaken_accepted passes]
  · rw [exec_of_blockOp (c := .setPosition via p.val v) rfl awake, atPort_val, motorSetPosition,
      motorTaken_accepted passes]
  · rw [exec_of_blockOp (c := .moveBy via p.val v) rfl awake, atPort_val, motorMoveBy, motorTaken_accepted passes]

/-! ### Patterns (R36) -/

theorem readWaveform_unknown {k : Nat} (unknown : 2 < k) : readWaveform k = none := by
  unfold readWaveform
  split <;> first | rfl | omega

/-- The waveform with a code. -/
def waveformOf (k : Nat) : Waveform := if k = 0 then .triangle else if k = 1 then .sawtooth else .sine

theorem readWaveform_known {k : Nat} (known : k ≤ 2) : readWaveform k = some (waveformOf k) := by
  interval_cases k <;> rfl

theorem Port.sinePoint_presets {x y : Port} (lower : y.lower = x.lower) (upper : y.upper = x.upper) (k : Nat) :
    y.sinePoint k = x.sinePoint k := by
  unfold Port.sinePoint
  rw [lower, upper]

/-- Settles O11, by the three waveforms. -/
theorem setPatternStartsPattern : Obligations.SetPatternStartsPattern := by
  intro via p waveform phase cycles s awake running encoded here x own entered r k leg sine y c
  have passes : motorRefusal .working true p s = none := by
    simp [motorRefusal, encoded, here, Port.lacksEncoder, (isRunning_iff s).mpr running]
  have run : exec c s = ends (answered via (match readWaveform waveform with
      | none => refuse .badArgument s
      | some w => if x.periodCode = 0 then refuse .badArgument s
        else done (directMotion p .pattern (Port.startPattern w (clampN 0 7 phase) (clampN 0 255 cycles)) s))) := by
    rw [exec_of_blockOp (c := c) rfl awake, atPort_val, motorSetPattern, motorTaken_accepted passes] <;> rfl
  refine ⟨fun bad => ?_, fun known moves => ?_⟩
  · rw [run]
    rcases bad with unknown | still
    · rw [readWaveform_unknown unknown]
    · split
      · rfl
      · rw [if_pos still]
  · rw [readWaveform_known known] at run
    dsimp only at run
    rw [if_neg moves] at run
    have three : (waveformOf waveform = .triangle ∧ y = leg .triangle)
        ∨ (waveformOf waveform = .sawtooth ∧ y = leg .sawtooth) ∨ (waveformOf waveform = .sine ∧ y = sine) := by
      have codes : waveform = 0 ∨ waveform = 1 ∨ waveform = 2 := by omega
      rcases codes with code | code | code
      all_goals simp [waveformOf, y, code]
    have started : Port.startPattern (waveformOf waveform) (clampN 0 7 phase) (clampN 0 255 cycles) own = y := by
      have entry : own.enter .pattern = entered := rfl
      have undone : entered.patternDone = false := by simp [entered, own]
      have lower : entered.lower = x.lower := by simp [entered, own, x]
      have upper : entered.upper = x.upper := by simp [entered, own, x]
      have period : entered.periodCode = x.periodCode := by simp [entered, own, x]
      have point (z : Port) (low : z.lower = x.lower) (high : z.upper = x.upper) (n : Nat) : z.sinePoint n = x.sinePoint n :=
        Port.sinePoint_presets low high n
      rcases three with ⟨w, eq⟩ | ⟨w, eq⟩ | ⟨w, eq⟩
      · simp [w, eq, Port.startPattern, leg, r, entry, Port.retarget, Port.patternTarget, Port.restartStep, undone, lower,
          upper, period]
      · simp [w, eq, Port.startPattern, leg, r, entry, Port.retarget, Port.patternTarget, Port.restartStep, undone, lower,
          upper, period]
      · simp [w, eq, Port.startPattern, sine, k, entry, Port.retarget, Port.patternTarget, Port.restartStep, undone, lower,
          upper, period, point]
    have same : y.source = .pattern ∧ y.patternDone = false ∧ y.stallYielded = false ∧ y.encoderLost = x.encoderLost := by
      rcases three with ⟨-, eq⟩ | ⟨-, eq⟩ | ⟨-, eq⟩
      all_goals simp [eq, leg, sine, entered, own]
    obtain ⟨source, pattern, stall, lost⟩ := same
    obtain ⟨port, quiet⟩ := directMotion_taken started source (by simp) pattern stall lost
    exact ⟨_, run, port, fun noStall noPattern => quiet ⟨noStall, noPattern⟩⟩

end Sys2Proof.Machine
end

section

/-! PROOF. The settings of a motor port, ZeroPosition and QueryPort (O13 to O15). -/

namespace Sys2Proof.Machine

theorem readGainSet_unknown {k : Nat} (unknown : 1 < k) : readGainSet k = none := by
  unfold readGainSet
  split <;> first | rfl | omega

theorem readStallPolicy_unknown {k : Nat} (unknown : 1 < k) : readStallPolicy k = none := by
  unfold readStallPolicy
  split <;> first | rfl | omega

theorem readSafeAction_unknown {k : Nat} (unknown : 3 < k) : readSafeAction k = none := by
  unfold readSafeAction
  split <;> first | rfl | omega

/-- R23: a setting passes the checks at a port of a kind, in every halt state. -/
theorem motorRefusal_setting {p : Fin 4} {s : State} (on : (s.port p).kind ≠ .none) : motorRefusal .no false p s = none := by
  simp [motorRefusal, on, Port.lacksEncoder]

theorem Mode.driven_iff (m : Mode) : m.driven = true ↔ ¬(m = .coast ∨ m = .brake) := by
  cases m <;> simp [Mode.driven]

/-- Settles O13: each setting replaces its fields, or its code is unknown. -/
theorem motorSettingsReplaceFields : Obligations.MotorSettingsReplaceFields := by
  intro via p a b c d s awake on x becomes bad limits reclamped
  have passes : motorRefusal .no false p s = none := motorRefusal_setting on
  have run {i : Instr} {f : Fin 4 → State → Taken} {t : Taken} (block : blockOp i = some (via, atPort p.val f))
      (taken : f p s = t) : exec i s = ends (answered via t) := by
    rw [exec_of_blockOp block awake, atPort_val, taken]
  have clamped (pol : StallPolicy) : Port.reclamp s.battery.ceiling { limits with stallPolicy := pol }
      = reclamped { limits with stallPolicy := pol } := by
    by_cases rest : x.mode = .coast ∨ x.mode = .brake
    · have still : ¬x.mode.driven = true := fun driven => (Mode.driven_iff _).mp driven rest
      simp only [reclamped, if_pos rest]
      exact if_neg still
    · simp only [reclamped, if_neg rest]
      exact if_pos ((Mode.driven_iff _).mpr rest)
  have gains (k : Nat) : motorSetGains k b c p s = match readGainSet k with
      | none => refuse .badArgument s
      | some true => done (s.setPort p { x with posKp := clampN 0 255 b, posKi := clampN 0 255 c })
      | some false => done (s.setPort p { x with spdKp := clampN 0 255 b, spdKi := clampN 0 255 c }) :=
    motorTaken_accepted passes
  have limit (k : Nat) : motorSetLimits a b c k p s = match readStallPolicy k with
      | none => refuse .badArgument s
      | some pol => done (s.setPort p (Port.reclamp s.battery.ceiling { limits with stallPolicy := pol })) :=
    motorTaken_accepted passes
  have safe (k : Nat) : motorSetSafeAction k p s = match readSafeAction k with
      | none => refuse .badArgument s
      | some act => done (s.setPort p { x with safeAction := act }) :=
    motorTaken_accepted passes
  refine ⟨run rfl (gains 0), run rfl (gains 1), fun unknown => run rfl ?_, run rfl ?_, run rfl ?_,
    fun unknown => run rfl ?_, run rfl (safe 0), run rfl (safe 1), run rfl (safe 2), run rfl (safe 3),
    fun unknown => run rfl ?_, run rfl (motorTaken_accepted passes)⟩
  · rw [gains, readGainSet_unknown unknown]
  · exact (limit 0).trans (congrArg (fun y => done (s.setPort p y)) (clamped .halt))
  · exact (limit 1).trans (congrArg (fun y => done (s.setPort p y)) (clamped .yield))
  · rw [limit, readStallPolicy_unknown unknown]
  · rw [safe, readSafeAction_unknown unknown]

/-! ### Presets and ramp (R35, Table 2-4) -/

/-- R35: with the presets replaced in Pattern mode, the target is the point the pattern is heading for. -/
theorem Port.withPresets_pattern {x : Port} (pattern : x.mode = .pattern) (l u : Int) :
    x.withPresets l u = Port.retarget { x with
      lower := l, upper := u, reference := clampI l u x.reference, startPoint := x.startPoint.map (clampI l u) } :=
  if_pos pattern

theorem Port.withRamp_stepping {x : Port} (stepping : x.mode = .speed ∨ x.mode = .position ∨ x.mode = .safeRamp)
    (step period : Nat) : x.withRamp step period =
      let y := { x with stepCode := step, periodCode := period }
      if period = 0 then { y with stepTimer := none, reference := x.target }
      else if period = x.periodCode then y else y.restartStep := by
  rcases stepping with mode | mode | mode
  all_goals simp [Port.withRamp, mode]

theorem Port.withRamp_pattern {x : Port} (pattern : x.mode = .pattern) (step period : Nat) :
    x.withRamp step period =
      let y := { x with stepCode := step, periodCode := period }
      if x.patternDone then y
      else if period = 0 then { y with stepTimer := none }
      else if period = x.periodCode then y else y.restartStep := by
  simp [Port.withRamp, pattern]

theorem Port.withRamp_still {x : Port} (still : x.mode = .coast ∨ x.mode = .brake ∨ x.mode = .power) (step period : Nat) :
    x.withRamp step period = { x with stepCode := step, periodCode := period } := by
  rcases still with mode | mode | mode
  all_goals simp [Port.withRamp, mode]

/-- Settles O14, by the modes of Table 2-4. -/
theorem presetsAndRampByMode : Obligations.PresetsAndRampByMode := by
  intro via p l u step period s awake on x l' u' st pe coded becomes presets ramp stepping running
  have passes : motorRefusal .no false p s = none := motorRefusal_setting on
  have run {i : Instr} {f : Fin 4 → State → Taken} {t : Taken} (block : blockOp i = some (via, atPort p.val f))
      (taken : f p s = t) : exec i s = ends (answered via t) := by
    rw [exec_of_blockOp block awake, atPort_val, taken]
  have replaced : motorSetPresets l u p s = if l' < u' then done (s.setPort p (x.withPresets l' u')) else refuse .badRange s :=
    motorTaken_accepted passes
  have ramped {y : Port} (eq : x.withRamp st pe = y) : becomes ramp y :=
    run rfl ((motorTaken_accepted passes).trans (congrArg (fun y => done (s.setPort p y)) eq))
  refine ⟨fun empty => run rfl ?_, fun ordered other => run rfl ?_, fun ordered pattern => ?_, fun still => ramped ?_,
    fun moves zero => ramped ?_, fun goes zero => ramped ?_, fun moves nonzero same => ramped ?_,
    fun moves nonzero new => ramped ?_, fun pattern ended => ramped ?_⟩
  · rw [replaced, if_neg (Int.not_lt.mpr empty)]
  · rw [replaced, if_pos ordered, Port.withPresets]
    simp [other]
  · intro y half
    refine run rfl (replaced.trans ((if_pos ordered).trans (congrArg (fun y => done (s.setPort p y)) ?_)))
    exact Port.withPresets_pattern pattern l' u'
  · exact Port.withRamp_still still st pe
  · rw [Port.withRamp_stepping moves]
    simp [zero, coded]
  · rw [Port.withRamp_pattern goes.1]
    simp [zero, goes.2, coded]
  · rcases moves with moves | goes
    · rw [Port.withRamp_stepping moves]
      simp [← same, nonzero, coded]
    · rw [Port.withRamp_pattern goes.1]
      simp [← same, nonzero, goes.2, coded]
  · rcases moves with moves | goes
    · rw [Port.withRamp_stepping moves]
      simp [nonzero, new, coded, Port.restartStep]
    · rw [Port.withRamp_pattern goes.1]
      simp [nonzero, new, goes.2, coded, Port.restartStep]
  · rw [Port.withRamp_pattern pattern]
    simp [ended, coded]

/-! ### ZeroPosition and QueryPort (R25, R27) -/

theorem Mode.settled_iff (m : Mode) : m.settled = true ↔ m = .coast ∨ m = .brake := by
  cases m <;> simp [Mode.settled]

/-- Settles O15: ZeroPosition by the mode, and QueryPort by its report. -/
theorem zeroAndQueryPort : Obligations.ZeroAndQueryPort := by
  intro via p v s awake x y c
  have run {i : Instr} {f : Fin 4 → State → Taken} {t : Taken} (block : blockOp i = some (via, atPort p.val f))
      (taken : f p s = t) : exec i s = ends (answered via t) := by
    rw [exec_of_blockOp block awake, atPort_val, taken]
  have passes (encoded : x.kind = .encoded) : motorRefusal .any false p s = none := by
    simp [motorRefusal, Port.lacksEncoder, show (s.port p).kind = .encoded from encoded]
  have zeroed (encoded : x.kind = .encoded) : motorZeroPosition v p s
      = if x.mode.settled then done (noteEvents p x (s.setPort p y)) else refuse .badState s :=
    motorTaken_accepted (passes encoded)
  refine ⟨fun encoded notCoast notBrake => run rfl ?_,
    fun encoded rest => ⟨noteEvents p x (s.setPort p y), run rfl ?_, ?_, ?_⟩, fun on => run rfl ?_⟩
  · rw [zeroed encoded, if_neg]
    rw [Mode.settled_iff]
    exact not_or.mpr ⟨notCoast, notBrake⟩
  · rw [zeroed encoded, if_pos ((Mode.settled_iff _).mpr rest)]
  · have settled : ¬(((s.setPort p y).port p).mode = .power ∨ ((s.setPort p y).port p).mode = .speed
        ∨ ((s.setPort p y).port p).mode = .position) := by
      rw [State.port_setPort]
      rcases rest with mode | mode
      all_goals simp [y, mode]
    exact ((noteEvents_updated p x _).port_still settled).trans (State.port_setPort s p y)
  · intro here
    refine noteEvents_same ?_ ?_ ?_
    all_goals simp [y, here]
  · exact motorTaken_accepted (motorRefusal_setting on)

end Sys2Proof.Machine
end

section

/-! PROOF. What the halt controller's operations do to the record of the halt, the ports and the voices; and how far
an update reaches in a station that is not Running. -/

namespace Sys2Proof.Machine

/-! ### Updates of a station that is not Running -/

theorem Offered.isRunning {s t : State} (h : Offered s t) : t.isRunning = s.isRunning :=
  congrArg (fun k : Halt => k.state == .running) h.kept.halt

theorem Updated.isRunning {s t : State} (h : Updated s t) : t.isRunning = s.isRunning :=
  congrArg (fun k : Halt => k.state == .running) h.kept.halt

theorem valuePort_idle {s : State} (still : s.isRunning = false) (p : Fin 4) (n : Fin 16) (v : Int) :
    valuePort p n v s = s := if_neg fun h => absurd h.2 (by simp [still])

theorem valuePitch_idle {s : State} (still : s.isRunning = false) (w : Fin 3) (n : Fin 16) (v : Int) :
    valuePitch w n v s = s := if_neg fun h => absurd h.2 (by simp [still])

theorem valueVolume_idle {s : State} (still : s.isRunning = false) (w : Fin 3) (n : Fin 16) (v : Int) :
    valueVolume w n v s = s := if_neg fun h => absurd h.2 (by simp [still])

theorem goTrigger_idle {s : State} (still : s.isRunning = false) (n : Fin 16) (g : Nat) (out : Int) :
    (goTrigger n g out s).2 = false := by
  unfold goTrigger
  dsimp only
  split
  · split
    · rw [if_neg (by simp [still])]
    · rfl
  · rfl

theorem takeValue_idle {s : State} (still : s.isRunning = false) (n : Fin 16) (v : Int) : (takeValue n v s).2 = false := by
  unfold takeValue
  dsimp only
  split
  · rfl
  next r _ =>
    cases r.dest with
    | goTrigger g => exact goTrigger_idle (s := s.setEntry n _) still n g _
    | _ => rfl

theorem offerEntry_idle {t : State × Nat} (still : t.1.isRunning = false) (src : Nat) (i : Fin 16) (v : Int) (n : Fin 16) :
    (offerEntry src i v t n).2 = t.2 := by
  unfold offerEntry
  split
  · simp [takeValue_idle still]
  · rfl

/-- R101: a station that is not Running refuses no trigger, for it asks none. -/
theorem offerValue_idle {s : State} (still : s.isRunning = false) (src : Nat) (i : Fin 16) (v : Int) :
    (offerValue src i v s).2 = 0 := by
  suffices all : ∀ (l : List (Fin 16)) (t : State × Nat), t.1.isRunning = false →
      (l.foldl (offerEntry src i v) t).2 = t.2 from all sixteen (s, 0) still
  intro l
  induction l with
  | nil => exact fun _ _ => rfl
  | cons n l ih =>
    intro t idle
    exact (ih _ ((offerEntry_offered src i v t n).isRunning.trans idle)).trans (offerEntry_idle idle src i v n)

theorem offerOwn_idle {s : State} (still : s.isRunning = false) (i : Fin 16) (v : Int) : (offerOwn i v s).2 = 0 := by
  unfold offerOwn
  split
  · exact offerValue_idle still _ i v
  · rfl

/-- R87: an update of a station that is not Running sets no stage miss. -/
theorem updateSignal_idle {s : State} (still : s.isRunning = false) (i : Fin 16) (v : Int) :
    updateSignal i v s = watchOwn i v (publishUpdate i (offerOwn i v (s.setSignal i { s.signal i with value := v })).1) := by
  show Nat.repeat setStageMiss (offerOwn i v (s.setSignal i { s.signal i with value := v })).2 _ = _
  rw [offerOwn_idle (by simpa using still)]
  rfl

theorem updateSignal_idle_signals {s : State} (still : s.isRunning = false) (i : Fin 16) (v : Int) :
    (updateSignal i v s).stageMiss = s.stageMiss
      ∧ (updateSignal i v s).signals = (s.setSignal i { s.signal i with value := v }).signals := by
  rw [updateSignal_idle still]
  have offers := offers_signals i v (s.setSignal i { s.signal i with value := v })
  exact ⟨offers.2, offers.1⟩

/-! ### The test for Halted (R125) -/

/-- R125: all four port-settled flags are true. -/
def State.AllSettled (s : State) : Prop := ∀ p : Fin 4, s.halt.settled[p] = true

theorem allSettled_iff (s : State) : (fourPorts.all fun p => s.halt.settled[p]) = true ↔ s.AllSettled := by
  unfold State.AllSettled fourPorts
  simp [Fin.forall_fin_succ]

/-- R125: a Halting station whose ports have all settled is Halted; any other is left alone. -/
theorem testHalted_cases (s : State) :
    (s.halt.state = .halting ∧ s.AllSettled
        ∧ testHalted s = writeHaltWord (s.setHalt { s.halt with state := .halted, safeTimer := none }))
      ∨ (¬(s.halt.state = .halting ∧ s.AllSettled) ∧ testHalted s = s) := by
  by_cases ready : s.halt.state = .halting ∧ s.AllSettled
  · exact .inl ⟨ready.1, ready.2, if_pos (ready.imp_right (allSettled_iff s).mpr)⟩
  · exact .inr ⟨ready, if_neg fun h => ready (h.imp_right (allSettled_iff s).mp)⟩

/-- R125: a station that becomes Halted keeps its ports and voices, and its entries but for their values. -/
structure HaltedFrom (s t : State) : Prop where
  ports : t.ports = s.ports
  voices : t.voices = s.voices
  audio : t.audio = s.audio
  entry : ∀ n, EntryOffered (s.entry n) (t.entry n)
  stageMiss : t.stageMiss = s.stageMiss
  staging : t.staging = s.staging
  first : t.halt.first = s.halt.first
  firstPort : t.halt.firstPort = s.halt.firstPort
  further : t.halt.further = s.halt.further
  settled : t.halt.settled = s.halt.settled

theorem testHalted_from (s : State) : HaltedFrom s (testHalted s) := by
  rcases testHalted_cases s with ⟨-, -, eq⟩ | ⟨-, eq⟩
  · rw [eq]
    have still : (s.setHalt { s.halt with state := .halted, safeTimer := none }).isRunning = false := by
      simp [State.isRunning]
    have update := writeHaltWord_updated (s.setHalt { s.halt with state := .halted, safeTimer := none })
    have kept := update.kept
    obtain ⟨ports, voices, audio⟩ := update.idle still
    have miss := (updateSignal_idle_signals still 15 (haltWord { s.halt with state := .halted, safeTimer := none }
      (s.signal 15).value)).1
    have halt : (writeHaltWord (s.setHalt { s.halt with state := .halted, safeTimer := none })).halt
        = { s.halt with state := .halted, safeTimer := none } := kept.halt
    exact ⟨ports, voices, audio, update.entry, miss, kept.staging, by rw [halt], by rw [halt], by rw [halt],
      by rw [halt]⟩
  · rw [eq]
    exact ⟨rfl, rfl, rfl, fun _ => .refl _, rfl, rfl, rfl, rfl, rfl, rfl⟩

theorem testHalted_port (p : Fin 4) (s : State) : (testHalted s).port p = s.port p := by
  unfold State.port
  rw [(testHalted_from s).ports]

theorem testHalted_state (s : State) : (testHalted s).halt.state = .running ↔ s.halt.state = .running := by
  rcases testHalted_cases s with ⟨halting, -, eq⟩ | ⟨-, eq⟩
  · rw [eq, (writeHaltWord_updated _).kept.halt]
    simp [halting]
  · rw [eq]

theorem testHalted_isRunning (s : State) : (testHalted s).isRunning = s.isRunning := by
  rw [Bool.eq_iff_iff, isRunning_iff, isRunning_iff, testHalted_state]

/-- R125: the state and the timer after the test. -/
theorem testHalted_halt (s : State) :
    (s.halt.state = .halting → s.AllSettled →
        (testHalted s).halt = { s.halt with state := .halted, safeTimer := none })
      ∧ (¬(s.halt.state = .halting ∧ s.AllSettled) → (testHalted s).halt = s.halt) := by
  rcases testHalted_cases s with ⟨halting, settled, eq⟩ | ⟨other, eq⟩
  · exact ⟨fun _ _ => by rw [eq, (writeHaltWord_updated _).kept.halt]; rfl, fun no => absurd ⟨halting, settled⟩ no⟩
  · exact ⟨fun halting settled => absurd ⟨halting, settled⟩ other, fun _ => by rw [eq]⟩

/-! ### A port taken back -/

theorem putPort_port_eq (p j : Fin 4) (x : Port) (s : State) : (putPort p x s).port j = if p = j then x else s.port j :=
  State.port_setPort_eq s p j x

theorem putPort_settled (p j : Fin 4) (x : Port) (s : State) :
    (putPort p x s).halt.settled[j] = if p = j then x.mode.settled else s.halt.settled[j] := by
  show (s.halt.settled.set p ((s.setPort p x).port p).mode.settled)[j] = _
  rw [State.port_setPort]
  simp [Vector.getElem_set, Fin.ext_iff]

theorem suspendEntry_acting (n : Fin 16) (s : State) : ((suspendEntry n s).entry n).acting = false := by
  unfold suspendEntry
  split
  · rw [State.entry_setEntry]
    rfl
  · exact Bool.not_eq_true _ ▸ ‹_›

/-- R15, R106: a port that takes itself back into Coast: it stands, its flag is true, and the entry it listened to no
longer acts. -/
theorem takenBack {p : Fin 4} {y : Port} (was : Port) (s : State) (command : y.source = .command) (coast : y.mode = .coast) :
    let t := testHalted (noteEvents p was (putPort p y (suspendSource (s.port p).source s)))
    t.port p = y ∧ t.halt.first = s.halt.first ∧ t.halt.settled[p] = true
      ∧ ∀ n, (s.port p).source = .listen n → (t.entry n).acting = false := by
  intro t
  have halted := testHalted_from (noteEvents p was (putPort p y (suspendSource (s.port p).source s)))
  have update := noteEvents_updated p was (putPort p y (suspendSource (s.port p).source s))
  have stands : (putPort p y (suspendSource (s.port p).source s)).port p = y := putPort_port p y _
  refine ⟨?_, ?_, ?_, fun n source => ?_⟩
  · rw [testHalted_port, update.port_free, stands]
    rw [stands, command]
    simp
  · rw [halted.first, update.kept.halt]
    show (suspendSource (s.port p).source s).halt.first = s.halt.first
    rw [(suspendSource_only _ s).halt_eq]
  · rw [halted.settled, update.kept.halt, putPort_settled, if_pos rfl, coast]
    rfl
  · rw [(halted.entry n).acting, (update.entry n).acting, source]
    exact suspendEntry_acting n s

/-! ### Halt entry (R121 to R124) -/

/-- R123: a port at a halt entry. -/
def Port.halted (c : CauseKind) (at_ : Option CausePort) (p : Fin 4) (x : Port) : Port :=
  (if coastedBy c at_ p then x.enter .coast else x.safe).dropPattern

theorem haltPort_eq (c : CauseKind) (at_ : Option CausePort) (s : State) (p : Fin 4) :
    haltPort c at_ s p = putPort p ((s.port p).halted c at_ p) s := rfl

theorem haltPorts_port (c : CauseKind) (at_ : Option CausePort) (s : State) (p : Fin 4) :
    (fourPorts.foldl (haltPort c at_) s).port p = (s.port p).halted c at_ p := by
  simp only [fourPorts, List.foldl_cons, List.foldl_nil, haltPort_eq, putPort_port_eq]
  fin_cases p <;> simp

theorem haltPorts_settled (c : CauseKind) (at_ : Option CausePort) (s : State) (p : Fin 4) :
    (fourPorts.foldl (haltPort c at_) s).halt.settled[p] = ((s.port p).halted c at_ p).mode.settled := by
  simp only [fourPorts, List.foldl_cons, List.foldl_nil, haltPort_eq, putPort_settled, putPort_port_eq]
  fin_cases p <;> simp

/-- R123: the ports at a halt entry reach their records and the port-settled flags alone. -/
theorem haltPorts_only (c : CauseKind) (at_ : Option CausePort) (s : State) : ∃ ports settled,
    fourPorts.foldl (haltPort c at_) s = { s with ports := ports, halt := { s.halt with settled := settled } } :=
  foldl_keeps (I := fun t => ∃ ports settled, t = { s with ports := ports, halt := { s.halt with settled := settled } })
    (f := haltPort c at_) (fun {t} p ⟨_, _, eq⟩ => by rw [eq]; exact ⟨_, _, rfl⟩) fourPorts ⟨s.ports, s.halt.settled, rfl⟩

theorem haltBreak_kept (c : CauseKind) (s : State) :
    (haltBreak c s).ports = s.ports ∧ (haltBreak c s).halt = s.halt ∧ (haltBreak c s).entries = s.entries := by
  obtain ⟨_, _, eq⟩ := haltBreak_only c s
  rw [eq]
  exact ⟨rfl, rfl, rfl⟩

/-- What a voice does leaves the blocks beside the voices and the lanes. -/
theorem silenceAll_kept (s : State) : (silenceAll s).ports = s.ports ∧ (silenceAll s).halt = s.halt
    ∧ (silenceAll s).entries = s.entries ∧ (silenceAll s).signals = s.signals ∧ (silenceAll s).bus = s.bus
    ∧ (silenceAll s).stageMiss = s.stageMiss ∧ (silenceAll s).staging = s.staging
    ∧ (silenceAll s).link = { s.link with lanes := (silenceAll s).link.lanes }
    ∧ ∀ i : Fin 4, i ≠ 2 → (silenceAll s).lane i = s.lane i := by
  have acts (v : Fin 3) (s : State) : VoiceActs v s (silenceVoice v s) := by
    have emptied : VoiceActs v s (s.setVoice v { s.voice v with queue := [] }) := .setVoice ⟨rfl, rfl, rfl, rfl, rfl, rfl⟩
    exact emptied.trans (becomeIdle_acts v _)
  suffices folded : ∀ (l : List (Fin 3)) (s : State), ∃ voices audio lanes, l.foldl (fun s v => silenceVoice v s) s
      = { s with voices := voices, audio := audio, link := { s.link with lanes := lanes } }
        ∧ ∀ i : Fin 4, i ≠ 2 → lanes[i] = s.link.lanes[i] by
    obtain ⟨voices, audio, lanes, eq, kept⟩ := folded threeVoices s
    unfold silenceAll
    rw [eq]
    exact ⟨rfl, rfl, rfl, rfl, rfl, rfl, rfl, rfl, kept⟩
  intro l
  induction l with
  | nil => exact fun s => ⟨s.voices, s.audio, s.link.lanes, rfl, fun _ _ => rfl⟩
  | cons v l ih =>
    intro s
    obtain ⟨x, a, m, eq, -, -, silenced⟩ := acts v s
    obtain ⟨voices, audio, lanes, folded, kept⟩ := ih (silenceVoice v s)
    rw [eq] at folded kept
    refine ⟨voices, audio, lanes, ?_, fun i ne => (kept i ne).trans (silenced i ne)⟩
    rw [List.foldl_cons, eq, folded]
    rfl

/-- R81, R117, R124: the voices silenced, the staging list emptied, the Go frames out of the queue. -/
def State.emptied (s : State) : State := removeGoFrames ((silenceAll s).setStaging [])

theorem emptied_kept (s : State) : s.emptied.ports = s.ports ∧ s.emptied.halt = s.halt ∧ s.emptied.entries = s.entries
    ∧ s.emptied.signals = s.signals ∧ s.emptied.stageMiss = s.stageMiss := by
  obtain ⟨ports, halt, entries, signals, -, miss, -⟩ := silenceAll_kept s
  unfold State.emptied
  generalize silenceAll s = t at ports halt entries signals miss
  exact ⟨ports, halt, entries, signals, miss⟩

/-- The ports and the record of a halting station (R121 to R123). -/
def State.haltPorts (c : CauseKind) (at_ : Option CausePort) (s : State) : State :=
  fourPorts.foldl (haltPort c at_) (haltBreak c (recordFirst c at_ s))

/-- A halting station before it tells of it: its record, its ports, its voices, its lists (R121 to R124). -/
def State.halting (c : CauseKind) (at_ : Option CausePort) (s : State) : State := (s.haltPorts c at_).emptied

theorem haltEntry_eq (c : CauseKind) (at_ : Option CausePort) (s : State) :
    haltEntry c at_ s = testHalted (notify 0 c.code (causePortCode at_) (writeHaltWord (s.halting c at_))) := rfl

theorem haltPorts_base (c : CauseKind) (at_ : Option CausePort) (s : State) (p : Fin 4) :
    (haltBreak c (recordFirst c at_ s)).port p = s.port p := by
  unfold State.port
  rw [(haltBreak_kept c _).1]
  rfl

theorem halting_halt (c : CauseKind) (at_ : Option CausePort) (s : State) : (s.halting c at_).halt = { s.halt with
    state := .halting, first := some c, firstPort := at_, further := [], safeTimer := some 3000,
    settled := (s.halting c at_).halt.settled } := by
  obtain ⟨ports, settled, eq⟩ := haltPorts_only c at_ (haltBreak c (recordFirst c at_ s))
  have halt : (s.halting c at_).halt = { (haltBreak c (recordFirst c at_ s)).halt with settled := settled } := by
    rw [State.halting, (emptied_kept _).2.1, State.haltPorts, eq]
  rw [halt, (haltBreak_kept c _).2.1]
  rfl

theorem halting_port (c : CauseKind) (at_ : Option CausePort) (s : State) (p : Fin 4) :
    (s.halting c at_).port p = (s.port p).halted c at_ p := by
  have folded : (s.haltPorts c at_).port p = _ := haltPorts_port c at_ (haltBreak c (recordFirst c at_ s)) p
  rw [haltPorts_base] at folded
  rw [← folded]
  unfold State.port
  rw [State.halting, (emptied_kept _).1]

theorem halting_settled (c : CauseKind) (at_ : Option CausePort) (s : State) (p : Fin 4) :
    (s.halting c at_).halt.settled[p] = ((s.port p).halted c at_ p).mode.settled := by
  have folded : (s.haltPorts c at_).halt.settled[p] = _ := haltPorts_settled c at_ (haltBreak c (recordFirst c at_ s)) p
  rw [haltPorts_base] at folded
  rw [State.halting, (emptied_kept _).2.1]
  exact folded

theorem halting_isRunning (c : CauseKind) (at_ : Option CausePort) (s : State) : (s.halting c at_).isRunning = false := by
  unfold State.isRunning
  rw [halting_halt]
  rfl

/-- A halting station tells of it without another change of its ports, its voices or its halt record. -/
theorem told_halting (c : CauseKind) (at_ : Option CausePort) (s : State) :
    let u := notify 0 c.code (causePortCode at_) (writeHaltWord (s.halting c at_))
    Updated (s.halting c at_) u ∧ u.ports = (s.halting c at_).ports ∧ u.voices = (s.halting c at_).voices
      ∧ u.audio = (s.halting c at_).audio := by
  intro u
  have update : Updated (s.halting c at_) u := (writeHaltWord_updated _).trans (notify_updated 0 _ _ _)
  exact ⟨update, update.idle (halting_isRunning c at_ s)⟩

/-- R121, R123: every port after a halt entry. -/
theorem haltEntry_port (c : CauseKind) (at_ : Option CausePort) (s : State) (p : Fin 4) :
    (haltEntry c at_ s).port p = (s.port p).halted c at_ p := by
  have told := told_halting c at_ s
  rw [haltEntry_eq, testHalted_port, ← halting_port c at_ s p]
  unfold State.port
  rw [told.2.1]

/-! ### Further causes (R127) -/

theorem coastPort_port (p j : Fin 4) (s : State) :
    (coastPort p s).port j = if p = j then (s.port p).enter .coast else s.port j := by
  unfold coastPort changeMode
  rw [testHalted_port, putPort_port_eq]

theorem coastPort_isRunning (p : Fin 4) (s : State) : (coastPort p s).isRunning = s.isRunning :=
  testHalted_isRunning _

/-- R127: every port after a further cause. -/
theorem furtherCause_port (c : CauseKind) (at_ : Option CausePort) (s : State) (p : Fin 4) :
    (furtherCause c at_ s).port p = if coastedBy c at_ p then (s.port p).enter .coast else s.port p := by
  unfold furtherCause
  dsimp only
  have base : (if s.halt.first = some c then s else s.setHalt { s.halt with further := addCause c s.halt.further }).port p
      = s.port p := by
    split <;> rfl
  generalize (if s.halt.first = some c then s else s.setHalt { s.halt with further := addCause c s.halt.further }) = u at base
  have step (u : State) (q : Fin 4) : ((if coastedBy c at_ q then coastPort q u else u).port p)
      = if q = p then (if coastedBy c at_ p then (u.port p).enter .coast else u.port p) else u.port p := by
    by_cases same : q = p
    · subst same
      rw [if_pos rfl]
      split
      · rw [coastPort_port, if_pos rfl]
      · rfl
    · rw [if_neg same]
      split
      · rw [coastPort_port, if_neg same]
      · rfl
  simp only [fourPorts, List.foldl_cons, List.foldl_nil, step, base]
  fin_cases p <;> simp

/-- R121, R127: every port after a cause. -/
theorem giveCause_port (c : CauseKind) (at_ : Option CausePort) (s : State) (p : Fin 4) :
    (giveCause c at_ s).port p = if s.isRunning then (s.port p).halted c at_ p
      else if coastedBy c at_ p then (s.port p).enter .coast else s.port p := by
  unfold giveCause
  split
  · exact haltEntry_port c at_ s p
  · exact furtherCause_port c at_ s p

theorem Port.enter_speed (m : Mode) (x : Port) : (x.enter m).speed = x.speed := by
  obtain ⟨_, _, _, _, _, _, _, _, _, _, _, _, _, _, _, eq⟩ := x.enter_changes m
  rw [eq]

/-- A port keeps what it measures: its kind, its position and its speed. -/
def SameMeasure (x y : Port) : Prop := y.kind = x.kind ∧ y.position = x.position ∧ y.speed = x.speed

theorem Port.enter_measure (m : Mode) (x : Port) : SameMeasure x (x.enter m) :=
  ⟨x.enter_kind m, x.enter_position m, x.enter_speed m⟩

theorem Port.halted_measure (c : CauseKind) (at_ : Option CausePort) (p : Fin 4) (x : Port) :
    SameMeasure x (x.halted c at_ p) := by
  have dropped {y : Port} (h : SameMeasure x y) : SameMeasure x y.dropPattern := by
    unfold Port.dropPattern
    split <;> exact h
  unfold Port.halted Port.safe
  split
  · exact dropped (x.enter_measure .coast)
  · split
    · exact dropped ⟨rfl, rfl, rfl⟩
    · exact dropped (x.enter_measure .safeRamp)
    · exact dropped (x.enter_measure _)

theorem giveCause_measure (c : CauseKind) (at_ : Option CausePort) (s : State) (p : Fin 4) :
    SameMeasure (s.port p) ((giveCause c at_ s).port p) := by
  rw [giveCause_port]
  split
  · exact Port.halted_measure c at_ p _
  · split
    · exact Port.enter_measure .coast _
    · exact ⟨rfl, rfl, rfl⟩

end Sys2Proof.Machine
end

section

/-! PROOF. The encoder, the protection of a port and of the driver, and the regulation period (O16, O18, O19). -/

namespace Sys2Proof.Machine

/-! ### The encoder (R4 to R6) -/

theorem exec_encoderTransition {s : State} (awake : s.resetHeld = []) (p : Fin 4) (forward : Bool) :
    exec (.encoderTransition p forward) s
      = ends (if (s.port p).kind = .encoded then s.setPort p ((s.port p).count forward) else s) := by
  dsimp only [exec]
  exact State.whenAwake_awake awake _

theorem exec_encoderIllegalTransition {s : State} (awake : s.resetHeld = []) (p : Fin 4) (at_ : Nat) :
    exec (.encoderIllegalTransition p at_) s = ends (if (s.port p).kind = .encoded then
      match (s.port p).illegal with
      | t :: rest =>
        if (s.port p).illegal.length < 3 then s.setPort p { s.port p with illegal := (s.port p).illegal ++ [at_] }
        else if at_ < t + 100000 then encoderLost p s
        else s.setPort p { s.port p with illegal := rest ++ [at_] }
      | [] => s.setPort p { s.port p with illegal := [at_] }
    else s) := by
  dsimp only [exec]
  exact State.whenAwake_awake awake _

/-- R4: the place of the counter after a transition. -/
def Port.nextPosition (forward : Bool) (x : Port) : Int := if forward then x.position + 1 else x.position - 1

theorem Port.count_within {forward : Bool} {x : Port} (low : -8388608 ≤ x.nextPosition forward)
    (high : x.nextPosition forward ≤ 8388607) : x.count forward = { x with position := x.nextPosition forward } :=
  if_pos (clampI_of_mem low high)

theorem Port.count_beyond {forward : Bool} {x : Port} (beyond : clamp24 (x.nextPosition forward) ≠ x.nextPosition forward) :
    x.count forward = { x with position := clamp24 (x.nextPosition forward), positionLimit := true } :=
  if_neg beyond

/-- R6: a lost encoder leaves a port in Coast, Brake or Power its mode and source. -/
theorem encoderLost_kept {p : Fin 4} {s : State} (direct : (s.port p).mode = .coast ∨ (s.port p).mode = .brake
    ∨ (s.port p).mode = .power) :
    let t := encoderLost p s
    (t.port p).encoderLost = true ∧ (t.port p).illegal = [] ∧ (t.port p).mode = (s.port p).mode
      ∧ (t.port p).source = (s.port p).source := by
  have eq : encoderLost p s = noteEvents p (s.port p) (s.setPort p { s.port p with encoderLost := true, illegal := [] }) := by
    unfold encoderLost
    dsimp only
    rcases direct with mode | mode | mode
    all_goals rw [mode]
  intro t
  have offered := (noteEvents_updated p (s.port p) (s.setPort p { s.port p with encoderLost := true, illegal := [] })).port p
  rw [← eq, State.port_setPort] at offered
  obtain ⟨⟨_, _, _, _, after⟩, -⟩ := offered
  simp [t, after]

/-- R6: a lost encoder takes a port in a loop mode to Coast, and back from its binding. -/
theorem encoderLost_taken {p : Fin 4} {s : State} (coast : (s.port p).mode ≠ .coast) (brake : (s.port p).mode ≠ .brake)
    (power : (s.port p).mode ≠ .power) :
    encoderLost p s = testHalted (noteEvents p (s.port p) (putPort p
      (({ s.port p with encoderLost := true, illegal := [] } : Port).enter .coast).ownSource
      (suspendSource (s.port p).source s))) := by
  unfold encoderLost
  dsimp only
  split
  · exact absurd ‹_› coast
  · exact absurd ‹_› brake
  · exact absurd ‹_› power
  · rfl

/-- Settles O16, by the place of the counter and by the illegal transitions on record. -/
theorem encoderTransitions : Obligations.EncoderTransitions := by
  intro p forward at_ t0 t1 t2 s awake x n valid illegal lost encoded
  have counted (is : encoded) : exec valid s = ends (s.setPort p (x.count forward)) := by
    rw [exec_encoderTransition awake]
    exact congrArg ends (if_pos is)
  have recorded (is : encoded) : exec illegal s = ends (match x.illegal with
      | t :: rest =>
        if x.illegal.length < 3 then s.setPort p { x with illegal := x.illegal ++ [at_] }
        else if at_ < t + 100000 then encoderLost p s
        else s.setPort p { x with illegal := rest ++ [at_] }
      | [] => s.setPort p { x with illegal := [at_] }) := by
    rw [exec_encoderIllegalTransition awake]
    exact congrArg ends (if_pos is)
  refine ⟨fun is low high => ?_, fun is past => ?_, fun is under => ?_, fun is few => ?_, fun is full late => ?_,
    fun is full soon => ⟨encoderLost p s, ?_, ?_⟩, fun other => ⟨?_, ?_⟩⟩
  · rw [counted is, Port.count_within low high]
    rfl
  · have clamped : clamp24 n = 8388607 := clampI_of_gt (by decide) past
    rw [counted is, Port.count_beyond]
    · exact congrArg (fun k => ends (s.setPort p { x with position := k, positionLimit := true })) clamped
    · exact fun same => absurd past (by rw [show n = 8388607 from same.symm.trans clamped]; decide)
  · have clamped : clamp24 n = -8388608 := clampI_of_lt under _
    rw [counted is, Port.count_beyond]
    · exact congrArg (fun k => ends (s.setPort p { x with position := k, positionLimit := true })) clamped
    · exact fun same => absurd under (by rw [show n = -8388608 from same.symm.trans clamped]; decide)
  · rw [recorded is]
    split
    next eq => rw [if_pos few]
    next eq => rw [eq]; rfl
  · rw [recorded is, full]
    dsimp only
    rw [if_neg (by simp), if_neg (by omega)]
    rfl
  · rw [recorded is, full]
    dsimp only
    rw [if_neg (by simp), if_pos soon]
  · by_cases direct : x.mode = .coast ∨ x.mode = .brake ∨ x.mode = .power
    · obtain ⟨gone, empty, mode, source⟩ := encoderLost_kept direct
      refine ⟨gone, empty, fun _ => ⟨mode, source⟩, fun coast brake power => ?_⟩
      rcases direct with h | h | h
      · exact absurd h coast
      · exact absurd h brake
      · exact absurd h power
    · have ⟨coast, others⟩ := not_or.mp direct
      have ⟨brake, power⟩ := not_or.mp others
      have back := takenBack (p := p) (y := (lost.enter .coast).ownSource) x s rfl (by simp [Port.ownSource])
      rw [encoderLost_taken coast brake power]
      obtain ⟨port, -, settled, entries⟩ := back
      refine ⟨?_, ?_, fun h => absurd h direct, fun _ _ _ => ⟨port, settled, entries⟩⟩
      · rw [port]
        simp [Port.ownSource, lost]
      · rw [port]
        simp [Port.ownSource, lost]
  · rw [exec_encoderTransition awake]
    exact congrArg ends (if_neg other)
  · rw [exec_encoderIllegalTransition awake]
    exact congrArg ends (if_neg other)

/-! ### Protection (R13 to R16, R34) -/

theorem exec_temperatureSample {s : State} (awake : s.resetHeld = []) (celsius : Int) :
    exec (.temperatureSample celsius) s = ends (if s.hot then if celsius < 110 then { s with hot := false } else s
      else if 125 ≤ celsius then giveCause .thermal none { s with hot := true } else s) := by
  dsimp only [exec]
  exact State.whenAwake_awake awake _

theorem Port.hasArrived_iff (x : Port) :
    x.hasArrived = true ↔ x.reference = x.target ∧ (x.position - x.target).natAbs ≤ x.window := by
  simp [Port.hasArrived]

theorem Port.stalling_iff (x : Port) : x.stalling = true ↔ 500 ≤ x.duty.natAbs ∧ x.speed.natAbs < 50 := by
  simp [Port.stalling]

theorem stallStage_checked {p : Fin 4} {s : State} (checked : (s.port p).kind = .encoded ∧ (s.port p).encoderLost = false) :
    stallStage p s = if (s.port p).stalling then
      if ((s.port p).stallCount + 1) * 5 < (s.port p).stallTime then
        s.setPort p { s.port p with stallCount := (s.port p).stallCount + 1 }
      else stalled p (s.setPort p { s.port p with stallCount := 0 })
    else s.setPort p { s.port p with stallCount := 0 } :=
  if_pos ⟨checked.1, by simp [checked.2]⟩

theorem arrivalStage_checked {p : Fin 4} {s : State}
    (checked : (s.port p).kind = .encoded ∧ (s.port p).encoderLost = false) :
    arrivalStage p s = match (s.port p).mode with
      | .position => s.setPort p { s.port p with arrived := (s.port p).hasArrived }
      | .safeRamp => if (s.port p).hasArrived then coastPort p s else s
      | _ => s :=
  if_pos ⟨checked.1, by simp [checked.2]⟩

/-- Settles O18, check by check. -/
theorem portAndDriverProtection : Obligations.PortAndDriverProtection := by
  intro p current celsius s x sensed stalling checked due arrived
  have stall : x.stalling = true ↔ stalling := x.stalling_iff
  have arrives : x.hasArrived = true ↔ arrived := x.hasArrived_iff
  refine ⟨fun within => ?_, fun above few => ?_, fun above many => ?_, fun ok free => ?_, fun ok stalls early => ?_,
    fun ok stalls late policy => ?_, fun ok stalls late policy => ?_, fun not => ⟨?_, ?_⟩, fun ok position => ?_,
    fun ok ramp there => ?_, fun ramp away => ?_, fun awake cool low => ?_, fun awake cool high => ?_,
    fun awake hot low => ?_, fun awake hot high => ?_⟩
  · exact if_neg (by show ¬x.currentLimit < min current 3000; omega)
  · exact (if_pos above).trans (if_pos (by show x.overCount + 1 < 4; omega))
  · exact (if_pos above).trans (if_neg (by show ¬x.overCount + 1 < 4; omega))
  · rw [stallStage_checked ok, if_neg (mt stall.mp free)]
  · rw [stallStage_checked ok, if_pos (stall.mpr stalls), if_pos (Nat.lt_of_not_le early)]
  · rw [stallStage_checked ok, if_pos (stall.mpr stalls), if_neg (Nat.not_lt.mpr late)]
    unfold stalled
    dsimp only
    rw [State.port_setPort]
    dsimp only
    rw [policy]
  · intro t
    have eq : t = testHalted (noteEvents p { x with stallCount := 0 } (putPort p
        { (({ x with stallCount := 0 } : Port).enter .coast).ownSource with stallYielded := true }
        (suspendSource ((s.setPort p { x with stallCount := 0 }).port p).source (s.setPort p { x with stallCount := 0 })))) := by
      show stallStage p s = _
      rw [stallStage_checked ok, if_pos (stall.mpr stalls), if_neg (Nat.not_lt.mpr late)]
      unfold stalled
      dsimp only
      rw [State.port_setPort]
      dsimp only
      rw [policy]
    have back := takenBack (p := p)
      (y := { (({ x with stallCount := 0 } : Port).enter .coast).ownSource with stallYielded := true })
      { x with stallCount := 0 } (s.setPort p { x with stallCount := 0 }) rfl (by simp [Port.ownSource])
    rw [← eq, State.port_setPort] at back
    exact back
  · refine if_neg fun h => not ⟨h.1, by simpa using h.2⟩
  · refine if_neg fun h => not ⟨h.1, by simpa using h.2⟩
  · have same (inst : Decidable arrived) : x.hasArrived = @decide arrived inst := by
      rw [Bool.eq_iff_iff, arrives, decide_eq_true_iff]
    refine (arrivalStage_checked ok).trans ?_
    split
    next => exact congrArg (fun b => s.setPort p { x with arrived := b }) (same _)
    next ramp => exact absurd (position.symm.trans ramp) (by simp)
    next other _ => exact absurd position other
  · rw [arrivalStage_checked ok, ramp]
    dsimp only
    rw [if_pos (arrives.mpr there), coastPort_port, if_pos rfl]
  · by_cases ok : checked
    · rw [arrivalStage_checked ok, ramp]
      exact if_neg (mt arrives.mp away)
    · exact if_neg fun h => ok ⟨h.1, by simpa using h.2⟩
  · rw [exec_temperatureSample awake, if_neg (by simp [cool]), if_neg (by omega)]
  · rw [exec_temperatureSample awake, if_neg (by simp [cool]), if_pos high]
  · rw [exec_temperatureSample awake, if_pos hot, if_pos low]
  · rw [exec_temperatureSample awake, if_pos hot, if_neg (by omega)]

/-! ### The regulation period (R7, R8, R26) -/

theorem exec_regulationPeriod {s : State} (awake : s.resetHeld = []) (p : Fin 4) (current : Nat) :
    exec (.regulationPeriod p current) s = ends (if (s.port p).kind = .none then s
      else signalStage p (stallStage p (arrivalStage p (driveStage p (currentStage p current (measureStage p s)))))) := by
  dsimp only [exec]
  exact State.whenAwake_awake awake _

/-- A stage of the period that reaches what a cause reaches, and keeps what the port has measured. -/
def StageKept (p : Fin 4) (s t : State) : Prop := OnlyHalt s t ∧ SameMeasure (s.port p) (t.port p)

theorem StageKept.refl (p : Fin 4) (s : State) : StageKept p s s := ⟨.refl s, rfl, rfl, rfl⟩

theorem StageKept.trans {p : Fin 4} {s t u : State} (h : StageKept p s t) (g : StageKept p t u) : StageKept p s u :=
  ⟨h.1.trans g.1, g.2.1.trans h.2.1, g.2.2.1.trans h.2.2.1, g.2.2.2.trans h.2.2.2⟩

theorem StageKept.setPort {p : Fin 4} {y : Port} {s : State} (same : SameMeasure (s.port p) y) :
    StageKept p s (s.setPort p y) := ⟨(OnlyUpdate.setPort p y s).halt, by rwa [State.port_setPort]⟩

theorem StageKept.cause (c : CauseKind) (at_ : Option CausePort) (p : Fin 4) (s : State) :
    StageKept p s (giveCause c at_ s) := ⟨giveCause_only c at_ s, giveCause_measure c at_ s p⟩

theorem currentStage_kept (p : Fin 4) (current : Nat) (s : State) : StageKept p s (currentStage p current s) := by
  have written (k n : Nat) : StageKept p s (s.setPort p { s.port p with current := k, overCount := n }) :=
    .setPort ⟨rfl, rfl, rfl⟩
  exact ite_keeps (I := StageKept p s)
    (fun _ => ite_keeps (fun _ => written _ _) fun _ => (written _ _).trans (.cause _ _ p _)) fun _ => written _ _

theorem Port.drive_measure (eff : Int) (x : Port) : SameMeasure x (x.drive eff) := by
  unfold Port.drive
  split <;> exact ⟨rfl, rfl, rfl⟩

theorem driveStage_kept (p : Fin 4) (s : State) : StageKept p s (driveStage p s) :=
  .setPort (Port.drive_measure _ ((s.port p).clampAcc _))

theorem coastPort_kept (p : Fin 4) (s : State) : StageKept p s (coastPort p s) := by
  refine ⟨coastPort_only p s, ?_⟩
  rw [coastPort_port, if_pos rfl]
  exact Port.enter_measure .coast _

theorem arrivalStage_kept (p : Fin 4) (s : State) : StageKept p s (arrivalStage p s) := by
  refine ite_keeps (I := StageKept p s) (fun _ => ?_) fun _ => .refl p s
  split
  · exact .setPort ⟨rfl, rfl, rfl⟩
  · exact ite_keeps (I := StageKept p s) (fun _ => coastPort_kept p s) fun _ => .refl p s
  · exact .refl p s

theorem Updated.measure {s t : State} (h : Updated s t) (p : Fin 4) : SameMeasure (s.port p) (t.port p) := by
  obtain ⟨⟨_, _, _, _, eq⟩, -⟩ := h.port p
  rw [eq]
  exact ⟨rfl, rfl, rfl⟩

theorem stalled_kept (p : Fin 4) (s : State) : StageKept p s (stalled p s) := by
  unfold stalled
  dsimp only
  split
  · exact .cause _ _ p s
  · have reach : OnlyHalt s (suspendSource (s.port p).source s) := (suspendSource_only _ s).halt
    refine ⟨((reach.trans (putPort_only p _ _)).trans (noteEvents_only p _ _).halt).trans (testHalted_only _), ?_⟩
    have stands := (takenBack (p := p) (y := { ((s.port p).enter .coast).ownSource with stallYielded := true })
      (s.port p) s rfl (by simp [Port.ownSource])).1
    rw [stands]
    exact Port.enter_measure .coast _

theorem stallStage_kept (p : Fin 4) (s : State) : StageKept p s (stallStage p s) := by
  have counted (n : Nat) : StageKept p s (s.setPort p { s.port p with stallCount := n }) := .setPort ⟨rfl, rfl, rfl⟩
  exact ite_keeps (I := StageKept p s)
    (fun _ => ite_keeps
      (fun _ => ite_keeps (fun _ => counted _) fun _ => (counted 0).trans (stalled_kept p _)) fun _ => counted 0)
    fun _ => .refl p s

/-- R26: what the last stage writes to the position and the speed signal. -/
theorem signalStage_signals (p : Fin 4) (s : State) :
    ((signalStage p s).signal (positionSignal p)).value
        = (if (s.port p).kind = .encoded then clampAbs 32767 (s.port p).position else 0)
      ∧ ((signalStage p s).signal (speedSignal p)).value = (if (s.port p).kind = .encoded then (s.port p).speed else 0)
      ∧ Updated s (signalStage p s) := by
  have position : positionSignal p ≠ 15 := fun eq => by
    have := congrArg Fin.val eq
    simp [positionSignal] at this
    omega
  have speed : speedSignal p ≠ 15 := fun eq => by
    have := congrArg Fin.val eq
    simp [speedSignal] at this
    omega
  have apart : positionSignal p ≠ speedSignal p := fun eq => by
    have := congrArg Fin.val eq
    simp [positionSignal, speedSignal] at this
  have noPosition : positionSignal p ≠ 14 := fun eq => by
    have := congrArg Fin.val eq
    simp [positionSignal] at this
    omega
  have noSpeed : speedSignal p ≠ 14 := fun eq => by
    have := congrArg Fin.val eq
    simp [speedSignal] at this
    omega
  unfold signalStage
  dsimp only
  generalize first : updateSignal (positionSignal p) (if (s.port p).kind = .encoded then clampAbs 32767 (s.port p).position else 0) s
    = t
  generalize second : updateSignal (speedSignal p) (if (s.port p).kind = .encoded then (s.port p).speed else 0) t = u
  have written : (u.signal (positionSignal p)).value
        = (if (s.port p).kind = .encoded then clampAbs 32767 (s.port p).position else 0)
      ∧ (u.signal (speedSignal p)).value = (if (s.port p).kind = .encoded then (s.port p).speed else 0) ∧ Updated s u := by
    refine ⟨?_, ?_, ?_⟩
    · rw [← second, updateSignal_signal_other apart position, ← first, updateSignal_signal_same position]
    · rw [← second, updateSignal_signal_same speed]
    · rw [← second, ← first]
      exact (updateSignal_updated _ _ s).trans (updateSignal_updated _ _ _)
  split
  · exact written
  · refine ⟨?_, ?_, written.2.2.trans (writeMotorBits_updated p u)⟩
    · rw [writeMotorBits, updateSignal_signal_other noPosition position]
      exact written.1
    · rw [writeMotorBits, updateSignal_signal_other noSpeed speed]
      exact written.2.1

/-- Settles O19: every stage after the first keeps what the port has measured. -/
theorem regulationPeriodMeasuresAndReports : Obligations.RegulationPeriodMeasuresAndReports := by
  intro p current i j s awake position speed x measured driven
  have run := exec_regulationPeriod awake p current
  have measuring (encoded : x.kind = .encoded) : measureStage p s = s.setPort p x.measure := if_pos encoded
  have still (other : x.kind ≠ .encoded) : measureStage p s = s := if_neg other
  refine ⟨fun off => run.trans (congrArg ends (if_pos off)), still, fun encoded => ?_, fun on => ?_⟩
  · rw [measuring encoded]
    refine congrArg (s.setPort p) ?_
    have history : x.measure.history = Vector.ofFn fun k : Fin 8 =>
        if h : k.val + 1 < 8 then x.history[k.val + 1] else x.position := by
      ext k hk
      interval_cases k <;> simp [Port.measure]
    exact congrArg (fun h => { x with speed := measured, history := h }) history
  · have i_eq : i = positionSignal p := Fin.ext position
    have j_eq : j = speedSignal p := Fin.ext speed
    have stages : StageKept p (measureStage p s) (stallStage p (arrivalStage p driven)) :=
      (((currentStage_kept p current _).trans (driveStage_kept p _)).trans (arrivalStage_kept p _)).trans
        (stallStage_kept p _)
    have reach : OnlyHalt s (measureStage p s) :=
      ite_keeps (I := OnlyHalt s) (fun _ => (OnlyUpdate.setPort p _ s).halt) fun _ => .refl s
    obtain ⟨only, kind, place, pace⟩ := stages
    have all := reach.trans only
    obtain ⟨positions, speeds, update⟩ := signalStage_signals p (stallStage p (arrivalStage p driven))
    have kept := update.kept
    have shared := all.sensing.shared
    have measure := update.measure p
    rw [← i_eq] at positions
    rw [← j_eq] at speeds
    refine ⟨_, run.trans (congrArg ends (if_neg on)), rfl, kept.sensors.trans all.sensors_eq,
      kept.battery.trans shared.battery, kept.hot.trans shared.hot, fun encoded => ?_, fun plain => ?_⟩
    · rw [measuring encoded, State.port_setPort] at kind place pace
      have is : ((stallStage p (arrivalStage p driven)).port p).kind = .encoded := kind.trans encoded
      rw [if_pos is] at positions speeds
      refine ⟨?_, ?_, ?_⟩
      · rw [positions, place]
        rfl
      · rw [speeds, pace]
        rfl
      · rw [measure.2.1, place]
        rfl
    · have other : x.kind ≠ .encoded := by simp [plain]
      rw [still other] at kind
      have is : ¬((stallStage p (arrivalStage p driven)).port p).kind = .encoded := by
        rw [kind]
        exact other
      rw [if_neg is] at positions speeds
      exact ⟨positions, speeds⟩

end Sys2Proof.Machine
end

section

/-! PROOF. The profile generator: ramps, patterns within their presets, and the rows of each waveform (O20 to O23). -/

namespace Sys2Proof.Machine

/-! ### Ramps (R30 to R32) -/

theorem stepToward_up {step target r : Int} (forward : 0 < step) (below : r ≤ target) :
    stepToward step target r = min (r + step) target := by
  unfold stepToward
  split
  · rfl
  · omega

theorem stepToward_down {step target r : Int} (forward : 0 < step) (above : target ≤ r) :
    stepToward step target r = max (r - step) target := by
  unfold stepToward
  split
  · omega
  · omega

/-- R31: the reference after `k` steps toward a target above it. -/
theorem repeat_stepToward_up {step target r : Int} (forward : 0 < step) (below : r ≤ target) (k : Nat) :
    Nat.repeat (stepToward step target) k r = min (r + k * step) target := by
  induction k with
  | zero => simp [Nat.repeat, below]
  | succ k ih =>
    rw [Nat.repeat, ih, stepToward_up forward (by omega)]
    push_cast
    rw [Int.add_mul]
    omega

/-- R31: the reference after `k` steps toward a target below it. -/
theorem repeat_stepToward_down {step target r : Int} (forward : 0 < step) (above : target ≤ r) (k : Nat) :
    Nat.repeat (stepToward step target) k r = max (r - k * step) target := by
  induction k with
  | zero => simp [Nat.repeat, above]
  | succ k ih =>
    rw [Nat.repeat, ih, stepToward_down forward (by omega)]
    push_cast
    rw [Int.add_mul]
    omega

/-- R32: the number of steps that a distance needs. -/
theorem le_steps_iff {d m : Nat} (pos : 0 < m) (k : Nat) : d ≤ k * m ↔ (d + m - 1) / m ≤ k := by
  rw [Nat.div_le_iff_le_mul_add_pred pos, Nat.mul_comm]
  omega

/-- R32: a ramp reaches its target after as many steps as the distance needs, and not before. -/
theorem repeat_stepToward_iff {step target r : Int} (forward : 0 < step) (k : Nat) :
    Nat.repeat (stepToward step target) k r = target ↔ ((target - r).natAbs + step.toNat - 1) / step.toNat ≤ k := by
  rw [← le_steps_iff (by omega)]
  have size : ((k * step.toNat : Nat) : Int) = k * step := by
    push_cast
    rw [Int.toNat_of_nonneg forward.le]
  rcases le_total r target with below | above
  · rw [repeat_stepToward_up forward below]
    omega
  · rw [repeat_stepToward_down forward above]
    omega

theorem positionStep_pos (code : Nat) : 0 < positionStep code := by
  unfold positionStep
  split <;> decide

theorem exec_profileStep {s : State} (awake : s.resetHeld = []) (p : Fin 4) :
    exec (.profileStep p) s = ends (if (s.port p).stepTimer.isSome then
      noteEvents p (s.port p) (s.setPort p (s.port p).profileStep) else s) := by
  dsimp only [exec]
  exact State.whenAwake_awake awake _

theorem Port.profileStep_ramped {x : Port} (ramped : x.mode = .speed ∨ x.mode = .position ∨ x.mode = .safeRamp) :
    x.profileStep = { x with
      reference := stepToward (if x.mode = .speed then speedStep x.stepCode else positionStep x.stepCode) x.target x.reference } := by
  rcases ramped with mode | mode | mode
  all_goals simp [Port.profileStep, mode]

/-- Settles O20, by the place of the reference after each number of steps. -/
theorem profileStepMovesReference : Obligations.ProfileStepMovesReference := by
  intro p s awake running ramped x step n
  have forward : 0 < step := by
    have pos := positionStep_pos x.stepCode
    show 0 < if x.mode = .speed then speedStep x.stepCode else positionStep x.stepCode
    unfold speedStep
    split <;> omega
  have stepped : x.profileStep = { x with reference := stepToward step x.target x.reference } :=
    Port.profileStep_ramped ramped
  refine ⟨s.setPort p { x with reference := stepToward step x.target x.reference }, ?_, ?_, fun below => ?_, fun above => ?_,
    (repeat_stepToward_iff forward n).mpr (Nat.le_refl n), fun k less => ?_⟩
  · rw [exec_profileStep awake, if_pos running, show (s.port p).profileStep = _ from stepped]
    refine congrArg ends (noteEvents_same ?_ ?_ ?_)
    all_goals rw [State.port_setPort]
  · rw [State.port_setPort]
  · rw [State.port_setPort]
    exact stepToward_up forward below
  · rw [State.port_setPort]
    exact stepToward_down forward above
  · rw [Ne, repeat_stepToward_iff forward k]
    exact Nat.not_le.mpr less

/-! ### The shape table (R43) and the points of a Sine (R39) -/

theorem shape_natAbs_le (k : Nat) : (shape k).natAbs ≤ 1024 := by
  have table : ∀ m : Fin 32, (shape m.val).natAbs ≤ 1024 := by decide
  have periodic : shape k = shape (k % 32) := by simp [shape]
  rw [periodic]
  exact table ⟨k % 32, Nat.mod_lt k (by decide)⟩

theorem Port.sinePoint_within {x : Port} (ordered : x.lower < x.upper) (k : Nat) :
    x.lower ≤ x.sinePoint k ∧ x.sinePoint k ≤ x.upper := by
  have half : 0 ≤ (x.upper - x.lower) / 2 := Int.ediv_nonneg (by omega) (by decide)
  have bound : (shape k * ((x.upper - x.lower) / 2)).natAbs ≤ ((x.upper - x.lower) / 2).natAbs * 1024 := by
    rw [Int.natAbs_mul, Nat.mul_comm]
    exact Nat.mul_le_mul_left _ (shape_natAbs_le k)
  have point := natAbs_roundDiv_le (by decide) bound
  unfold Port.sinePoint
  dsimp only
  omega

/-! ### Patterns stay within the presets (R35 to R39) -/

/-- R35: the reference lies within the presets. -/
def Port.Within (x : Port) : Prop := x.lower ≤ x.reference ∧ x.reference ≤ x.upper

theorem Port.Within.of_eq {x y : Port} (h : x.Within) (lower : y.lower = x.lower) (upper : y.upper = x.upper)
    (reference : y.reference = x.reference) : y.Within := by
  unfold Port.Within
  rw [lower, upper, reference]
  exact h

theorem Port.cycleComplete_within {x : Port} (h : x.Within) : x.cycleComplete.Within := by
  unfold Port.cycleComplete
  dsimp only
  split <;> exact h

theorem Port.completionTest_within {x : Port} (h : x.Within) : x.completionTest.Within := by
  unfold Port.completionTest
  split
  · exact Port.cycleComplete_within h
  · exact h

theorem Port.triangleStep_within {x : Port} (ordered : x.lower < x.upper) (h : x.Within) : x.triangleStep.Within := by
  have pos := positionStep_pos x.stepCode
  obtain ⟨low, high⟩ := h
  have moved (r : Int) (leg : Nat) (lower : x.lower ≤ r) (upper : r ≤ x.upper) :
      Port.Within { x with reference := r, pointIndex := leg } := ⟨lower, upper⟩
  unfold Port.triangleStep
  dsimp only
  split
  · split
    · exact moved _ _ (by omega) (by omega)
    · split
      · exact Port.completionTest_within (moved _ 2 (by omega) (by omega))
      · exact moved _ 1 (by omega) (by omega)
  · split
    · split
      · exact Port.completionTest_within (moved _ 2 (by omega) (by omega))
      · exact moved _ _ (by omega) (by omega)
    · exact Port.completionTest_within (moved _ 2 low high)
  · split
    · exact Port.completionTest_within (moved _ _ (by omega) (by omega))
    · exact Port.completionTest_within ⟨low, high⟩

theorem Port.sawtoothStep_within {x : Port} (ordered : x.lower < x.upper) (h : x.Within) : x.sawtoothStep.Within := by
  have pos := positionStep_pos x.stepCode
  obtain ⟨low, high⟩ := h
  have moved (r : Int) (leg : Nat) (lower : x.lower ≤ r) (upper : r ≤ x.upper) :
      Port.Within { x with reference := r, pointIndex := leg } := ⟨lower, upper⟩
  unfold Port.sawtoothStep
  dsimp only
  split
  · split
    · exact moved _ _ (by omega) (by omega)
    · exact Port.completionTest_within (moved _ 1 (by omega) (by omega))
  · split
    · exact Port.completionTest_within (moved _ _ (by omega) (by omega))
    · exact Port.completionTest_within ⟨low, high⟩

theorem Port.sineStep_within {x : Port} (ordered : x.lower < x.upper) : x.sineStep.Within := by
  have point : Port.Within { x with
      pointIndex := (x.pointIndex + 1) % 32, reference := x.sinePoint ((x.pointIndex + 1) % 32) } :=
    Port.sinePoint_within ordered _
  unfold Port.sineStep
  dsimp only
  split
  · exact Port.cycleComplete_within point
  · exact point

theorem Port.patternStep_within {x : Port} (ordered : x.lower < x.upper) (h : x.Within) : x.patternStep.Within := by
  unfold Port.patternStep
  split
  · exact (Port.triangleStep_within ordered h).of_eq rfl rfl rfl
  · exact (Port.sawtoothStep_within ordered h).of_eq rfl rfl rfl
  · exact (Port.sineStep_within ordered).of_eq rfl rfl rfl
  · exact h

theorem Port.startPattern_within {x : Port} (ordered : x.lower < x.upper) (w : Waveform) (phase cycles : Nat) :
    (x.startPattern w phase cycles).Within := by
  have lower : (x.enter .pattern).lower = x.lower := Port.enter_lower _ x
  have upper : (x.enter .pattern).upper = x.upper := Port.enter_upper _ x
  have ordered' : (x.enter .pattern).lower < (x.enter .pattern).upper := by rw [lower, upper]; exact ordered
  unfold Port.startPattern
  cases w with
  | sine => exact Port.sinePoint_within (x := { x.enter .pattern with
      waveform := some .sine, cyclesWanted := cycles, cycleCount := 0, patternDone := false }) ordered' _
  | triangle => exact clampI_bounds ordered'.le (x.enter .pattern).reference
  | sawtooth => exact clampI_bounds ordered'.le (x.enter .pattern).reference

/-- R39, R40, R44: a Sine step of a pattern that is not done. -/
theorem Port.profileStep_sine {x : Port} (pattern : x.mode = .pattern) (sine : x.waveform = some .sine)
    (goes : x.patternDone = false) :
    let k := (x.pointIndex + 1) % 32
    let moved := { x with pointIndex := k, reference := x.sinePoint k, target := x.sinePoint (k + 1) }
    x.profileStep = if k = x.startIndex then
        if x.cyclesWanted = 0 ∨ x.cycleCount + 1 < x.cyclesWanted then
          { moved with cycleCount := if x.cyclesWanted = 0 then (x.cycleCount + 1) % 256 else x.cycleCount + 1 }
        else { moved with
          cycleCount := x.cycleCount + 1, stepTimer := none, target := x.sinePoint k, patternDone := true }
      else moved := by
  intro k moved
  have step : x.profileStep = x.sineStep.retarget := by simp [Port.profileStep, pattern, Port.patternStep, sine]
  rw [step]
  unfold Port.sineStep
  dsimp only
  by_cases home : (x.pointIndex + 1) % 32 = x.startIndex
  · rw [if_pos home, if_pos home]
    unfold Port.cycleComplete
    dsimp only
    by_cases more : x.cyclesWanted = 0 ∨ x.cycleCount + 1 < x.cyclesWanted
    · rw [if_pos more, if_pos more]
      simp [Port.retarget, Port.patternTarget, goes, sine, moved, k, Port.sinePoint]
    · rw [if_neg more, if_neg more]
      simp [Port.retarget, Port.patternTarget, moved, k]
  · rw [if_neg home, if_neg home]
    simp [Port.retarget, Port.patternTarget, goes, sine, moved, k, Port.sinePoint]

/-- Settles O21: each step, start and setting keeps the reference within, and a Sine step is by its index. -/
theorem patternReferenceWithinPresets : Obligations.PatternReferenceWithinPresets := by
  intro x w phase cycles l u ordered _ newOrder half point k sine moved n goesOn within
  refine ⟨Port.startPattern_within ordered w phase cycles, fun pattern => ?_, fun pattern inside => ?_,
    fun is away => ?_, fun is home more => ?_, fun is home last => ?_⟩
  · rw [Port.withPresets_pattern pattern]
    exact clampI_bounds newOrder.le x.reference
  · have step : x.profileStep = x.patternStep := by simp [Port.profileStep, pattern]
    rw [step]
    exact Port.patternStep_within ordered inside
  · exact (Port.profileStep_sine is.1 is.2.1 is.2.2).trans (if_neg away)
  · exact (Port.profileStep_sine is.1 is.2.1 is.2.2).trans ((if_pos home).trans (if_pos more))
  · exact (Port.profileStep_sine is.1 is.2.1 is.2.2).trans ((if_pos home).trans (if_neg last))

end Sys2Proof.Machine
end

section

/-! PROOF. The rows of a Triangle and of a Sawtooth, and a Sine of one cycle (O22, O23). -/

namespace Sys2Proof.Machine

/-! ### Triangle and Sawtooth (Tables 2-5, 2-6) -/

/-- R44: the point that a Triangle or a Sawtooth heads for. -/
theorem Port.retarget_leg {y : Port} (leg : y.waveform = some .triangle ∨ y.waveform = some .sawtooth) :
    y.retarget = { y with target := if y.patternDone then y.reference
      else if y.waveform = some .triangle ∧ y.pointIndex = 1 then y.lower else y.upper } := by
  unfold Port.retarget Port.patternTarget
  rcases leg with wave | wave
  all_goals simp [wave]

/-- R40: a cycle of a Triangle or a Sawtooth goes on from leg 0, or the pattern is done. -/
theorem Port.cycleComplete_leg {y : Port} (leg : y.waveform = some .triangle ∨ y.waveform = some .sawtooth) :
    y.cycleComplete = if y.cyclesWanted = 0 ∨ y.cycleCount + 1 < y.cyclesWanted then
        { y with
          cycleCount := if y.cyclesWanted = 0 then (y.cycleCount + 1) % 256 else y.cycleCount + 1, pointIndex := 0 }
      else { y with cycleCount := y.cycleCount + 1, stepTimer := none, target := y.reference, patternDone := true } := by
  have notSine : y.waveform ≠ some .sine := by
    rcases leg with wave | wave
    all_goals simp [wave]
  unfold Port.cycleComplete
  dsimp only
  rw [if_neg notSine]

theorem Port.completionTest_before {y : Port} {start : Int} (point : y.startPoint = some start) (before : y.reference < start) :
    y.completionTest = y := by
  unfold Port.completionTest
  rw [point, Option.getD_some, if_neg (by omega)]

theorem Port.completionTest_reached {y : Port} {start : Int} (point : y.startPoint = some start)
    (reached : start ≤ y.reference) : y.completionTest = y.cycleComplete := by
  unfold Port.completionTest
  rw [point, Option.getD_some, if_pos reached]

/-- Table 2-5, leg 0. -/
theorem Port.triangleStep_up {x : Port} (up : x.pointIndex = 0) : x.triangleStep =
    if x.reference < x.upper then { x with reference := min (x.reference + positionStep x.stepCode) x.upper }
    else if max (x.upper - positionStep x.stepCode) x.lower = x.lower then
      Port.completionTest { x with reference := max (x.upper - positionStep x.stepCode) x.lower, pointIndex := 2 }
    else { x with reference := max (x.upper - positionStep x.stepCode) x.lower, pointIndex := 1 } := by
  simp only [Port.triangleStep, up]

/-- Table 2-5, leg 1. -/
theorem Port.triangleStep_down {x : Port} (down : x.pointIndex = 1) : x.triangleStep =
    if x.lower < x.reference then
      if max (x.reference - positionStep x.stepCode) x.lower = x.lower then
        Port.completionTest { x with reference := max (x.reference - positionStep x.stepCode) x.lower, pointIndex := 2 }
      else { x with reference := max (x.reference - positionStep x.stepCode) x.lower }
    else Port.completionTest { x with pointIndex := 2 } := by
  simp only [Port.triangleStep, down]

/-- Table 2-5, leg 2. -/
theorem Port.triangleStep_back {x : Port} {start : Int} (back : x.pointIndex = 2) (point : x.startPoint = some start) :
    x.triangleStep = Port.completionTest (if x.reference < start then
      { x with reference := min (x.reference + positionStep x.stepCode) x.upper } else x) := by
  simp only [Port.triangleStep, back, point, Option.getD_some]
  split <;> rfl

/-- Table 2-6, leg 0. -/
theorem Port.sawtoothStep_up {x : Port} (up : x.pointIndex = 0) : x.sawtoothStep =
    if x.reference < x.upper then { x with reference := min (x.reference + positionStep x.stepCode) x.upper }
    else Port.completionTest { x with reference := x.lower, pointIndex := 1 } := by
  simp only [Port.sawtoothStep, up]

/-- Table 2-6, leg 1. -/
theorem Port.sawtoothStep_back {x : Port} {start : Int} (back : x.pointIndex = 1) (point : x.startPoint = some start) :
    x.sawtoothStep = Port.completionTest (if x.reference < start then
      { x with reference := min (x.reference + positionStep x.stepCode) x.upper } else x) := by
  simp only [Port.sawtoothStep, back, point, Option.getD_some]
  split <;> rfl

/-- Settles O22: a row moves the reference and the leg, or leads to the completion test. -/
theorem triangleAndSawtoothSteps : Obligations.TriangleAndSawtoothSteps := by
  intro x start pattern point step y heads n counted tested
  have heading {z : Port} (leg : z.waveform = some .triangle ∨ z.waveform = some .sawtooth) : z.retarget = heads z :=
    Port.retarget_leg leg
  have test {z : Port} {leg : Nat} {r : Int} (wave : x.waveform = some .triangle ∨ x.waveform = some .sawtooth)
      (stepped : y = z.completionTest.retarget) (z_eq : z = { x with reference := r, pointIndex := leg }) : tested leg r := by
    subst z_eq
    refine ⟨fun before => ?_, fun reached => ?_⟩
    · rw [stepped, Port.completionTest_before (y := { x with reference := r, pointIndex := leg }) point before]
      exact heading wave
    · rw [stepped, Port.completionTest_reached (y := { x with reference := r, pointIndex := leg }) point reached,
        Port.cycleComplete_leg (y := { x with reference := r, pointIndex := leg }) wave]
      show (if x.cyclesWanted = 0 ∨ x.cycleCount + 1 < x.cyclesWanted then _ else _ : Port).retarget
        = heads (if x.cyclesWanted = 0 ∨ x.cycleCount + 1 < x.cyclesWanted then _ else _)
      split
      · exact heading wave
      · exact heading wave
  have turned (r : Int) : max r x.lower = if x.lower < r then r else x.lower := by
    split <;> omega
  refine ⟨fun wave => ?_, fun wave => ?_⟩
  · have leg : x.waveform = some .triangle ∨ x.waveform = some .sawtooth := .inl wave
    have stepped : y = x.triangleStep.retarget := by simp [y, Port.profileStep, pattern, Port.patternStep, wave]
    refine ⟨fun up below => ?_, fun up top far => ?_, fun up top near => ?_, fun down far => ?_, fun down above near => ?_,
      fun down bottom => ?_, fun back before => ?_, fun back reached => ?_⟩
    · rw [stepped, Port.triangleStep_up up, if_pos below]
      exact heading leg
    · rw [stepped, Port.triangleStep_up up, if_neg (Int.not_lt.mpr top), turned, if_pos far, if_neg (Int.ne_of_gt far)]
      exact heading leg
    · rw [Port.triangleStep_up up, if_neg (Int.not_lt.mpr top), turned, if_neg (Int.not_lt.mpr near), if_pos rfl] at stepped
      exact test leg stepped rfl
    · have above : x.lower < x.reference := far.trans (Int.sub_lt_self _ (positionStep_pos x.stepCode))
      rw [stepped, Port.triangleStep_down down, if_pos above, turned, if_pos far, if_neg (Int.ne_of_gt far)]
      exact heading leg
    · rw [Port.triangleStep_down down, if_pos above, turned, if_neg (Int.not_lt.mpr near), if_pos rfl] at stepped
      exact test leg stepped rfl
    · rw [Port.triangleStep_down down, if_neg (Int.not_lt.mpr bottom)] at stepped
      exact test leg stepped rfl
    · rw [Port.triangleStep_back back point, if_pos before] at stepped
      exact test leg stepped (by rw [← back])
    · rw [Port.triangleStep_back back point, if_neg (Int.not_lt.mpr reached)] at stepped
      exact test leg stepped (by rw [← back])
  · have leg : x.waveform = some .triangle ∨ x.waveform = some .sawtooth := .inr wave
    have stepped : y = x.sawtoothStep.retarget := by simp [y, Port.profileStep, pattern, Port.patternStep, wave]
    refine ⟨fun up below => ?_, fun up top => ?_, fun back before => ?_, fun back reached => ?_⟩
    · rw [stepped, Port.sawtoothStep_up up, if_pos below]
      exact heading leg
    · rw [Port.sawtoothStep_up up, if_neg (Int.not_lt.mpr top)] at stepped
      exact test leg stepped rfl
    · rw [Port.sawtoothStep_back back point, if_pos before] at stepped
      exact test leg stepped (by rw [← back])
    · rw [Port.sawtoothStep_back back point, if_neg (Int.not_lt.mpr reached)] at stepped
      exact test leg stepped (by rw [← back])

/-! ### A Sine of one cycle (R39, R40) -/

/-- The next state of a row, or the state itself where the row has none. -/
def nextState (c : Instr) (s : State) : State :=
  match exec c s with
  | .next t => t
  | _ => s

/-- A step of a Sine of one cycle, `k` steps after its start. -/
structure SineRuns (p : Fin 4) (x : Port) (k : Nat) (s : State) : Prop where
  awake : s.resetHeld = []
  noFrame : ∀ j, s.station.restartPending ≠ some (.frame j)
  port : ∃ reference target, s.port p = { x with
    pointIndex := (x.startIndex + k) % 32, reference := reference, target := target }

/-- A Sine of one cycle at its start. -/
structure SineStart (x : Port) : Prop where
  mode : x.mode = .pattern
  waveform : x.waveform = some .sine
  goes : x.patternDone = false
  small : x.startIndex < 32
  counted : x.cycleCount = 0
  wanted : x.cyclesWanted = 1
  timer : x.stepTimer.isSome = true
  source : x.source = .pattern

/-- A profile step ends as it leaves the port, told of or not. -/
theorem nextState_profileStep {p : Fin 4} {s : State} (awake : s.resetHeld = [])
    (noFrame : ∀ j, s.station.restartPending ≠ some (.frame j)) (timer : (s.port p).stepTimer.isSome = true)
    (source : (s.port p).profileStep.source = .pattern) :
    let t := nextState (.profileStep p) s
    t.resetHeld = [] ∧ t.station = s.station ∧ t.port p = (s.port p).profileStep := by
  have update := noteEvents_updated p (s.port p) (s.setPort p (s.port p).profileStep)
  have kept := update.kept
  have still : ∀ j, (noteEvents p (s.port p) (s.setPort p (s.port p).profileStep)).station.restartPending ≠ some (.frame j) := by
    rw [kept.station]
    exact noFrame
  have next : nextState (.profileStep p) s = noteEvents p (s.port p) (s.setPort p (s.port p).profileStep) := by
    unfold nextState
    rw [exec_profileStep awake, if_pos timer, ends_next still]
  intro t
  refine ⟨?_, ?_, ?_⟩
  · exact (congrArg State.resetHeld next).trans (kept.resetHeld.trans awake)
  · exact (congrArg State.station next).trans kept.station
  · refine (congrArg (fun u => State.port u p) next).trans ?_
    have stands : (s.setPort p (s.port p).profileStep).port p = (s.port p).profileStep := State.port_setPort s p _
    refine (update.port_free ?_).trans stands
    rw [stands, source]
    simp

/-- R39: a step before the cycle is complete. -/
theorem SineRuns.step {p : Fin 4} {x : Port} {k : Nat} {s : State} (start : SineStart x) (early : k + 1 < 32)
    (h : SineRuns p x k s) : SineRuns p x (k + 1) (nextState (.profileStep p) s) := by
  obtain ⟨awake, noFrame, r, target, port⟩ := h
  have small := start.small
  have stepped := Port.profileStep_sine (x := s.port p) (by rw [port]; exact start.mode) (by rw [port]; exact start.waveform)
    (by rw [port]; exact start.goes)
  dsimp only at stepped
  rw [if_neg (by rw [port]; dsimp only; omega)] at stepped
  have source : (s.port p).profileStep.source = .pattern := by rw [stepped, port]; exact start.source
  obtain ⟨awake', station, port'⟩ := nextState_profileStep awake noFrame (by rw [port]; exact start.timer) source
  refine ⟨awake', station ▸ noFrame, (s.port p).sinePoint (((s.port p).pointIndex + 1) % 32),
    (s.port p).sinePoint (((s.port p).pointIndex + 1) % 32 + 1), port'.trans ?_⟩
  rw [stepped, port]
  have index : ((x.startIndex + k) % 32 + 1) % 32 = (x.startIndex + (k + 1)) % 32 := by omega
  simp only [index]

/-- R40: the step that completes the cycle. -/
theorem SineRuns.last {p : Fin 4} {x : Port} {s : State} (start : SineStart x) (h : SineRuns p x 31 s) :
    let t := nextState (.profileStep p) s
    (t.port p).patternDone = true ∧ (t.port p).stepTimer = none ∧ (t.port p).reference = x.sinePoint x.startIndex := by
  obtain ⟨awake, noFrame, r, target, port⟩ := h
  have small := start.small
  have home : ((x.startIndex + 31) % 32 + 1) % 32 = x.startIndex := by omega
  have stepped := Port.profileStep_sine (x := s.port p) (by rw [port]; exact start.mode) (by rw [port]; exact start.waveform)
    (by rw [port]; exact start.goes)
  dsimp only at stepped
  rw [if_pos (by rw [port]; exact home),
    if_neg (by rw [port]; dsimp only; rw [start.counted, start.wanted]; decide)] at stepped
  have source : (s.port p).profileStep.source = .pattern := by rw [stepped, port]; exact start.source
  obtain ⟨-, -, port'⟩ := nextState_profileStep awake noFrame (by rw [port]; exact start.timer) source
  intro t
  rw [show t.port p = _ from port', stepped, port]
  refine ⟨rfl, rfl, ?_⟩
  dsimp only
  rw [home]
  exact Port.sinePoint_presets rfl rfl _

theorem SineRuns.repeat {p : Fin 4} {s : State} (start : SineStart (s.port p)) (awake : s.resetHeld = [])
    (noFrame : ∀ j, s.station.restartPending ≠ some (.frame j)) (home : (s.port p).pointIndex = (s.port p).startIndex)
    (k : Nat) (early : k < 32) : SineRuns p (s.port p) k (Nat.repeat (nextState (.profileStep p)) k s) := by
  induction k with
  | zero =>
    refine ⟨awake, noFrame, (s.port p).reference, (s.port p).target, ?_⟩
    have index : ((s.port p).startIndex + 0) % 32 = (s.port p).pointIndex := by
      have small := start.small
      omega
    rw [index]
    rfl
  | succ k ih => exact (ih (by omega)).step start early

/-- Settles O23: 31 steps lead around the table, and the next one home. -/
theorem sineCycleIsDone : Obligations.SineCycleIsDone := by
  intro p k s awake mode wave goes small home counted wanted timer source noFrame t
  have start : SineStart (s.port p) := ⟨mode, wave, goes, small, counted, wanted, timer, source⟩
  have runs := SineRuns.repeat start awake noFrame home 31 (by decide)
  obtain ⟨done, stopped, reference⟩ := runs.last start
  have table : ∀ k : Fin 32, shape (k.val + 16) = -shape k.val ∧ ((shape k.val).natAbs = 1024 ↔ k = 8 ∨ k = 24) := by
    decide
  exact ⟨done, stopped, reference, (table k).1, shape_natAbs_le k.val, (table k).2⟩

end Sys2Proof.Machine
end

section

/-! PROOF. What a cause leaves of the signals, an activation or a release of a sensor port, the rows of the debounce
table, and the settings of the sensor ports (O24, O25). -/

namespace Sys2Proof.Machine

@[simp] theorem State.setSensor_setSensor (s : State) (p : Fin 4) (x y : Sensor) :
    (s.setSensor p x).setSensor p y = s.setSensor p y := by
  simp [State.setSensor]

theorem sensor_of_sensors {s t : State} (h : t.sensors = s.sensors) (p : Fin 4) : t.sensor p = s.sensor p := by
  unfold State.sensor
  rw [h]

/-! ### The signals after a cause -/

theorem OnlyBusLink.signals {s t : State} (h : OnlyBusLink s t) : t.signals = s.signals := by
  obtain ⟨_, _, rfl⟩ := h
  rfl

theorem testHalted_signal {j : Fin 16} (status : j ≠ 15) (s : State) : (testHalted s).signal j = s.signal j := by
  rcases testHalted_cases s with ⟨-, -, eq⟩ | ⟨-, eq⟩
  · rw [eq]
    exact updateSignal_signal_other status status _ _
  · rw [eq]

theorem halting_signals (c : CauseKind) (at_ : Option CausePort) (s : State) : (s.halting c at_).signals = s.signals := by
  obtain ⟨_, _, eq⟩ := haltPorts_only c at_ (haltBreak c (recordFirst c at_ s))
  rw [State.halting, (emptied_kept _).2.2.2.1, State.haltPorts, eq]
  exact (haltBreak_only c (recordFirst c at_ s)).signals

theorem notify_signals (a b c : Nat) (s : State) : (notify a b c s).signals = s.signals :=
  (tell_told 3 _ s).offered.signals.1

theorem haltEntry_signal {j : Fin 16} (status : j ≠ 15) (c : CauseKind) (at_ : Option CausePort) (s : State) :
    (haltEntry c at_ s).signal j = s.signal j := by
  rw [haltEntry_eq, testHalted_signal status, signal_of_signals (notify_signals _ _ _ _)]
  exact (updateSignal_signal_other status status _ _).trans (signal_of_signals (halting_signals c at_ s) j)

theorem coastPort_signal {j : Fin 16} (status : j ≠ 15) (p : Fin 4) (s : State) :
    (coastPort p s).signal j = s.signal j := testHalted_signal status _

/-- Only signal 15 is written at a halt entry and at a further cause. -/
theorem giveCause_signal {j : Fin 16} (status : j ≠ 15) (c : CauseKind) (at_ : Option CausePort) (s : State) :
    (giveCause c at_ s).signal j = s.signal j := by
  unfold giveCause
  split
  · exact haltEntry_signal status c at_ s
  · refine foldl_keeps (I := fun t => t.signal j = s.signal j) (fun {t} p h => ?_) fourPorts ?_
    · split
      · exact (coastPort_signal status p t).trans h
      · exact h
    · split <;> rfl

/-- R121: a cause leaves the station not Running. -/
theorem giveCause_notRunning (c : CauseKind) (at_ : Option CausePort) (s : State) :
    (giveCause c at_ s).halt.state ≠ .running := by
  unfold giveCause
  split
  · rw [haltEntry_eq, Ne, testHalted_state, (told_halting c at_ s).1.kept.halt, halting_halt]
    simp
  next still =>
    rw [isRunning_iff] at still
    refine foldl_keeps (I := fun t => t.halt.state ≠ .running) (fun {t} p h => ?_) fourPorts ?_
    · split
      · rw [Ne, ← isRunning_iff, coastPort_isRunning, isRunning_iff]
        exact h
      · exact h
    · split
      · exact still
      · exact still

theorem giveCause_shared (c : CauseKind) (at_ : Option CausePort) (s : State) : SharedKept s (giveCause c at_ s) :=
  (giveCause_only c at_ s).sensing.shared

/-! ### Activation (R48) -/

/-- R48, R67, R177: the state told of an activation or a release, before a cause that it gives. -/
def State.toldActive (p : Fin 4) (a : Bool) (s : State) : State :=
  tell 3 (.notice (if a then 2 else 3) (p.val + 1) 0) (writeSensorBits p (s.setSensor p { s.sensor p with active := a }))

theorem toldActive_updated (p : Fin 4) (a : Bool) (s : State) :
    Updated (s.setSensor p { s.sensor p with active := a }) (s.toldActive p a) :=
  (writeSensorBits_updated p _).trans (tell_told 3 _ _).offered.updated

theorem toldActive_sensors (p : Fin 4) (a : Bool) (s : State) :
    (s.toldActive p a).sensors = s.sensors.set p { s.sensor p with active := a } := (toldActive_updated p a s).kept.sensors

theorem setActive_eq (p : Fin 4) (a : Bool) (s : State) :
    setActive p a s = if a = true ∧ (s.sensor p).haltInput = true then
      giveCause .sensorHalt (some (.sensor p)) (s.toldActive p a) else s.toldActive p a := by
  have input : ((s.toldActive p a).sensor p).haltInput = (s.sensor p).haltInput := by
    rw [sensor_of_sensors (toldActive_updated p a s).kept.sensors, State.sensor_setSensor]
  show (if (a && ((s.toldActive p a).sensor p).haltInput) = true then
    giveCause .sensorHalt (some (.sensor p)) (s.toldActive p a) else s.toldActive p a) = _
  rw [input]
  by_cases both : a = true ∧ (s.sensor p).haltInput = true
  · rw [if_pos both, if_pos (by simp only [both, Bool.and_self])]
  · rw [if_neg both, if_neg (by rwa [Bool.and_eq_true])]

theorem setActive_sensors (p : Fin 4) (a : Bool) (s : State) :
    (setActive p a s).sensors = s.sensors.set p { s.sensor p with active := a } := by
  rw [setActive_eq]
  split
  · rw [(giveCause_only _ _ _).sensors_eq, toldActive_sensors]
  · exact toldActive_sensors p a s

/-- R67: the three bits of a sensor port stand in signal 13. -/
theorem writeSensorBits_word (p : Fin 4) (s : State) :
    ((writeSensorBits p s).signal 13).value = sensorWord p (s.sensor p).stateBits (s.signal 13).value := by
  unfold writeSensorBits
  rw [updateSignal_signal_same (by decide)]

theorem Sensor.stateBits_bits (x : Sensor) :
    bitsOf x.stateBits 0 1 = boolNat x.active ∧ bitsOf x.stateBits 1 1 = boolNat x.tuning.isSome
      ∧ bitsOf x.stateBits 0 2 = boolNat x.active + 2 * boolNat x.tuning.isSome := by
  unfold Sensor.stateBits
  cases x.active
  all_goals cases x.tuning.isSome
  all_goals cases x.tuneResult.isError
  all_goals decide

theorem sensorWord_bits (p : Fin 4) (x : Sensor) (w : Int) :
    getBits (3 * p.val) 1 (sensorWord p x.stateBits w) = boolNat x.active
      ∧ getBits (3 * p.val + 1) 1 (sensorWord p x.stateBits w) = boolNat x.tuning.isSome
      ∧ getBits (3 * p.val) 2 (sensorWord p x.stateBits w) = boolNat x.active + 2 * boolNat x.tuning.isSome := by
  have small := p.isLt
  obtain ⟨active, tuning, both⟩ := x.stateBits_bits
  unfold sensorWord
  refine ⟨?_, ?_, ?_⟩
  · rw [getBits_putBits_inside (by omega) (by omega) (by omega), Nat.sub_self]
    exact active
  · rw [getBits_putBits_inside (by omega) (by omega) (by omega), Nat.add_sub_cancel_left]
    exact tuning
  · rw [getBits_putBits_inside (by omega) (by omega) (by omega), Nat.sub_self]
    exact both

theorem toldActive_signal (p : Fin 4) (a : Bool) (s : State) :
    (s.toldActive p a).signal 13 = (writeSensorBits p (s.setSensor p { s.sensor p with active := a })).signal 13 :=
  signal_of_signals (tell_told 3 _ _).offered.signals.1 13

theorem setActive_signal (p : Fin 4) (a : Bool) (s : State) :
    (setActive p a s).signal 13 = (writeSensorBits p (s.setSensor p { s.sensor p with active := a })).signal 13 := by
  rw [setActive_eq]
  split
  · rw [giveCause_signal (by decide), toldActive_signal]
  · exact toldActive_signal p a s

theorem setActive_bit (p : Fin 4) (a : Bool) (s : State) :
    getBits (3 * p.val) 1 ((setActive p a s).signal 13).value = boolNat a := by
  rw [setActive_signal, writeSensorBits_word, (sensorWord_bits p _ _).1, State.sensor_setSensor]

/-! ### Debouncing (R48, Table 3-3) -/

theorem debounce_eq (p : Fin 4) (activation release : Bool) (s : State) : debounce p activation release s =
    if (if (s.sensor p).active then release else activation) = true then
      if (s.sensor p).debounce + 1 < (s.sensor p).length then
        s.setSensor p { s.sensor p with debounce := (s.sensor p).debounce + 1 }
      else setActive p (!(s.sensor p).active) (s.setSensor p { s.sensor p with debounce := 0 })
    else s.setSensor p { s.sensor p with debounce := 0 } := by
  unfold debounce
  dsimp only
  cases (if (s.sensor p).active then release else activation) <;> rfl

/-- Settles O25, by the rows of Table 3-3. -/
theorem debounceRows : Obligations.DebounceRows := by
  intro p activation release s x met t told
  have rows : t = if met = true then
      if x.debounce + 1 < x.length then s.setSensor p { x with debounce := x.debounce + 1 }
      else setActive p (!x.active) (s.setSensor p { x with debounce := 0 })
    else s.setSensor p { x with debounce := 0 } := debounce_eq p activation release s
  refine ⟨fun no => ?_, fun yes early => ?_, fun yes last => ?_⟩
  · rw [rows, no, if_neg (by decide)]
  · rw [rows, yes, if_pos rfl, if_pos early]
  · have eq : t = setActive p (!x.active) (s.setSensor p { x with debounce := 0 }) := by
      rw [rows, yes, if_pos rfl, if_neg (by omega)]
    have told_eq : (s.setSensor p { x with debounce := 0 }).toldActive p (!x.active) = told := by
      have code : (if (!x.active) = true then 2 else 3) = if x.active = true then 3 else 2 := by cases x.active <;> rfl
      unfold State.toldActive
      rw [State.sensor_setSensor, State.setSensor_setSensor, code]
    have acted := setActive_eq p (!x.active) (s.setSensor p { x with debounce := 0 })
    rw [← eq, told_eq, State.sensor_setSensor] at acted
    have split : t = if x.active = false ∧ x.haltInput = true then giveCause .sensorHalt (some (.sensor p)) told else told := by
      simpa using acted
    have kept : told.halt = s.halt := by
      rw [← told_eq]
      exact (toldActive_updated p _ _).kept.halt
    refine ⟨split, ?_, ?_, fun released input => ?_, fun free => ?_⟩
    · rw [eq, setActive_sensors, State.sensor_setSensor]
      simp [State.setSensor]
    · rw [eq]
      exact setActive_bit p _ _
    · rw [split, if_pos ⟨released, input⟩]
      exact giveCause_notRunning _ _ _
    · rw [split, if_neg, kept]
      rintro ⟨inactive, input⟩
      rcases free with active | off
      · exact absurd (inactive.symm.trans active) (by decide)
      · exact absurd (off.symm.trans input) (by decide)

/-! ### The settings of a sensor port (R61, R65, R66) -/

theorem atSensor_val (p : Fin 4) (op : Fin 4 → State → Taken) (s : State) : atSensor (p.val + 1) op s = op p s :=
  dif_pos ⟨by omega, by omega⟩

theorem sensorTaken_accepted {kinds : List SensorKind} {p : Fin 4} {op : Sensor → State → Taken} {s : State}
    (accepts : kinds.contains (s.sensor p).kind = true) : sensorTaken kinds p op s = op (s.sensor p) s := if_pos accepts

theorem sensorTaken_refused {kinds : List SensorKind} {p : Fin 4} {op : Sensor → State → Taken} {s : State}
    (refuses : kinds.contains (s.sensor p).kind = false) : sensorTaken kinds p op s = refuse .wrongKind s :=
  if_neg (by simp only [refuses, Bool.false_eq_true, not_false_eq_true])

/-- The kinds of port that a sensor command is for (Table 3-1), by its code. -/
def sensorKindsOf (code : Nat) : List SensorKind :=
  if code = 33 then [.level, .touch] else if code = 34 then [.level] else if code = 35 ∨ code = 36 then [.touch]
  else measuringKinds

/-- Every sensor command is the check of its kinds, and then an operation of its own. -/
theorem sensorOp_of_parts {c : Instr} {P : Parts} (parts : partsOf c = some P) (sensor : P.block = 2) :
    ∃ op : Fin 4 → Sensor → State → Taken,
      blockOp c = some (P.via, atSensor P.index fun p => sensorTaken (sensorKindsOf P.code) p (op p)) := by
  cases c
  all_goals cases parts
  all_goals cases sensor
  all_goals exact ⟨_, rfl⟩

theorem clampN_zero (hi n : Nat) : clampN 0 hi n = min hi n := by
  unfold clampN
  split
  · omega
  · split <;> omega

theorem readPolarity_unknown {k : Nat} (unknown : 1 < k) : readPolarity k = none := by
  unfold readPolarity
  split <;> first | rfl | omega

theorem readHaltInput_unknown {k : Nat} (unknown : 1 < k) : readHaltInput k = none := by
  unfold readHaltInput
  split <;> first | rfl | omega

/-- Settles O24: each command is the check of its kinds and an operation on the record of its port. -/
theorem sensorSettingsReplaceFields : Obligations.SensorSettingsReplaceFields := by
  intro i P via p a b c d s awake x refusedBy
  refine ⟨fun parts sensor index refused => ?_, fun on => ?_⟩
  · obtain ⟨op, block⟩ := sensorOp_of_parts parts sensor
    rw [exec_of_blockOp block awake, index, atSensor_val, sensorTaken_refused]
    show (sensorKindsOf P.code).contains x.kind = false
    have codes : P.code = 32 ∨ P.code = 33 ∨ P.code = 34 ∨ P.code = 35 ∨ P.code = 36 ∨ P.code = 37 ∨ P.code = 38 := by
      clear refused block op
      cases i
      all_goals cases parts
      all_goals cases sensor
      all_goals simp
    cases kind : x.kind
    all_goals
      rw [kind] at refused
      simp only [refusedBy] at refused
      rcases codes with code | code | code | code | code | code | code
      all_goals simp_all [sensorKindsOf, measuringKinds]
  · intro i becomes bad restarted freeze retry thresholds onInput
    have run {i : Instr} {f : Fin 4 → State → Taken} {t : Taken} (block : blockOp i = some (via, atSensor (p.val + 1) f))
        (taken : f p s = t) : exec i s = ends (answered via t) := by
      rw [exec_of_blockOp block awake, atSensor_val, taken]
    have measures : measuringKinds.contains (s.sensor p).kind = true := by
      have kinds : (s.sensor p).kind ≠ .off := on
      cases kind : (s.sensor p).kind
      all_goals simp_all [measuringKinds]
    have restart (ms : Nat) (t : Timer) : restartTimer ms t = restarted ms t := rfl
    have accepts (kinds : List SensorKind) (mem : x.kind ∈ kinds) : kinds.contains (s.sensor p).kind = true :=
      List.contains_iff_mem.mpr mem
    have polarity (level : x.kind = .level) (k : Nat) : sensorSetPolarity k p s = match readPolarity k with
        | none => refuse .badArgument s
        | some pol => done (if x.active then setActive p false (s.setSensor p { x with polarity := pol, debounce := 0 })
            else s.setSensor p { x with polarity := pol, debounce := 0 }) :=
      sensorTaken_accepted (by rw [show (s.sensor p).kind = .level from level]; rfl)
    have input (k : Nat) : sensorSetHaltInput k p s = match readHaltInput k with
        | none => refuse .badArgument s
        | some on => done (if on && !x.haltInput && x.active then
            giveCause .sensorHalt (some (.sensor p)) (s.setSensor p { x with haltInput := on })
            else s.setSensor p { x with haltInput := on }) :=
      sensorTaken_accepted measures
    have released (active : x.active = true) (pol : Polarity) :
        let t := setActive p false (s.setSensor p { x with polarity := pol, debounce := 0 })
        t.sensors = s.sensors.set p { x with polarity := pol, debounce := 0, active := false }
          ∧ getBits (3 * p.val) 1 (t.signal 13).value = 0 := by
      refine ⟨?_, setActive_bit p false _⟩
      rw [setActive_sensors, State.sensor_setSensor]
      simp [State.setSensor]
    refine ⟨run rfl (sensorTaken_accepted measures), fun level => run rfl ?_, fun touch => run rfl ?_,
      fun level rest => ⟨run rfl ?_, run rfl ?_⟩, fun level active => ⟨⟨_, run rfl ?_, released active .rising⟩,
        ⟨_, run rfl ?_, released active .falling⟩⟩, fun level unknown => run rfl ?_, fun touch => run rfl ?_, run rfl ?_,
      fun quiet => run rfl ?_, fun off active => run rfl ?_, fun unknown => run rfl ?_, run rfl ?_⟩
    · have clamped : thresholdsOf x.kind a b = (((clampN 0 4095 a : Nat) : Int), ((clampN 0 4095 b : Nat) : Int)) := by
        rw [level]
        rfl
      refine (sensorTaken_accepted (accepts [.level, .touch] (by simp [level]))).trans ?_
      show done (s.setSensor p { x with
        threshold := (thresholdsOf x.kind a b).1, hysteresis := (thresholdsOf x.kind a b).2,
        freezeLevel := clampN 1 32767 c, freezeTime := clampN 0 25500 (100 * d),
        freezeTimer := restartTimer (clampN 0 25500 (100 * d)) x.freezeTimer, debounce := 0 }) = _
      rw [clamped, clampN_zero 25500, restart]
    · have clamped : thresholdsOf x.kind a b = (((clampN 1 32767 a : Nat) : Int), ((clampN 0 32767 b : Nat) : Int)) := by
        rw [touch]
        rfl
      refine (sensorTaken_accepted (accepts [.level, .touch] (by simp [touch]))).trans ?_
      show done (s.setSensor p { x with
        threshold := (thresholdsOf x.kind a b).1, hysteresis := (thresholdsOf x.kind a b).2,
        freezeLevel := clampN 1 32767 c, freezeTime := clampN 0 25500 (100 * d),
        freezeTimer := restartTimer (clampN 0 25500 (100 * d)) x.freezeTimer, debounce := 0 }) = _
      rw [clamped, clampN_zero 25500, restart]
    · exact (polarity level 0).trans (congrArg done (if_neg (by simp [rest])))
    · exact (polarity level 1).trans (congrArg done (if_neg (by simp [rest])))
    · exact (polarity level 0).trans (congrArg done (if_pos active))
    · exact (polarity level 1).trans (congrArg done (if_pos active))
    · rw [polarity level, readPolarity_unknown unknown]
    · refine (sensorTaken_accepted (accepts [.touch] (by simp [touch]))).trans ?_
      show done (s.setSensor p { x with
        retryPeriod := clampN 0 60000 (100 * a), retryTimer := restartTimer (clampN 0 60000 (100 * a)) x.retryTimer }) = _
      rw [clampN_zero, restart]
    · exact (input 0).trans (congrArg done (if_neg (by simp)))
    · refine (input 1).trans (congrArg done (if_neg ?_))
      rcases quiet with already | inactive
      · simp [already]
      · simp [inactive]
    · exact (input 1).trans (congrArg done (if_pos (by simp [off, active])))
    · rw [input, readHaltInput_unknown unknown]
    · refine (sensorTaken_accepted measures).trans ?_
      have state : (x.stateCode : Int)
          = if x.tuning.isSome then 3 else if x.active then 1 else if x.frozen then 2 else 0 := by
        simp only [Sensor.stateCode, Nat.cast_ite, Nat.cast_ofNat, Nat.cast_one, Nat.cast_zero]
      rw [← state] <;> rfl

end Sys2Proof.Machine
end

section

/-! PROOF. The samples of the sensor ports: what the filter does, and a sample of each kind of port (O26, O27). -/

namespace Sys2Proof.Machine

/-! ### The rounding division of a filter step (R50) -/

theorem roundDiv_one (a : Int) : roundDiv a 1 = a := by
  have near := roundDiv_nearest a (b := 1) (by decide)
  omega

theorem roundDiv_nonpos {a : Int} (h : a ≤ 0) {b : Nat} (hb : 0 < b) : a ≤ roundDiv a b ∧ roundDiv a b ≤ 0 := by
  have mirrored := roundDiv_neg a hb
  have low := roundDiv_nonneg (a := -a) (by omega) b
  have high := roundDiv_le_self (a := -a) (by omega) hb
  omega

theorem roundDiv_eq_zero_iff (a : Int) {b : Nat} (hb : 0 < b) : roundDiv a b = 0 ↔ 2 * a.natAbs < b := by
  refine ⟨fun zero => ?_, fun small => ?_⟩
  · have near := roundDiv_nearest a hb
    have tie := roundDiv_tie_away a hb
    rw [zero, zero_mul] at near tie
    omega
  · have near := roundDiv_nearest a hb
    have size : (roundDiv a b * b).natAbs = (roundDiv a b).natAbs * b := by rw [Int.natAbs_mul, Int.natAbs_natCast]
    have below : (roundDiv a b).natAbs * b < 1 * b := by omega
    have := Nat.lt_of_mul_lt_mul_right below
    omega

/-- R50, R53: the filter moves toward the raw value and never past it. -/
theorem filterStep_between (shift : Nat) (old new : Int) :
    (old ≤ new → old ≤ filterStep shift old new ∧ filterStep shift old new ≤ new)
      ∧ (new ≤ old → new ≤ filterStep shift old new ∧ filterStep shift old new ≤ old) := by
  have divisor : 0 < 2 ^ shift := Nat.two_pow_pos shift
  unfold filterStep
  refine ⟨fun up => ?_, fun down => ?_⟩
  · have low := roundDiv_nonneg (a := new - old) (by omega) (2 ^ shift)
    have high := roundDiv_le_self (a := new - old) (by omega) divisor
    omega
  · have ⟨low, high⟩ := roundDiv_nonpos (a := new - old) (by omega) divisor
    omega

theorem filterStep_still_iff (shift : Nat) (old new : Int) :
    filterStep shift old new = old ↔ 2 * (new - old).natAbs < 2 ^ shift := by
  rw [← roundDiv_eq_zero_iff _ (Nat.two_pow_pos shift), filterStep]
  omega

theorem filterStep_zero (old new : Int) : filterStep 0 old new = new := by
  rw [filterStep, Nat.pow_zero, roundDiv_one]
  omega

@[simp] theorem State.setSensor_self (s : State) (p : Fin 4) : s.setSensor p (s.sensor p) = s := by
  simp [State.setSensor, State.sensor]

/-! ### What debouncing leaves of the record (R48) -/

theorem debounce_sensors (p : Fin 4) (activation release : Bool) (s : State) :
    ∃ n a, (debounce p activation release s).sensors = s.sensors.set p { s.sensor p with debounce := n, active := a } := by
  rw [debounce_eq]
  generalize (if (s.sensor p).active then release else activation) = met
  split
  · split
    · exact ⟨_, _, rfl⟩
    · refine ⟨0, !(s.sensor p).active, ?_⟩
      rw [setActive_sensors, State.sensor_setSensor]
      simp [State.setSensor]
  · exact ⟨_, _, rfl⟩

theorem sensor_of_set {s t : State} {p : Fin 4} {x : Sensor} (h : t.sensors = s.sensors.set p x) : t.sensor p = x := by
  unfold State.sensor
  rw [h]
  simp

theorem sensor_of_set_ne {s t : State} {p q : Fin 4} {x : Sensor} (h : t.sensors = s.sensors.set p x) (ne : q ≠ p) :
    t.sensor q = s.sensor q := by
  unfold State.sensor
  rw [h]
  simp [Fin.val_ne_of_ne ne.symm]

/-- A sample of a port whose record has been brought up to date: the debounce count and Active may move. -/
theorem debounced_sensor (p : Fin 4) (activation release : Bool) (s : State) (y : Sensor) :
    let t := debounce p activation release (s.setSensor p y)
    (∃ n a, t.sensor p = { y with debounce := n, active := a }) ∧ ∀ q, q ≠ p → t.sensor q = s.sensor q := by
  intro t
  obtain ⟨n, a, after⟩ := debounce_sensors p activation release (s.setSensor p y)
  refine ⟨⟨n, a, ?_⟩, fun q ne => ?_⟩
  · rw [sensor_of_set after, State.sensor_setSensor]
  · rw [sensor_of_set_ne after ne, State.sensor_setSensor_ne _ _ ne.symm]

/-! ### A sample of each kind of port -/

theorem exec_sensorSample {s : State} (awake : s.resetHeld = []) (p : Fin 4) (raw : Nat) :
    exec (.sensorSample p raw) s = ends (match (s.sensor p).kind with
      | .off => s
      | .switch => switchSample p raw s
      | .level => levelSample p raw s
      | .touch => touchReading p raw s) := by
  dsimp only [exec]
  exact State.whenAwake_awake awake _

theorem exec_sensorSample_off {s : State} (awake : s.resetHeld = []) {p : Fin 4} (raw : Nat)
    (off : (s.sensor p).kind = .off) : exec (.sensorSample p raw) s = ends s := by
  rw [exec_sensorSample awake]
  simp only [off]

theorem exec_sensorSample_switch {s : State} (awake : s.resetHeld = []) {p : Fin 4} (raw : Nat)
    (switch : (s.sensor p).kind = .switch) : exec (.sensorSample p raw) s = ends (switchSample p raw s) := by
  rw [exec_sensorSample awake]
  simp only [switch]

theorem exec_sensorSample_level {s : State} (awake : s.resetHeld = []) {p : Fin 4} (raw : Nat)
    (level : (s.sensor p).kind = .level) : exec (.sensorSample p raw) s = ends (levelSample p raw s) := by
  rw [exec_sensorSample awake]
  simp only [level]

theorem exec_sensorSample_touch {s : State} (awake : s.resetHeld = []) {p : Fin 4} (raw : Nat)
    (touch : (s.sensor p).kind = .touch) : exec (.sensorSample p raw) s = ends (touchReading p raw s) := by
  rw [exec_sensorSample awake]
  simp only [touch]

theorem exec_freezeTimeout {s : State} (awake : s.resetHeld = []) (p : Fin 4) :
    exec (.freezeTimeout p) s = ends (if (s.sensor p).freezeTimer.isSome then
      writeDelta p (s.setSensor p { s.sensor p with
        lta := (s.sensor p).filt, delta := 0, frozen := false, freezeTimer := none }) else s) := by
  dsimp only [exec]
  exact State.whenAwake_awake awake _

/-- R51: the two conditions of a Level port, on the record with its new filtered value. -/
theorem Sensor.levelConditions_eq (x : Sensor) : x.levelConditions =
    (decide (if x.polarity = .rising then x.threshold ≤ x.filt else x.filt ≤ x.threshold),
      decide (if x.polarity = .rising then x.filt < x.threshold - x.hysteresis
        else x.threshold + x.hysteresis < x.filt)) := by
  unfold Sensor.levelConditions
  cases h : x.polarity <;> simp

theorem levelSample_seeded {p : Fin 4} {s : State} (seeded : (s.sensor p).seeded = true) (raw : Nat) :
    let y : Sensor := { s.sensor p with
      raw := min raw 4095, filt := filterStep (s.sensor p).beta (s.sensor p).filt (min raw 4095 : Nat) }
    levelSample p raw s = updateSignal (sensorSignal p) y.filt
      (debounce p y.levelConditions.1 y.levelConditions.2 (s.setSensor p y)) := by
  intro y
  have debounced := (debounced_sensor p y.levelConditions.1 y.levelConditions.2 s y).1
  obtain ⟨n, a, after⟩ := debounced
  unfold levelSample
  dsimp only
  rw [if_pos seeded]
  show updateSignal _ ((debounce p y.levelConditions.1 y.levelConditions.2 (s.setSensor p y)).sensor p).filt _ = _
  rw [after]

theorem levelSample_first {p : Fin 4} {s : State} (unseeded : (s.sensor p).seeded = false) (raw : Nat) :
    levelSample p raw s = updateSignal (sensorSignal p) (min raw 4095 : Nat) (s.setSensor p { s.sensor p with
      raw := min raw 4095, filt := (min raw 4095 : Nat), seeded := true }) := by
  unfold levelSample
  dsimp only
  rw [if_neg (by rw [unseeded]; decide), State.sensor_setSensor]

/-- Settles O26: the filter's own lemmas, and what debouncing leaves of the record. -/
theorem levelSamples : Obligations.LevelSamples := by
  intro p i raw s awake index level seeded _ wide x r f rising activation release filtered
  have place : sensorSignal p = i := Fin.ext index.symm
  have status : i ≠ 15 := fun eq => by
    have small := p.isLt
    rw [eq] at index
    simp only [Fin.isValue, Fin.coe_ofNat_eq_mod] at index
    omega
  have conditions : ({ x with raw := min raw 4095, filt := f } : Sensor).levelConditions
      = (decide activation, decide release) := Sensor.levelConditions_eq _
  have sampled : levelSample p raw s = updateSignal i f (debounce p (decide activation) (decide release) filtered) := by
    have eq := levelSample_seeded seeded raw
    rw [← place]
    exact eq.trans (congrArg₂ (fun on off => updateSignal (sensorSignal p) f (debounce p on off filtered))
      (congrArg Prod.fst conditions) (congrArg Prod.snd conditions))
  obtain ⟨⟨n, a, own⟩, others⟩ := debounced_sensor p (decide activation) (decide release) s
    { x with raw := min raw 4095, filt := f }
  have kept := (updateSignal_updated i f (debounce p (decide activation) (decide release) filtered)).kept.sensors
  have between := filterStep_between x.beta x.filt r
  have apart : ¬(activation ∧ release) := by
    have wide : 0 ≤ x.hysteresis := wide
    rintro ⟨act, rel⟩
    by_cases up : rising
    · simp only [activation, release, if_pos up] at act rel
      omega
    · simp only [activation, release, if_neg up] at act rel
      omega
  refine ⟨_, (exec_sensorSample_level awake raw level).trans (by rw [sampled]), rfl, ?_, ?_, ?_, fun q ne => ?_,
    fun none => ?_, between.1, between.2, filterStep_still_iff x.beta x.filt r, apart, fun inactive held => ?_,
    fun up low bound => ?_, fun down high bound => ?_⟩
  · rw [sensor_of_sensors kept, own]
  · rw [sensor_of_sensors kept, own]
  · rw [updateSignal_signal_same status]
  · rw [sensor_of_sensors kept, others q ne]
  · have eq := filterStep_zero x.filt r
    rwa [← none] at eq
  · rw [debounce_eq, if_neg, State.sensor_setSensor, State.setSensor_setSensor]
    simp [inactive, held]
  · simp only [release, if_pos up]
    omega
  · simp only [release, if_neg down]
    omega

/-! ### The other samples (R47, R49, R53 to R55) -/

theorem touchReading_quiet {p : Fin 4} {s : State} (still : (s.sensor p).tuning = none)
    (flag : (s.sensor p).tuneAtStart = false) (raw : Nat) : touchReading p raw s = touchSample p (min raw 65535) s := by
  have same : s.setSensor p { s.sensor p with tuneAtStart := false } = s := by
    rw [← flag]
    exact State.setSensor_self s p
  unfold touchReading
  dsimp only
  rw [same, if_neg (by simp [flag]), still]

theorem touchSample_first {p : Fin 4} {s : State} (unseeded : (s.sensor p).seeded = false) (raw : Nat) :
    touchSample p raw s = updateSignal (sensorSignal p) 0 (s.setSensor p { s.sensor p with
      raw := raw, filt := raw, lta := raw, delta := 0, seeded := true }) := by
  unfold touchSample writeDelta
  dsimp only
  rw [if_neg (by rw [unseeded]; decide), State.sensor_setSensor]
  rfl

theorem Sensor.freezeCheck_fields (x : Sensor) : ∃ f t, x.freezeCheck = { x with frozen := f, freezeTimer := t } := by
  unfold Sensor.freezeCheck
  split
  · split
    · exact ⟨_, _, rfl⟩
    · exact ⟨_, _, rfl⟩
  · exact ⟨_, _, rfl⟩

theorem touchSample_seeded {p : Fin 4} {s : State} (seeded : (s.sensor p).seeded = true) (raw : Nat) :
    let y := ((s.sensor p).touchFilter raw).freezeCheck
    touchSample p raw s = updateSignal (sensorSignal p) (clampI (-32768) 32767 y.delta)
      (debounce p (decide (y.threshold ≤ y.delta)) (decide (y.delta < y.threshold - y.hysteresis)) (s.setSensor p y)) := by
  intro y
  obtain ⟨n, a, after⟩ := (debounced_sensor p (decide (y.threshold ≤ y.delta))
    (decide (y.delta < y.threshold - y.hysteresis)) s y).1
  unfold touchSample writeDelta
  dsimp only
  rw [if_pos seeded, after]

/-- R54: the freeze check by the size of the deviation. -/
theorem Sensor.freezeCheck_eq (x : Sensor) : x.freezeCheck =
    if x.delta.natAbs < x.freezeLevel then { x with frozen := false, freezeTimer := none }
    else if x.frozen then x
    else { x with frozen := true, freezeTimer := if x.freezeTime = 0 then none else some x.freezeTime } := by
  unfold Sensor.freezeCheck
  by_cases small : (x.delta.natAbs : Int) < x.freezeLevel
  · rw [if_pos small, if_neg (by omega)]
  · rw [if_neg small, if_pos (by omega)] <;> rfl

/-- Settles O27: one equation for each kind of sample, and the freeze timer. -/
theorem switchAndTouchSamples : Obligations.SwitchAndTouchSamples := by
  intro p raw s awake x touching i c r pressed f lta moved y
  refine ⟨fun off => exec_sensorSample_off awake raw off, fun switch => ?_, fun level first => ?_,
    fun touch first => ?_, fun touch seeded => ?_, fun runs => ?_, fun stopped => ?_⟩
  · have one : ((min raw 1) == 1) = decide (1 ≤ raw) := by
      rw [Bool.eq_iff_iff, beq_iff_eq, decide_eq_true_iff]
      omega
    have zero : ((min raw 1) == 0) = decide (raw = 0) := by
      rw [Bool.eq_iff_iff, beq_iff_eq, decide_eq_true_iff]
      omega
    rw [exec_sensorSample_switch awake raw switch, switchSample]
    dsimp only
    rw [one, zero] <;> rfl
  · rw [exec_sensorSample_level awake raw level, levelSample_first first] <;> rfl
  · obtain ⟨kind, still, flag⟩ := touch
    rw [exec_sensorSample_touch awake raw kind, touchReading_quiet still flag, touchSample_first first] <;> rfl
  · obtain ⟨kind, still, flag⟩ := touch
    have filtered : x.touchFilter r = moved := by
      have guard : (x.frozen || x.active) = true ↔ (x.frozen = true ∨ x.active = true) := Bool.or_eq_true_iff
      simp only [moved, lta, f, Sensor.touchFilter, guard]
    have checked : (x.touchFilter r).freezeCheck = y := by rw [filtered, Sensor.freezeCheck_eq]
    have fields : y.delta = lta - f ∧ y.threshold = x.threshold ∧ y.hysteresis = x.hysteresis := by
      obtain ⟨_, _, eq⟩ := moved.freezeCheck_fields
      rw [← checked, filtered, eq]
      exact ⟨rfl, rfl, rfl⟩
    have sampled := touchSample_seeded seeded r
    dsimp only at sampled
    rw [show ((s.sensor p).touchFilter r).freezeCheck = y from checked, fields.1, fields.2.1, fields.2.2] at sampled
    rw [exec_sensorSample_touch awake raw kind, touchReading_quiet still flag, sampled] <;> rfl
  · rw [exec_freezeTimeout awake, if_pos runs, writeDelta, State.sensor_setSensor] <;> rfl
  · rw [exec_freezeTimeout awake, if_neg]
    rw [show (s.sensor p).freezeTimer = none from stopped]
    decide

end Sys2Proof.Machine
end

section

/-! PROOF. The tunes of a Touch port: how a tune starts, takes its samples, goes through its phases and ends, and the
number of samples it still takes (O28). -/

namespace Sys2Proof.Machine

/-! ### The start of a tune (R56) -/

/-- The record of a port at the start of a tune. -/
def Sensor.tuneStarted (x : Sensor) : Sensor := { x with
  active := false, frozen := false, freezeTimer := none, debounce := 0, retryTimer := none,
  tuning := some ⟨.gain, 0, 0⟩, gain := 1, offset := 0 }

theorem writeSensorBits_sensors (p : Fin 4) (s : State) : (writeSensorBits p s).sensors = s.sensors :=
  (writeSensorBits_updated p s).kept.sensors

theorem startTune_sensors (p : Fin 4) (s : State) :
    (startTune p s).sensors = s.sensors.set p (s.sensor p).tuneStarted := by
  unfold startTune
  dsimp only
  rw [writeSensorBits_sensors]
  split
  · have after := setActive_sensors p false s
    show (setActive p false s).sensors.set p _ = _
    rw [sensor_of_set after, after]
    simp [Sensor.tuneStarted]
  next active =>
    have active : (s.sensor p).active = false := by simpa using active
    show s.sensors.set p _ = _
    rw [Sensor.tuneStarted, ← active]

/-- R67: the port is Active no more and Tuning. -/
theorem startTune_bits (p : Fin 4) (s : State) : getBits (3 * p.val) 2 ((startTune p s).signal 13).value = 2 := by
  unfold startTune
  dsimp only
  rw [writeSensorBits_word, (sensorWord_bits p _ _).2.2, State.sensor_setSensor]
  dsimp only
  split
  · rw [sensor_of_set (setActive_sensors p false s)]
    rfl
  next active =>
    rw [show (s.sensor p).active = false by simpa using active]
    rfl

/-! ### The samples of a tune (R57) -/

/-- R52: a reading of a port that is tuning uses up the flag and goes to the tune. -/
theorem touchReading_tuning {p : Fin 4} {s : State} {t : Tune} (tuning : (s.sensor p).tuning = some t) (raw : Nat) :
    touchReading p raw s = tuneSample p t (min raw 65535) (s.setSensor p { s.sensor p with tuneAtStart := false }) := by
  unfold touchReading
  dsimp only
  rw [if_neg (by simp [tuning]), State.sensor_setSensor]
  simp only [tuning]

/-- R52: the first reading of a port whose flag is set starts the tune that takes it. -/
theorem touchReading_flagged {p : Fin 4} {s : State} (still : (s.sensor p).tuning = none)
    (flag : (s.sensor p).tuneAtStart = true) (raw : Nat) :
    touchReading p raw s = tuneSample p ⟨.gain, 0, 0⟩ (min raw 65535)
      (startTune p (s.setSensor p { s.sensor p with tuneAtStart := false })) := by
  have started : ((startTune p (s.setSensor p { s.sensor p with tuneAtStart := false })).sensor p).tuning
      = some ⟨.gain, 0, 0⟩ := by
    rw [sensor_of_set (startTune_sensors p _)]
    rfl
  unfold touchReading
  dsimp only
  rw [if_pos (by simp [still, flag])]
  simp only [started]

theorem tuneSample_early {t : Tune} (early : t.count < 5) (p : Fin 4) (raw : Nat) (s : State) :
    tuneSample p t raw s = s.setSensor p { s.sensor p with
      raw := raw, tuning := some ⟨t.phase, t.count + 1, if t.count < 2 then t.sum else t.sum + raw⟩ } :=
  if_pos (by omega)

theorem tuneSample_last (phase : TunePhase) (sum : Nat) (p : Fin 4) (raw : Nat) (s : State) :
    tuneSample p ⟨phase, 5, sum⟩ raw s = tuneMeasured p phase ((sum + raw) / 4) (s.setSensor p { s.sensor p with
      raw := raw, tuning := some ⟨phase, 6, sum + raw⟩ }) := rfl

/-- The record of a port after the last sample of a measurement. -/
def Sensor.measured (phase : TunePhase) (sum raw : Nat) (x : Sensor) : Sensor := { x with
  raw := raw, tuneAtStart := false, tuning := some ⟨phase, 6, sum + raw⟩ }

theorem touchReading_early {p : Fin 4} {s : State} {t : Tune} (tuning : (s.sensor p).tuning = some t)
    (early : t.count < 5) (raw : Nat) : touchReading p raw s = s.setSensor p { s.sensor p with
      raw := min raw 65535, tuneAtStart := false,
      tuning := some ⟨t.phase, t.count + 1, if t.count < 2 then t.sum else t.sum + min raw 65535⟩ } := by
  rw [touchReading_tuning tuning, tuneSample_early early, State.sensor_setSensor, State.setSensor_setSensor]

theorem touchReading_last {p : Fin 4} {s : State} {phase : TunePhase} {sum : Nat}
    (tuning : (s.sensor p).tuning = some ⟨phase, 5, sum⟩) (raw : Nat) :
    touchReading p raw s = tuneMeasured p phase ((sum + min raw 65535) / 4)
      (s.setSensor p ((s.sensor p).measured phase sum (min raw 65535))) := by
  rw [touchReading_tuning tuning, tuneSample_last, State.sensor_setSensor, State.setSensor_setSensor]
  rfl

/-! ### The ends of the measurements (R58, R59) -/

theorem tuneMeasured_gain (p : Fin 4) (a : Nat) (s : State) : tuneMeasured p .gain a s =
    if (s.sensor p).tuneTarget ≤ a then s.setSensor p ((s.sensor p).nextTrial (.offset 32 0) (s.sensor p).gain 32)
    else if 8 ≤ (s.sensor p).gain then endTune p .lowSignal s
    else s.setSensor p ((s.sensor p).nextTrial .gain ((s.sensor p).gain + 1) 0) := rfl

theorem tuneMeasured_offset (p : Fin 4) (bit kept a : Nat) (s : State) :
    let kept' := if (s.sensor p).tuneTarget ≤ a then kept + bit else kept
    tuneMeasured p (.offset bit kept) a s =
      if bit / 2 = 0 then s.setSensor p ((s.sensor p).nextTrial .final (s.sensor p).gain kept')
      else s.setSensor p ((s.sensor p).nextTrial (.offset (bit / 2) kept') (s.sensor p).gain (kept' + bit / 2)) := rfl

theorem tuneMeasured_final (p : Fin 4) (a : Nat) (s : State) : tuneMeasured p .final a s =
    if a ≤ (s.sensor p).tuneTarget + (s.sensor p).tuneTarget / 16 then
      endTune p .tuneDone (s.setSensor p { s.sensor p with filt := a, lta := a, delta := 0 })
    else endTune p .outOfWindow (s.setSensor p { s.sensor p with filt := a }) := rfl

/-! ### The end of a tune (R60) -/

/-- The record of a port at the end of a tune. -/
def Sensor.tuneEnded (r : TuneResult) (x : Sensor) : Sensor := { x with
  tuneResult := r, tuning := none, retryTimer := if r.isError then timerOf x.retryPeriod else none }

/-- R60, R177: signal 13 is written, then the notice is formed. -/
theorem endTune_eq (p : Fin 4) (r : TuneResult) (s : State) :
    endTune p r s = tell 3 (.notice 4 (p.val + 1) r.code) (writeSensorBits p (s.setSensor p ((s.sensor p).tuneEnded r))) := rfl

theorem endTune_sensors (p : Fin 4) (r : TuneResult) (s : State) :
    (endTune p r s).sensors = s.sensors.set p ((s.sensor p).tuneEnded r) := by
  rw [endTune_eq, (tell_told 3 _ _).offered.updated.kept.sensors, writeSensorBits_sensors]
  rfl

theorem endTune_bit (p : Fin 4) (r : TuneResult) (s : State) :
    getBits (3 * p.val + 1) 1 ((endTune p r s).signal 13).value = 0 := by
  rw [endTune_eq, signal_of_signals (tell_told 3 _ _).offered.signals.1, writeSensorBits_word,
    (sensorWord_bits p _ _).2.1, State.sensor_setSensor]
  rfl

/-! ### The samples that a tune still takes -/

/-- A tune of the port is over after at most `m` samples more, and one that is over has its result. -/
def Sensor.TuneLeft (x : Sensor) (m : Nat) : Prop :=
  match x.tuning with
  | none => x.tuneResult ≠ .none ∧ x.tuneAtStart = false
  | some t => t.count ≤ 5 ∧ match t.phase with
    | .gain => x.gain ≤ 8 ∧ 6 * (8 - x.gain) + 48 ≤ m + t.count
    | .offset bit _ => ∃ k, bit = 2 ^ k ∧ 6 * k + 12 ≤ m + t.count
    | .final => 6 ≤ m + t.count

theorem Sensor.tuneLeft_of_ended {x : Sensor} (still : x.tuning = none) {m : Nat} :
    x.TuneLeft m ↔ x.tuneResult ≠ .none ∧ x.tuneAtStart = false := by
  unfold Sensor.TuneLeft
  simp only [still]

theorem Sensor.tuneLeft_of_gain {x : Sensor} {n sum m : Nat} (tuning : x.tuning = some ⟨.gain, n, sum⟩) :
    x.TuneLeft m ↔ n ≤ 5 ∧ x.gain ≤ 8 ∧ 6 * (8 - x.gain) + 48 ≤ m + n := by
  unfold Sensor.TuneLeft
  simp only [tuning]

theorem Sensor.tuneLeft_of_offset {x : Sensor} {bit kept n sum m : Nat}
    (tuning : x.tuning = some ⟨.offset bit kept, n, sum⟩) :
    x.TuneLeft m ↔ n ≤ 5 ∧ ∃ k, bit = 2 ^ k ∧ 6 * k + 12 ≤ m + n := by
  unfold Sensor.TuneLeft
  simp only [tuning]

theorem Sensor.tuneLeft_of_final {x : Sensor} {n sum m : Nat} (tuning : x.tuning = some ⟨.final, n, sum⟩) :
    x.TuneLeft m ↔ n ≤ 5 ∧ 6 ≤ m + n := by
  unfold Sensor.TuneLeft
  simp only [tuning]

/-- A sample within a measurement is one of the samples that are left. -/
theorem Sensor.tuneLeft_early {x y : Sensor} {t : Tune} {sum m : Nat} (tuning : x.tuning = some t) (early : t.count < 5)
    (next : y.tuning = some ⟨t.phase, t.count + 1, sum⟩) (gain : y.gain = x.gain) (left : x.TuneLeft (m + 1)) :
    y.TuneLeft m := by
  obtain ⟨phase, n, total⟩ := t
  dsimp only at early next
  cases phase with
  | gain =>
    rw [tuneLeft_of_gain tuning] at left
    rw [tuneLeft_of_gain next, gain]
    omega
  | offset bit kept =>
    rw [tuneLeft_of_offset tuning] at left
    obtain ⟨-, k, power, left⟩ := left
    exact (tuneLeft_of_offset next).mpr ⟨by omega, k, power, by omega⟩
  | final =>
    rw [tuneLeft_of_final tuning] at left
    rw [tuneLeft_of_final next]
    omega

theorem endTune_left (p : Fin 4) {r : TuneResult} {s : State} (result : r ≠ .none)
    (used : (s.sensor p).tuneAtStart = false) (m : Nat) : ((endTune p r s).sensor p).TuneLeft m := by
  rw [sensor_of_set (endTune_sensors p r s), Sensor.tuneLeft_of_ended rfl]
  exact ⟨result, used⟩

/-- R58, R59: the end of a measurement leaves one measurement less. -/
theorem tuneMeasured_left {p : Fin 4} {phase : TunePhase} {sum raw m : Nat} {s : State}
    (tuning : (s.sensor p).tuning = some ⟨phase, 5, sum⟩) (left : (s.sensor p).TuneLeft (m + 1)) (a : Nat) :
    ((tuneMeasured p phase a (s.setSensor p ((s.sensor p).measured phase sum raw))).sensor p).TuneLeft m := by
  have used : ((s.setSensor p ((s.sensor p).measured phase sum raw)).sensor p).tuneAtStart = false := by
    rw [State.sensor_setSensor]
    rfl
  cases phase with
  | gain =>
    rw [Sensor.tuneLeft_of_gain tuning] at left
    obtain ⟨-, low, left⟩ := left
    rw [tuneMeasured_gain]
    split
    · rw [State.sensor_setSensor, Sensor.tuneLeft_of_offset rfl]
      exact ⟨by omega, 5, rfl, by omega⟩
    · split
      · exact endTune_left p (by decide) used m
      next more =>
        rw [State.sensor_setSensor] at more
        rw [State.sensor_setSensor, State.sensor_setSensor, Sensor.tuneLeft_of_gain rfl]
        dsimp only [Sensor.measured, Sensor.nextTrial] at more ⊢
        omega
  | offset bit kept =>
    rw [Sensor.tuneLeft_of_offset tuning] at left
    obtain ⟨-, k, rfl, left⟩ := left
    rw [tuneMeasured_offset]
    split
    · rw [State.sensor_setSensor, Sensor.tuneLeft_of_final rfl]
      omega
    next more =>
      cases k with
      | zero => exact absurd rfl more
      | succ k =>
        rw [State.sensor_setSensor, Sensor.tuneLeft_of_offset rfl]
        exact ⟨by omega, k, by rw [Nat.pow_succ, Nat.mul_div_cancel _ (by decide)], by omega⟩
  | final =>
    rw [tuneMeasured_final]
    split
    · exact endTune_left p (by decide) (by rw [State.sensor_setSensor]; exact used) m
    · exact endTune_left p (by decide) (by rw [State.sensor_setSensor]; exact used) m

/-- A sample of a port that is not tuning leaves the tune's part of the record. -/
theorem touchSample_tune (p : Fin 4) (raw : Nat) (s : State) :
    let y := (touchSample p raw s).sensor p
    y.tuning = (s.sensor p).tuning ∧ y.tuneResult = (s.sensor p).tuneResult
      ∧ y.tuneAtStart = (s.sensor p).tuneAtStart ∧ y.kind = (s.sensor p).kind := by
  intro y
  have kept (i : Fin 16) (v : Int) (t : State) : (updateSignal i v t).sensor p = t.sensor p :=
    sensor_of_sensors (updateSignal_updated i v t).kept.sensors p
  cases seeded : (s.sensor p).seeded with
  | false =>
    have after : y = _ := congrArg (fun t => t.sensor p) (touchSample_first seeded raw)
    rw [after, kept, State.sensor_setSensor]
    exact ⟨rfl, rfl, rfl, rfl⟩
  | true =>
    have after : y = _ := congrArg (fun t => t.sensor p) (touchSample_seeded seeded raw)
    obtain ⟨f, t, checked⟩ := ((s.sensor p).touchFilter raw).freezeCheck_fields
    obtain ⟨⟨n, a, own⟩, -⟩ := debounced_sensor p
      (decide (((s.sensor p).touchFilter raw).freezeCheck.threshold ≤ ((s.sensor p).touchFilter raw).freezeCheck.delta))
      (decide (((s.sensor p).touchFilter raw).freezeCheck.delta
        < ((s.sensor p).touchFilter raw).freezeCheck.threshold - ((s.sensor p).touchFilter raw).freezeCheck.hysteresis))
      s ((s.sensor p).touchFilter raw).freezeCheck
    rw [after, kept, own, checked]
    exact ⟨rfl, rfl, rfl, rfl⟩

theorem touchReading_left {p : Fin 4} {m : Nat} {s : State} (left : (s.sensor p).TuneLeft (m + 1)) (raw : Nat) :
    ((touchReading p raw s).sensor p).TuneLeft m := by
  cases tuning : (s.sensor p).tuning with
  | none =>
    rw [Sensor.tuneLeft_of_ended tuning] at left
    obtain ⟨result, used⟩ := left
    obtain ⟨still, same, flag, -⟩ := touchSample_tune p (min raw 65535) s
    rw [touchReading_quiet tuning used, Sensor.tuneLeft_of_ended (still.trans tuning), same, flag]
    exact ⟨result, used⟩
  | some t =>
    by_cases early : t.count < 5
    · rw [touchReading_early tuning early, State.sensor_setSensor]
      exact Sensor.tuneLeft_early tuning early rfl rfl left
    · obtain ⟨phase, n, sum⟩ := t
      have count : n ≤ 5 := by
        unfold Sensor.TuneLeft at left
        simp only [tuning] at left
        exact left.1
      obtain rfl : n = 5 := by
        dsimp only at early
        omega
      rw [touchReading_last tuning]
      exact tuneMeasured_left tuning left _

/-! ### What a sample leaves of the other blocks -/

theorem updateSignal_sensing (i : Fin 16) (v : Int) (s : State) : OnlySensing s (updateSignal i v s) :=
  (updateSignal_only i v s).sensing

theorem endTune_sensing (p : Fin 4) (r : TuneResult) (s : State) : OnlySensing s (endTune p r s) :=
  (OnlySensing.setSensor p _ s).trans ((updateSignal_only _ _ _).trans (notify_only _ _ _ _).bus.update).sensing

theorem debounce_sensing (p : Fin 4) (activation release : Bool) (s : State) :
    OnlySensing s (debounce p activation release s) := by
  rw [debounce_eq]
  generalize (if (s.sensor p).active then release else activation) = met
  split
  · split
    · exact .setSensor p _ s
    · exact (OnlySensing.setSensor p _ s).trans (setActive_sensing p _ _)
  · exact .setSensor p _ s

theorem touchSample_sensing (p : Fin 4) (raw : Nat) (s : State) : OnlySensing s (touchSample p raw s) := by
  cases seeded : (s.sensor p).seeded with
  | false =>
    rw [touchSample_first seeded]
    exact (OnlySensing.setSensor p _ s).trans (updateSignal_sensing _ _ _)
  | true =>
    rw [touchSample_seeded seeded]
    exact ((OnlySensing.setSensor p _ s).trans (debounce_sensing p _ _ _)).trans (updateSignal_sensing _ _ _)

theorem tuneMeasured_sensing (p : Fin 4) (phase : TunePhase) (a : Nat) (s : State) :
    OnlySensing s (tuneMeasured p phase a s) := by
  cases phase with
  | gain =>
    rw [tuneMeasured_gain]
    split
    · exact .setSensor p _ s
    · split
      · exact endTune_sensing p _ s
      · exact .setSensor p _ s
  | offset bit kept =>
    rw [tuneMeasured_offset]
    split
    · exact .setSensor p _ s
    · exact .setSensor p _ s
  | final =>
    rw [tuneMeasured_final]
    split
    · exact (OnlySensing.setSensor p _ s).trans (endTune_sensing p _ _)
    · exact (OnlySensing.setSensor p _ s).trans (endTune_sensing p _ _)

theorem tuneSample_sensing (p : Fin 4) (t : Tune) (raw : Nat) (s : State) : OnlySensing s (tuneSample p t raw s) := by
  unfold tuneSample
  dsimp only
  split
  · exact .setSensor p _ s
  · exact (OnlySensing.setSensor p _ s).trans (tuneMeasured_sensing p _ _ _)

theorem touchReading_sensing (p : Fin 4) (raw : Nat) (s : State) : OnlySensing s (touchReading p raw s) := by
  have used := OnlySensing.setSensor p { s.sensor p with tuneAtStart := false } s
  cases tuning : (s.sensor p).tuning with
  | some t =>
    rw [touchReading_tuning tuning]
    exact used.trans (tuneSample_sensing p _ _ _)
  | none =>
    cases flag : (s.sensor p).tuneAtStart with
    | true =>
      rw [touchReading_flagged tuning flag]
      exact (used.trans (startTune_sensing p _)).trans (tuneSample_sensing p _ _ _)
    | false =>
      rw [touchReading_quiet tuning flag]
      exact touchSample_sensing p _ s

/-! ### The bound of a tune -/

/-- A Touch port in a part that is not held, with no Restart waiting for a frame, whose tune has at most `m` samples
left. -/
structure TuneRuns (p : Fin 4) (m : Nat) (s : State) : Prop where
  awake : s.resetHeld = []
  touch : (s.sensor p).kind = .touch
  still : ∀ k, s.station.restartPending ≠ some (.frame k)
  left : (s.sensor p).TuneLeft m

theorem endTune_kind (p : Fin 4) (r : TuneResult) (s : State) : ((endTune p r s).sensor p).kind = (s.sensor p).kind := by
  rw [sensor_of_set (endTune_sensors p r s)]
  rfl

theorem tuneMeasured_kind (p : Fin 4) (phase : TunePhase) (a : Nat) (s : State) :
    ((tuneMeasured p phase a s).sensor p).kind = (s.sensor p).kind := by
  have trial (x : Sensor) : ((s.setSensor p x).sensor p).kind = x.kind := by rw [State.sensor_setSensor]
  cases phase with
  | gain =>
    rw [tuneMeasured_gain]
    split
    · exact trial _
    · split
      · exact endTune_kind p _ s
      · exact trial _
  | offset bit kept =>
    rw [tuneMeasured_offset]
    split
    · exact trial _
    · exact trial _
  | final =>
    rw [tuneMeasured_final]
    split
    · exact (endTune_kind p _ _).trans (trial _)
    · exact (endTune_kind p _ _).trans (trial _)

theorem tuneSample_kind (p : Fin 4) (t : Tune) (raw : Nat) (s : State) :
    ((tuneSample p t raw s).sensor p).kind = (s.sensor p).kind := by
  have took (x : Sensor) : ((s.setSensor p x).sensor p).kind = x.kind := by rw [State.sensor_setSensor]
  unfold tuneSample
  dsimp only
  split
  · exact took _
  · exact (tuneMeasured_kind p _ _ _).trans (took _)

theorem touchReading_kind (p : Fin 4) (raw : Nat) (s : State) :
    ((touchReading p raw s).sensor p).kind = (s.sensor p).kind := by
  have used : ((s.setSensor p { s.sensor p with tuneAtStart := false }).sensor p).kind = (s.sensor p).kind := by
    rw [State.sensor_setSensor]
  cases tuning : (s.sensor p).tuning with
  | some t =>
    rw [touchReading_tuning tuning, tuneSample_kind, used]
  | none =>
    cases flag : (s.sensor p).tuneAtStart with
    | true =>
      rw [touchReading_flagged tuning flag, tuneSample_kind, sensor_of_set (startTune_sensors p _)]
      exact used
    | false =>
      rw [touchReading_quiet tuning flag]
      exact (touchSample_tune p _ s).2.2.2

theorem TuneRuns.next {p : Fin 4} {m : Nat} {s : State} (runs : TuneRuns p (m + 1) s) (raw : Nat) :
    exec (.sensorSample p raw) s = .next (touchReading p raw s) ∧ TuneRuns p m (touchReading p raw s) := by
  have shared := (touchReading_sensing p raw s).shared
  have still : ∀ k, (touchReading p raw s).station.restartPending ≠ some (.frame k) := by
    rw [shared.station]
    exact runs.still
  refine ⟨?_, ?_, ?_, still, touchReading_left runs.left raw⟩
  · rw [exec_sensorSample_touch runs.awake raw runs.touch, ends_next still]
  · rw [shared.resetHeld]
    exact runs.awake
  · rw [touchReading_kind]
    exact runs.touch

/-- The state after the sample, or the old one if there is none. -/
theorem TuneRuns.foldl {p : Fin 4} (raws : List Nat) {s : State} (runs : TuneRuns p raws.length s)
    {f : State → Nat → State} (sample : ∀ s raw t, exec (.sensorSample p raw) s = .next t → f s raw = t) :
    TuneRuns p 0 (raws.foldl f s) := by
  induction raws generalizing s with
  | nil => exact runs
  | cons raw raws ih =>
    obtain ⟨eq, runs⟩ := runs.next raw
    rw [List.foldl_cons, sample s raw _ eq]
    exact ih runs

theorem Sensor.tuneLeft_zero {x : Sensor} (left : x.TuneLeft 0) : x.tuning = none ∧ x.tuneResult ≠ .none := by
  cases tuning : x.tuning with
  | none => exact ⟨rfl, ((tuneLeft_of_ended tuning).mp left).1⟩
  | some t =>
    obtain ⟨phase, n, sum⟩ := t
    cases phase with
    | gain =>
      rw [tuneLeft_of_gain tuning] at left
      omega
    | offset bit kept =>
      obtain ⟨low, k, -, none⟩ := (tuneLeft_of_offset tuning).mp left
      omega
    | final =>
      rw [tuneLeft_of_final tuning] at left
      omega

theorem exec_tuneRetryExpiry {s : State} (awake : s.resetHeld = []) (p : Fin 4) :
    exec (.tuneRetryExpiry p) s = ends (if (s.sensor p).retryTimer.isSome then startTune p s else s) := by
  dsimp only [exec]
  exact State.whenAwake_awake awake _

/-- Settles O28: an equation for each row of a tune, and for its length the number of samples that are left. -/
theorem tunePhases : Obligations.TunePhases := by
  intro via p target raw n sum bit kept phase raws s awake kind x started tune c r a y trial finishes kept' retry measured
    sampled
  have touch : [SensorKind.touch].contains (s.sensor p).kind = true := by
    rw [kind]
    rfl
  have run {t : Taken} (taken : sensorTune target p s = t) : exec tune s = ends (answered via t) := by
    rw [exec_of_blockOp (c := tune) rfl awake, atSensor_val, taken]
  have reads : exec c s = ends (touchReading p raw s) := exec_sensorSample_touch awake raw kind
  have last {phase : TunePhase} (m : x.tuning = some ⟨phase, 5, sum⟩) :
      exec c s = ends (tuneMeasured p phase a (s.setSensor p (x.measured phase sum r))) := by
    rw [reads, touchReading_last m]
  have held (phase : TunePhase) : (s.setSensor p (x.measured phase sum r)).sensor p = x.measured phase sum r :=
    State.sensor_setSensor ..
  have finish {phase : TunePhase} {res : TuneResult} {z : Sensor}
      (eq : exec c s = ends (endTune p res (s.setSensor p z)))
      (fields : z.tuneEnded res = { y with
        tuning := none, tuneResult := res, filt := z.filt, lta := z.lta, delta := z.delta,
        retryTimer := if res.isError then retry else none }) :
      finishes res z.filt z.lta z.delta (if res.isError then retry else none) := by
    refine ⟨_, eq, ?_, ?_, endTune_bit p res _⟩
    · rw [endTune_eq, State.sensor_setSensor, State.setSensor_setSensor, fields]
    · rw [endTune_sensors, State.sensor_setSensor, fields]
      simp [State.setSensor]
  refine ⟨fun busy => run ?_, fun free => ?_, fun waits => ?_, fun none => ?_, fun free flag => ?_,
    fun tuning early => ?_, fun m met => ?_, fun m low more => ?_, fun m low most => ?_, fun m bit => ?_,
    fun m bit => ?_, fun m inside => ?_, fun m above => ?_, fun begun gain length still => ?_⟩
  · exact (sensorTaken_accepted touch).trans (if_pos busy)
  · refine ⟨_, run ((sensorTaken_accepted touch).trans (if_neg ?_)), ?_, startTune_bits p _⟩
    · rw [show (s.sensor p).tuning = none from free]
      decide
    · rw [startTune_sensors, State.sensor_setSensor]
      simp [State.setSensor, Sensor.tuneStarted, started, x]
  · refine ⟨startTune p s, ?_, startTune_sensors p s⟩
    rw [exec_tuneRetryExpiry awake, if_pos waits]
  · rw [exec_tuneRetryExpiry awake, if_neg]
    rw [show (s.sensor p).retryTimer = .none from none]
    decide
  · refine ⟨_, reads, ?_⟩
    rw [touchReading_flagged free flag, tuneSample_early (by decide)]
    show (startTune p _).sensors.set p _ = _
    rw [startTune_sensors, sensor_of_set (startTune_sensors p _), State.sensor_setSensor]
    simp [State.setSensor, Sensor.tuneStarted, started, x, r]
  · rw [reads, touchReading_early tuning early]
  · show exec c s = _
    rw [last m, tuneMeasured_gain, held, if_pos (show (x.measured .gain sum r).tuneTarget ≤ a from met), State.setSensor_setSensor]
    rfl
  · show exec c s = _
    rw [last m, tuneMeasured_gain, held, if_neg (show ¬ (x.measured .gain sum r).tuneTarget ≤ a from Nat.not_le.mpr low),
      if_neg (show ¬ 8 ≤ (x.measured .gain sum r).gain from Nat.not_le.mpr more), State.setSensor_setSensor]
    rfl
  · refine finish (phase := .gain) (z := x.measured .gain sum r) (res := .lowSignal) ?_ rfl
    rw [last m, tuneMeasured_gain, held, if_neg (show ¬ (x.measured .gain sum r).tuneTarget ≤ a from Nat.not_le.mpr low),
      if_pos (show 8 ≤ (x.measured .gain sum r).gain from most)]
  · show exec c s = _
    rw [last m, tuneMeasured_offset, held, if_neg (by omega), State.setSensor_setSensor]
    rfl
  · show exec c s = _
    rw [last m, tuneMeasured_offset, held, if_pos (by omega), State.setSensor_setSensor]
    rfl
  · refine finish (phase := .final) (z := { x.measured .final sum r with filt := a, lta := a, delta := 0 })
      (res := .tuneDone) ?_ rfl
    rw [last m, tuneMeasured_final, held,
      if_pos (show a ≤ (x.measured .final sum r).tuneTarget + (x.measured .final sum r).tuneTarget / 16
        from inside),
      State.setSensor_setSensor]
  · refine finish (phase := .final) (z := { x.measured .final sum r with filt := a }) (res := .outOfWindow) ?_ rfl
    rw [last m, tuneMeasured_final, held,
      if_neg (show ¬ a ≤ (x.measured .final sum r).tuneTarget + (x.measured .final sum r).tuneTarget / 16
        from Nat.not_le.mpr above),
      State.setSensor_setSensor]
  · have runs : TuneRuns p raws.length s := ⟨awake, kind, still, by
      rw [length, Sensor.tuneLeft_of_gain begun, show (s.sensor p).gain = 1 from gain]
      omega⟩
    exact Sensor.tuneLeft_zero (runs.foldl raws fun s raw t eq => by rw [eq]).left

end Sys2Proof.Machine
end

section

/-! PROOF. The battery monitor: the ports under a ceiling that falls, the undervoltage check, and a reading (O29). -/

namespace Sys2Proof.Machine

/-! ### The ceiling (R63) -/

/-- R63: the duties are re-clamped when the ceiling falls; nothing else changes. -/
theorem reclampPorts_falls {c : Nat} {s : State} (falls : s.battery.ceiling < c) (p : Fin 4) :
    (reclampPorts c s).port p = (s.port p).reclamp s.battery.ceiling :=
  (congrArg (fun t : State => t.port p) (if_pos falls)).trans (foldl_reclamp s _ rfl p).1

theorem reclampPorts_only (c : Nat) (s : State) : reclampPorts c s = { s with ports := (reclampPorts c s).ports } := by
  unfold reclampPorts
  split
  · exact (foldl_reclamp s _ rfl 0).2
  · rfl

theorem Port.reclamp_bound (c : Nat) {x : Port} (driven : x.mode.settled = false) :
    ((x.reclamp c).duty.natAbs : Int) ≤ effLimit c x := by
  have is : x.mode.driven = true := by simpa [Mode.settled_eq_not_driven] using driven
  unfold Port.reclamp
  rw [if_pos is]
  exact clampAbs_le (effLimit_nonneg c x) _

theorem Port.reclamp_keeps (c : Nat) (x : Port) : (x.reclamp c).mode = x.mode ∧ (x.reclamp c).dutyLimit = x.dutyLimit := by
  unfold Port.reclamp
  split <;> exact ⟨rfl, rfl⟩

/-! ### Undervoltage (R64) -/

/-- Table 3-9: the battery monitor after the check. -/
def Battery.checked (b : Battery) : Battery :=
  if b.low then { b with low := decide (b.filtered < 6000) }
  else if b.filtered < 5600 then
    if b.lowCount = 0 then { b with lowCount := 1 } else { b with lowCount := 0, low := true }
  else { b with lowCount := 0 }

theorem Battery.checked_eq (b : Battery) : b.checked = { b with
    lowCount := if b.low then b.lowCount else if (b.low = false ∧ b.filtered < 5600) ∧ b.lowCount = 0 then 1 else 0
    low := if b.low then decide (b.filtered < 6000)
      else decide ((b.low = false ∧ b.filtered < 5600) ∧ 1 ≤ b.lowCount) } := by
  obtain ⟨filtered, ceiling, percentage, count, low⟩ := b
  unfold Battery.checked
  cases low with
  | true => rfl
  | false =>
    by_cases under : filtered < 5600
    · by_cases first : count = 0
      · simp [under, first]
      · simp [under, first, Nat.one_le_iff_ne_zero]
    · simp [under]

/-- R64: the second low reading in a row of a battery not known to be low. -/
def Battery.fails (b : Battery) : Prop := b.low = false ∧ b.filtered < 5600 ∧ 1 ≤ b.lowCount

theorem undervoltageCheck_fails {s : State} (fails : s.battery.fails) :
    undervoltageCheck s = giveCause .undervoltage none { s with battery := s.battery.checked } := by
  obtain ⟨good, under, again⟩ := fails
  unfold undervoltageCheck Battery.checked
  dsimp only
  rw [if_neg (by simp [good]), if_pos under, if_neg (by omega), if_neg (by simp [good]), if_pos under, if_neg (by omega)]

theorem undervoltageCheck_holds {s : State} (holds : ¬s.battery.fails) :
    undervoltageCheck s = { s with battery := s.battery.checked } := by
  unfold undervoltageCheck Battery.checked
  dsimp only
  by_cases low : s.battery.low = true
  · rw [if_pos low, if_pos low]
    by_cases under : s.battery.filtered < 6000
    · rw [if_pos under, decide_eq_true under, ← low]
    · rw [if_neg under, decide_eq_false under]
  · rw [if_neg low, if_neg low]
    by_cases under : s.battery.filtered < 5600
    · have first : s.battery.lowCount = 0 := by
        by_contra more
        exact holds ⟨by simpa using low, under, by omega⟩
      rw [if_pos under, if_pos under, if_pos first, if_pos (by omega), first]
    · rw [if_neg under, if_neg under]

theorem undervoltageCheck_battery (s : State) : (undervoltageCheck s).battery = s.battery.checked := by
  by_cases fails : s.battery.fails
  · rw [undervoltageCheck_fails fails]
    exact (giveCause_shared _ _ _).battery
  · rw [undervoltageCheck_holds fails]

theorem undervoltageCheck_shared (s : State) : (undervoltageCheck s).hot = s.hot
    ∧ (undervoltageCheck s).sensors = s.sensors := by
  by_cases fails : s.battery.fails
  · rw [undervoltageCheck_fails fails]
    exact ⟨(giveCause_shared _ _ _).hot, (giveCause_only _ _ _).sensors_eq⟩
  · rw [undervoltageCheck_holds fails]
    exact ⟨rfl, rfl⟩

theorem Port.halted_coasts {c : CauseKind} {at_ : Option CausePort} {p : Fin 4} (coasts : coastedBy c at_ p = true)
    (x : Port) : (x.halted c at_ p).mode = .coast := by
  unfold Port.halted Port.dropPattern
  rw [if_pos coasts]
  split <;> exact x.enter_mode .coast

/-- R64, R123: an undervoltage takes every port to Coast, so that a Running station is Halted at once. -/
theorem giveCause_undervoltage (s : State) :
    (∀ p, ((giveCause .undervoltage none s).port p).mode = .coast)
      ∧ (s.isRunning = true → (giveCause .undervoltage none s).halt.state = .halted) := by
  refine ⟨fun p => ?_, fun running => ?_⟩
  · rw [giveCause_port]
    split
    · exact Port.halted_coasts rfl _
    · rw [if_pos (by rfl)]
      exact Port.enter_mode .coast _
  · have told := (told_halting .undervoltage none s).1.kept.halt
    have halting := halting_halt .undervoltage none s
    have settled : (s.halting .undervoltage none).AllSettled := fun p => by
      rw [halting_settled, Port.halted_coasts rfl]
      rfl
    unfold giveCause
    rw [if_pos running, haltEntry_eq, (testHalted_halt _).1]
    · rw [told, halting]
    · unfold State.AllSettled
      rw [told]
      exact settled

/-! ### A reading (R62) -/

theorem exec_batteryReading {s : State} (awake : s.resetHeld = []) (millivolts : Nat) :
    exec (.batteryReading millivolts) s = ends (batteryTakes (filterStep 2 s.battery.filtered millivolts) s) := by
  dsimp only [exec]
  exact State.whenAwake_awake awake _

/-- Table 3-8: the battery monitor with a filtered value. -/
def Battery.filteredTo (v : Int) (b : Battery) : Battery :=
  { b with filtered := v, ceiling := supplyCeiling v, percentage := supplyPercentage v }

/-- R63: the state with a filtered value, its ports re-clamped. -/
def State.supplied (v : Int) (s : State) : State :=
  reclampPorts s.battery.ceiling { s with battery := s.battery.filteredTo v }

theorem batteryTakes_eq (v : Int) (s : State) :
    batteryTakes v s = updateSignal 12 (min v 32767) (undervoltageCheck (s.supplied v)) := rfl

theorem supplied_kept (v : Int) (s : State) : (s.supplied v).battery = s.battery.filteredTo v
    ∧ (s.supplied v).sensors = s.sensors ∧ (s.supplied v).hot = s.hot ∧ (s.supplied v).halt = s.halt := by
  unfold State.supplied
  rw [reclampPorts_only]
  exact ⟨rfl, rfl, rfl, rfl⟩

/-- R63: under a ceiling that has fallen every driven port is within its limit. -/
theorem supplied_duty {v : Int} {s : State} (falls : supplyCeiling v < s.battery.ceiling) (p : Fin 4)
    (driven : ((s.supplied v).port p).mode.settled = false) :
    (((s.supplied v).port p).duty.natAbs : Int) ≤ effLimit (supplyCeiling v) ((s.supplied v).port p) := by
  have port : (s.supplied v).port p = (s.port p).reclamp (supplyCeiling v) :=
    reclampPorts_falls (s := { s with battery := s.battery.filteredTo v }) falls p
  obtain ⟨mode, limit⟩ := (s.port p).reclamp_keeps (supplyCeiling v)
  rw [port, mode] at driven
  have bound := Port.reclamp_bound (supplyCeiling v) driven
  rw [port]
  unfold effLimit at bound ⊢
  rwa [limit]

theorem PortOffered.mode {x y : Port} (h : PortOffered x y) : y.mode = x.mode := by
  obtain ⟨⟨_, _, _, _, rfl⟩, -⟩ := h
  rfl

/-- Settles O29: the re-clamp, the check and the update of signal 12, each by its own lemma. -/
theorem batteryReading : Obligations.BatteryReading := by
  intro millivolts s awake b v ceiling percentage falls
  have ceiling_eq : supplyCeiling v = ceiling := by
    unfold supplyCeiling
    simp only [ceiling]
    split
    · rfl
    · split
      · rfl
      · omega
  have percentage_eq : supplyPercentage v = percentage := by
    unfold supplyPercentage
    simp only [percentage]
    split
    · rfl
    · split
      · rfl
      · omega
  obtain ⟨battery, sensors, hot, halt⟩ := supplied_kept v s
  have fails_iff : (s.supplied v).battery.fails ↔ falls ∧ 1 ≤ b.lowCount := by
    rw [battery]
    simp only [Battery.fails, Battery.filteredTo, falls, and_assoc]
    rfl
  have update := updateSignal_updated 12 (min v 32767) (undervoltageCheck (s.supplied v))
  have checked := undervoltageCheck_shared (s.supplied v)
  have mode (p : Fin 4) := (update.port p).mode
  have caused (yes : falls ∧ 1 ≤ b.lowCount) := undervoltageCheck_fails (fails_iff.mpr yes)
  have coasts (yes : falls ∧ 1 ≤ b.lowCount) (p : Fin 4) :
      ((updateSignal 12 (min v 32767) (undervoltageCheck (s.supplied v))).port p).mode = .coast := by
    rw [mode, caused yes]
    exact (giveCause_undervoltage _).1 p
  refine ⟨_, exec_batteryReading awake millivolts, ?_, ?_, ?_, ?_, fun low again => ?_, fun low again => ?_, fun no => ?_,
    fun fell p driven => ?_⟩
  all_goals rw [show batteryTakes (filterStep 2 s.battery.filtered millivolts) s = _ from batteryTakes_eq v s]
  · rw [update.kept.battery, undervoltageCheck_battery, battery, ← ceiling_eq, ← percentage_eq]
    exact Battery.checked_eq _
  · rw [updateSignal_signal_same (by decide)]
  · rw [update.kept.sensors, checked.2, sensors]
  · rw [update.kept.hot, checked.1, hot]
  · by_cases running : s.halt.state = .running
    · left
      rw [update.kept.halt, caused ⟨low, again⟩]
      refine (giveCause_undervoltage _).2 ?_
      rw [isRunning_iff]
      show (s.supplied v).halt.state = _
      rw [halt, running]
    · exact .inr running
  · exact coasts ⟨low, again⟩
  · rw [update.kept.halt, undervoltageCheck_holds fun yes => no (fails_iff.mp yes)]
    exact halt
  · by_cases yes : falls ∧ 1 ≤ b.lowCount
    · rw [show batteryTakes (filterStep 2 s.battery.filtered millivolts) s = _ from batteryTakes_eq v s, coasts yes p] at driven
      exact absurd driven (by decide)
    · have holds := undervoltageCheck_holds fun fails => yes (fails_iff.mp fails)
      have ports : (undervoltageCheck (s.supplied v)).port p = (s.supplied v).port p := by rw [holds]; rfl
      have still : ((s.supplied v).port p).mode.settled = false := by
        rw [← ports, ← mode p]
        exact driven
      have bound := supplied_duty (ceiling_eq ▸ fell) p still
      have limit := (update.port p).effLimit (supplyCeiling v)
      have under : (undervoltageCheck (s.supplied v)).battery.ceiling = supplyCeiling v := by
        rw [undervoltageCheck_battery, Battery.checked_eq, battery]
        rfl
      rw [← Int.ofNat_le, ← ceiling_eq]
      show _ ≤ effLimit (supplyCeiling v) _
      rcases update.duty p with same | within
      · rw [same, limit, ports]
        exact bound
      · rwa [under] at within

end Sys2Proof.Machine
end

section

/-! PROOF. The operations of one voice: what the end of a sound, the choice of the next and the start of a sound do to
the voice, to the gate and to the tablet link; the settings of a voice, Note and ClearVoice (O30, O31). -/

namespace Sys2Proof.Machine

/-! ### One voice of three -/

theorem VoiceActs.other {v u : Fin 3} {s t : State} (h : VoiceActs v s t) (ne : u ≠ v) : t.voice u = s.voice u := by
  obtain ⟨x, _, _, rfl, -⟩ := h
  simp only [State.voice_setLink_other, State.voice_setAudio_other]
  exact State.voice_setVoice_ne _ _ ne.symm

/-- What a voice that acts leaves: all but the voices, the audio clock and the lanes. -/
structure VoiceKept (s t : State) : Prop where
  ports : t.ports = s.ports
  entries : t.entries = s.entries
  signals : t.signals = s.signals
  bus : t.bus = s.bus
  halt : t.halt = s.halt
  battery : t.battery = s.battery
  clock : t.clock = s.clock
  station : t.station = s.station
  staging : t.staging = s.staging
  stageMiss : t.stageMiss = s.stageMiss
  sensors : t.sensors = s.sensors
  master : t.audio.master = s.audio.master
  link : t.link = { s.link with lanes := t.link.lanes }
  lane : ∀ l : Fin 4, l ≠ 2 → t.lane l = s.lane l

theorem VoiceActs.kept {v : Fin 3} {s t : State} (h : VoiceActs v s t) : VoiceKept s t := by
  obtain ⟨_, _, _, rfl, -, master, lane⟩ := h
  exact ⟨rfl, rfl, rfl, rfl, rfl, rfl, rfl, rfl, rfl, rfl, rfl, master, rfl, lane⟩

theorem VoiceKept.refl (s : State) : VoiceKept s s :=
  ⟨rfl, rfl, rfl, rfl, rfl, rfl, rfl, rfl, rfl, rfl, rfl, rfl, rfl, fun _ _ => rfl⟩

theorem VoiceKept.trans {s t u : State} (h : VoiceKept s t) (g : VoiceKept t u) : VoiceKept s u :=
  ⟨g.1.trans h.1, g.2.trans h.2, g.3.trans h.3, g.4.trans h.4, g.5.trans h.5, g.6.trans h.6, g.7.trans h.7, g.8.trans h.8,
    g.9.trans h.9, g.10.trans h.10, g.11.trans h.11, g.12.trans h.12,
    g.link.trans (congrArg (fun k : Link => { k with lanes := u.link.lanes }) h.link),
    fun l ne => (g.lane l ne).trans (h.lane l ne)⟩

theorem VoiceKept.isRunning {s t : State} (h : VoiceKept s t) : t.isRunning = s.isRunning :=
  congrArg (fun k : Halt => k.state == .running) h.halt

theorem voice_of_voices {s t : State} (h : t.voices = s.voices) (v : Fin 3) : t.voice v = s.voice v := by
  unfold State.voice
  rw [h]

/-! ### A voice that falls silent (R72) -/

theorem becomeIdle_voice (v : Fin 3) (s : State) :
    (becomeIdle v s).voice v = { (s.voice v).quiet with state := .idle } := by
  rw [voice_of_voices (becomeIdle_voices v s), State.voice_setVoice]

/-- A message joins the lane of the link as it stands. -/
theorem tell_link {s t : State} (h : t.link = s.link) (l : Fin 4) (m : OutMsg) : (tell l m t).link = (tell l m s).link := by
  unfold tell State.setLane State.lane State.setLink
  rw [h]
  split
  · rfl
  · exact h

theorem startStopTimer_link (s : State) : (startStopTimer s).link = s.link := by
  unfold startStopTimer
  split <;> rfl

/-- R84: a voice that becomes Idle reports it, if it was not Idle before. -/
theorem becomeIdle_link (v : Fin 3) (s : State) : (becomeIdle v s).link = if (s.voice v).state = .idle then s.link
    else (tell 2 (.progress true (v.val + 1) (s.voice v).queue.length) s).link := by
  unfold becomeIdle
  dsimp only
  split
  · rfl
  · rw [startStopTimer_link, reportIdle, State.voice_setVoice]
    exact tell_link (by rfl) _ _

/-! ### The start of a sound (R72) -/

theorem Voice.start_note (n : Note) (x : Voice) : (x.start (.note n)).sound = some (.note n)
    ∧ (x.start (.note n)).queue = x.queue.tail ∧ (x.start (.note n)).acc = 0 ∧ (x.start (.note n)).noteTime = 0 := by
  unfold Voice.start
  dsimp only
  split
  · exact ⟨rfl, rfl, rfl, rfl⟩
  · split <;> exact ⟨rfl, rfl, rfl, rfl⟩

/-- R72, R76: a Tone gives its increment and its waveform. -/
theorem Voice.start_tone {n : Note} {p : Pitch} (tone : n.rest = false) (pitch : n.pitch = some p) (x : Voice) :
    (x.start (.note n)).inc = pitchIncrement p ∧ (x.start (.note n)).lastWave = some n.wave := by
  unfold Voice.start
  dsimp only
  rw [if_neg (by simp [tone])]
  simp only [pitch, and_self]

theorem Voice.start_state (x : Voice) (snd : Sound) : (x.start snd).state = .sustain ∨ (x.start snd).state = .attack := by
  have chosen : (if x.attackMs = 0 then VoiceState.sustain else .attack) = .sustain
      ∨ (if x.attackMs = 0 then VoiceState.sustain else .attack) = .attack := by
    split
    · exact .inl rfl
    · exact .inr rfl
  unfold Voice.start
  cases snd with
  | tone =>
    dsimp only
    split <;> exact chosen
  | note n =>
    dsimp only
    split
    · exact .inl rfl
    · split <;> exact chosen

theorem startSound_voice (v : Fin 3) (snd : Sound) (s : State) : (startSound v snd s).voice v = (s.voice v).start snd := by
  have started : (s.setVoice v ((s.voice v).start snd)).voice v = (s.voice v).start snd := State.voice_setVoice ..
  cases snd with
  | tone => exact started
  | note n =>
    refine ite_keeps (I := fun t : State => t.voice v = (s.voice v).start (.note n)) (fun _ => ?_) fun _ => started
    obtain ⟨_, _, _, _, _, _, eq⟩ := tell_told 2 (.progress false (v.val + 1)
      ((s.setVoice v ((s.voice v).start (.note n))).voice v).queue.length) (s.setVoice v ((s.voice v).start (.note n)))
    show (tell _ _ _).voice v = _
    rw [eq]
    exact started

/-- R84: a note that leaves 2 or fewer behind reports it. -/
theorem startSound_note (v : Fin 3) (n : Note) (s : State) : startSound v (.note n) s =
    if (s.voice v).queue.tail.length ≤ 2 then
      tell 2 (.progress false (v.val + 1) (s.voice v).queue.tail.length) (s.setVoice v ((s.voice v).start (.note n)))
    else s.setVoice v ((s.voice v).start (.note n)) := by
  unfold startSound reportQueueLow
  dsimp only
  rw [State.voice_setVoice, ((s.voice v).start_note n).2.1]

theorem startSound_note_link (v : Fin 3) (n : Note) (s : State) : (startSound v (.note n) s).link =
    if (s.voice v).queue.tail.length ≤ 2 then
      (tell 2 (.progress false (v.val + 1) (s.voice v).queue.tail.length) s).link
    else s.link := by
  rw [startSound_note]
  split
  · exact tell_link (by rfl) _ _
  · rfl

/-! ### The choice of the next sound (R72) -/

theorem nextSound_empty {x : Voice} (own : x.pitchSource = .own) (empty : x.queue = []) (running : Bool) :
    nextSound running x = none := by
  unfold nextSound
  cases running
  · rfl
  · simp [own, empty]

theorem nextSound_some {x : Voice} (own : x.pitchSource = .own) (notes : x.queue ≠ []) :
    ∃ n, nextSound true x = some (.note n) := by
  obtain ⟨n, rest, queue⟩ := List.exists_cons_of_ne_nil notes
  refine ⟨n, ?_⟩
  unfold nextSound
  simp [own, queue]

theorem nextSound_note {x : Voice} {n : Note} {rest : List Note} (own : x.pitchSource = .own) (queue : x.queue = n :: rest) :
    nextSound true x = some (.note n) := by
  unfold nextSound
  simp [own, queue]

theorem chooseSound_none {v : Fin 3} {s : State} (none : nextSound s.isRunning (s.voice v) = none) :
    chooseSound v s = becomeIdle v s := by
  unfold chooseSound
  simp only [none]

theorem chooseSound_waits {v : Fin 3} {snd : Sound} {s : State} (some : nextSound s.isRunning (s.voice v) = some snd)
    (waits : (s.voice v).state = .idle ∨ s.audio.gate ≠ .on) : chooseSound v s = enterWaiting v s := by
  unfold chooseSound
  simp only [some]
  rw [if_pos waits]

theorem chooseSound_starts {v : Fin 3} {snd : Sound} {s : State} (some : nextSound s.isRunning (s.voice v) = some snd)
    (sounds : (s.voice v).state ≠ .idle) (on : s.audio.gate = .on) : chooseSound v s = startSound v snd s := by
  unfold chooseSound
  simp only [some]
  rw [if_neg (by simp [sounds, on])]

/-- R72: a sound that ends with an empty queue leaves the voice Idle. -/
theorem endSound_empty {v : Fin 3} {s : State} (own : (s.voice v).pitchSource = .own) (empty : (s.voice v).queue = []) :
    (endSound v s).voice v = { (s.voice v).quiet with state := .idle }
      ∧ ((s.voice v).state ≠ .idle → (endSound v s).link = (tell 2 (.progress true (v.val + 1) 0) s).link) := by
  have none : nextSound (s.setVoice v (s.voice v).quiet).isRunning ((s.setVoice v (s.voice v).quiet).voice v) = none := by
    rw [State.voice_setVoice]
    exact nextSound_empty (x := (s.voice v).quiet) own empty _
  have eq : endSound v s = becomeIdle v (s.setVoice v (s.voice v).quiet) := chooseSound_none none
  refine ⟨?_, fun sounds => ?_⟩
  · rw [eq, becomeIdle_voice, State.voice_setVoice]
    rfl
  · rw [eq, becomeIdle_link, State.voice_setVoice]
    rw [if_neg (show (s.voice v).quiet.state ≠ .idle from sounds), show (s.voice v).quiet.queue = [] from empty]
    exact tell_link (by rfl) _ _

/-- R72: a sound that ends while notes wait starts the next at once. -/
theorem endSound_next {v : Fin 3} {s : State} {n : Note} {rest : List Note} (own : (s.voice v).pitchSource = .own)
    (queue : (s.voice v).queue = n :: rest) (running : s.isRunning = true) (on : s.audio.gate = .on)
    (sounds : (s.voice v).state ≠ .idle) :
    ((endSound v s).voice v).sound = some (.note n) ∧ ((endSound v s).voice v).queue = rest
      ∧ (endSound v s).link = (if rest.length ≤ 2 then tell 2 (.progress false (v.val + 1) rest.length) s else s).link := by
  have some : nextSound (s.setVoice v (s.voice v).quiet).isRunning ((s.setVoice v (s.voice v).quiet).voice v)
      = some (.note n) := by
    rw [State.voice_setVoice]
    exact (congrArg (nextSound · (s.voice v).quiet) running).trans
      (nextSound_note (x := (s.voice v).quiet) own queue)
  have eq : endSound v s = startSound v (.note n) (s.setVoice v (s.voice v).quiet) :=
    chooseSound_starts some (by rw [State.voice_setVoice]; exact sounds) on
  have left : ((s.setVoice v (s.voice v).quiet).voice v).queue.tail = rest := by
    rw [State.voice_setVoice]
    exact (congrArg List.tail queue)
  obtain ⟨sound, tail, -, -⟩ := ((s.setVoice v (s.voice v).quiet).voice v).start_note n
  refine ⟨?_, ?_, ?_⟩
  · rw [eq, startSound_voice, sound]
  · rw [eq, startSound_voice, tail, left]
  · rw [eq, startSound_note_link, left]
    split
    · exact tell_link (by rfl) _ _
    · rfl

/-! ### Waiting for the clock (R70) -/

theorem requestClock_off {s : State} (off : s.audio.gate = .off) (v : Fin 3) : requestClock v s =
    if s.clock.state = .onPLL then s.setAudio { s.audio with gate := .starting, startTimer := some 2 } else s := by
  unfold requestClock
  simp only [off]

theorem requestClock_starting {s : State} (starting : s.audio.gate = .starting) (v : Fin 3) : requestClock v s = s := by
  unfold requestClock
  simp only [starting]

theorem requestClock_on {s : State} (on : s.audio.gate = .on) (v : Fin 3) :
    requestClock v s = leaveWaiting v (s.setAudio { s.audio with stopTimer := none }) := by
  unfold requestClock
  simp only [on]

/-- R70: a voice that is given a sound while the gate is not On waits for the clock. -/
theorem enterWaiting_waits {v : Fin 3} {s : State} (shut : s.audio.gate ≠ .on) :
    (enterWaiting v s).voice v = { (s.voice v).quiet with state := .waiting }
      ∧ (s.audio.gate = .off → s.clock.state = .onPLL →
        (enterWaiting v s).audio = { s.audio with gate := .starting, startTimer := some 2 }) := by
  have waits : (s.setVoice v { (s.voice v).quiet with state := .waiting }).voice v
      = { (s.voice v).quiet with state := .waiting } := State.voice_setVoice ..
  unfold enterWaiting
  cases gate : s.audio.gate with
  | on => exact absurd gate shut
  | starting =>
    rw [requestClock_starting (s := s.setVoice v _) gate]
    exact ⟨waits, fun off => nomatch off⟩
  | off =>
    rw [requestClock_off (s := s.setVoice v _) gate]
    refine ⟨?_, fun _ pll => ?_⟩
    · split
      · exact waits
      · exact waits
    · rw [if_pos (show (s.setVoice v _).clock.state = .onPLL from pll)]
      rfl

theorem leaveWaiting_starts {v : Fin 3} {snd : Sound} {s : State} (some : nextSound s.isRunning (s.voice v) = some snd) :
    leaveWaiting v s = startSound v snd s := by
  unfold leaveWaiting
  simp only [some]

/-- R70, R72: a voice given a note while the gate is On starts it at once. -/
theorem enterWaiting_starts {v : Fin 3} {n : Note} {s : State} (running : s.isRunning = true) (on : s.audio.gate = .on)
    (own : (s.voice v).pitchSource = .own) (queue : (s.voice v).queue = [n]) :
    let y := ({ (s.voice v).quiet with state := .waiting } : Voice).start (.note n)
    enterWaiting v s = tell 2 (.progress false (v.val + 1) 0)
      ((s.setAudio { s.audio with stopTimer := none }).setVoice v y) := by
  intro y
  have waits (a : Audio) : ((s.setVoice v { (s.voice v).quiet with state := .waiting }).setAudio a).voice v
      = { (s.voice v).quiet with state := .waiting } := State.voice_setVoice ..
  have first (a : Audio) : nextSound (((s.setVoice v { (s.voice v).quiet with state := .waiting }).setAudio a).isRunning)
      (((s.setVoice v { (s.voice v).quiet with state := .waiting }).setAudio a).voice v) = some (.note n) := by
    rw [waits]
    exact (congrArg (nextSound · _) running).trans (nextSound_note (rest := []) own queue)
  unfold enterWaiting
  rw [requestClock_on (s := s.setVoice v _) on, leaveWaiting_starts (first _), startSound_note, waits]
  rw [if_pos (by show (s.voice v).queue.tail.length ≤ 2; rw [queue]; exact Nat.zero_le 2),
    show ({ (s.voice v).quiet with state := .waiting } : Voice).queue.tail.length = 0 by
      show (s.voice v).queue.tail.length = 0; rw [queue]; rfl]
  refine congrArg (tell 2 _) ?_
  simp [State.setVoice, State.setAudio, y]

/-! ### The settings of a voice (R80, R82, R83) -/

theorem atVoice_val (v : Fin 3) (op : Fin 3 → State → Taken) (s : State) : atVoice (v.val + 1) op s = op v s :=
  dif_pos ⟨by omega, by omega⟩

/-- Settles O30: each command is an operation on the record of its voice. -/
theorem voiceSettingsReplaceFields : Obligations.VoiceSettingsReplaceFields := by
  intro via v a b n s awake x i scaled
  have run {c : Instr} {f : Fin 3 → State → Taken} {t : Taken} (block : blockOp c = some (via, atVoice (v.val + 1) f))
      (taken : f v s = t) : exec c s = ends (answered via t) := by
    rw [exec_of_blockOp block awake, atVoice_val, taken]
  refine ⟨run rfl rfl, fun own => run rfl ?_, fun listens => run rfl ?_, run rfl rfl, run rfl rfl⟩
  · show done (suspendVoiceSource x.volumeSource scaled) = _
    rw [own]
    rfl
  · show done (suspendVoiceSource x.volumeSource scaled) = _
    rw [listens]
    rfl

/-! ### Notes (R69) -/

theorem readNoteWave_unknown {k : Nat} (unknown : 4 ≤ k) : readNoteWave k = none := by
  unfold readNoteWave
  split <;> first | rfl | omega

theorem readNote_tone {a : NoteArgs} {w : NoteWave} (kind : a.kind = 0) (wave : readNoteWave a.wave = some w)
    (pitch : a.pitch ≠ 0) : readNote a = some ⟨false,
      some (if a.form = 0 then Pitch.number (clampN 24 108 a.pitch) else Pitch.hertz (clampN 20 8000 a.pitch)),
      clampN 10 10000 a.duration, clampN 0 100 a.volume, w⟩ := by
  unfold readNote
  simp only [kind, wave, if_neg pitch]
  split <;> rfl

theorem readNote_rest {a : NoteArgs} (kind : a.kind = 1) : readNote a
    = some ⟨true, none, clampN 10 10000 a.duration, clampN 0 100 a.volume, .square⟩ := by
  unfold readNote
  simp only [kind]

theorem readNote_bad {a : NoteArgs} (bad : 2 ≤ a.kind ∨ (a.kind = 0 ∧ (4 ≤ a.wave ∨ a.pitch = 0))) : readNote a = none := by
  unfold readNote
  rcases bad with kind | ⟨kind, unknown | silent⟩
  · dsimp only
    split
    · omega
    · omega
    · rfl
  · simp only [kind, readNoteWave_unknown unknown]
  · simp only [kind, silent, if_true]
    split <;> rfl

/-- R69, R79: an accepted note joins the queue, and takes the voice from its entry. -/
theorem voiceNote_joins {a : NoteArgs} {v : Fin 3} {n : Note} {s : State} (running : s.isRunning = true)
    (reads : readNote a = some n) (room : (s.voice v).queue.length < 8) :
    voiceNote a v s = done (bindingEnded v (suspendVoiceSource (s.voice v).pitchSource
      (s.setVoice v { s.voice v with queue := (s.voice v).queue ++ [n], pitchSource := .own }))) := by
  unfold voiceNote
  rw [if_neg (by simp [running])]
  simp only [reads]
  rw [if_neg (by omega)]

theorem cutTone_kept {v : Fin 3} {s : State} (other : ¬((s.voice v).sound = some .tone
    ∧ ((s.voice v).state = .attack ∨ (s.voice v).state = .sustain))) : cutTone v s = s := if_neg other

theorem bindingEnded_sounding {v : Fin 3} {s : State} (sounds : (s.voice v).state ≠ .idle) :
    bindingEnded v s = cutTone v s := if_neg sounds

theorem bindingEnded_idle {v : Fin 3} {s : State} (idle : (s.voice v).state = .idle) (notes : (s.voice v).queue ≠ []) :
    bindingEnded v s = chooseSound v s :=
  (if_pos idle).trans (if_neg (by simpa using notes))

theorem enterRelease_sets {v : Fin 3} {s : State} (release : (s.voice v).releaseMs ≠ 0) (level : Nat) :
    enterRelease v level s = s.setVoice v { s.voice v with
      state := .release, releaseStart := some level, env := level, phaseTime := 0, phaseMs := (s.voice v).releaseMs } :=
  if_neg release

/-- R106: what the entry of a source is after its suspension. -/
def Entry.left (e : Entry) : Entry :=
  if e.state = .enabled ∨ e.state = .stale then { e with state := .suspended, age := none } else e

theorem suspendEntry_left (n : Fin 16) (s : State) : suspendEntry n s = s.setEntry n (s.entry n).left := by
  unfold suspendEntry Entry.left
  by_cases acts : (s.entry n).acting = true
  · rw [if_pos acts, if_pos ((Entry.acting_iff _).mp acts)]
  · rw [if_neg acts, if_neg fun is => acts ((Entry.acting_iff _).mpr is), State.setEntry_self]

/-- Settles O31: the checks in their order, and an accepted note by the state of the voice it joins. -/
theorem noteAndClearVoice : Obligations.NoteAndClearVoice := by
  intro via v a w n s awake form x note clear refused running isTone isRest duration volume pitch rec_ good joined
    inAttackOrSustain level e left
  have run {t : Taken} (taken : voiceNote a v s = t) : exec note s = ends (answered via t) := by
    rw [exec_of_blockOp (c := note) rfl awake, atVoice_val, taken]
  have left_eq : (s.entry n).left = left := rfl
  have reads (is : isTone ∨ isRest) : readNote a = some rec_ := by
    rcases is with ⟨kind, wave, sounds⟩ | kind
    · rw [readNote_tone kind wave sounds]
      simp only [rec_, kind]
      rfl
    · rw [readNote_rest kind]
      exact congrArg some (if_pos kind).symm
  have joins (ok : good) : voiceNote a v s = done (bindingEnded v (suspendVoiceSource x.pitchSource
      (s.setVoice v { joined with pitchSource := .own }))) :=
    voiceNote_joins ((isRunning_iff s).mpr ok.1) (reads ok.2.1) ok.2.2
  have own_joins (ok : good) (own : x.pitchSource = .own) : voiceNote a v s = done (bindingEnded v (s.setVoice v joined)) := by
    have same : { joined with pitchSource := .own } = joined := by rw [← own]
    rw [joins ok, same, own]
    rfl
  have listen_joins (ok : good) (listens : x.pitchSource = .listen n) : voiceNote a v s
      = done (bindingEnded v ((s.setEntry n left).setVoice v { joined with pitchSource := .own })) := by
    rw [joins ok, listens]
    simp only [suspendVoiceSource, suspendEntry_left]
    rfl
  have stands (y : Voice) : (s.setVoice v y).voice v = y := State.voice_setVoice ..
  have binds (y : Voice) : ((s.setEntry n left).setVoice v y).voice v = y := State.voice_setVoice ..
  have grown : joined.queue ≠ [] := by simp [joined]
  refine ⟨fun idle => run ?_, fun is bad => run ?_, fun is note full => run ?_, fun ok own sounds notTone => ?_,
    fun ok own idle shut => ?_, fun ok own idle empty on => ?_, fun ok listens => ?_,
    fun ok listens tone early release => ?_, fun ok listens sounds other => ?_, ?_⟩
  · have still : s.isRunning = false := Bool.eq_false_iff.mpr fun is => idle ((isRunning_iff s).mp is)
    exact if_pos (by rw [still]; rfl)
  · unfold voiceNote
    rw [if_neg (by simp [(isRunning_iff s).mpr is]), readNote_bad bad]
  · unfold voiceNote
    rw [if_neg (by simp [(isRunning_iff s).mpr is]), reads note]
    exact if_pos full
  · refine run ((own_joins ok own).trans (congrArg done ?_))
    rw [bindingEnded_sounding (by rw [stands]; exact sounds), cutTone_kept]
    rw [stands]
    exact fun tone => notTone tone.1
  · obtain ⟨m, some⟩ := nextSound_some (x := joined) own grown
    have waits : bindingEnded v (s.setVoice v joined) = enterWaiting v (s.setVoice v joined) := by
      rw [bindingEnded_idle (by rw [stands]; exact idle) (by rw [stands]; exact grown)]
      refine chooseSound_waits (snd := .note m) ?_ (.inl (by rw [stands]; exact idle))
      rw [stands]
      exact (congrArg (nextSound · joined) ((isRunning_iff s).mpr ok.1)).trans some
    obtain ⟨voice, gate⟩ := enterWaiting_waits (v := v) (s := s.setVoice v joined) shut
    refine ⟨enterWaiting v (s.setVoice v joined), run ((own_joins ok own).trans (by rw [waits])), ?_, gate, fun u ne => ?_⟩
    · rw [voice, stands]
      rfl
    · rw [(enterWaiting_acts v _).other ne]
      exact State.voice_setVoice_ne _ _ ne.symm
  · have queue : joined.queue = [rec_] := by simp [joined, empty]
    have running := (isRunning_iff s).mpr ok.1
    have eq : bindingEnded v (s.setVoice v joined) = tell 2 (.progress false (v.val + 1) 0)
        ((s.setAudio { s.audio with stopTimer := none }).setVoice v
          (({ joined.quiet with state := .waiting } : Voice).start (.note rec_))) := by
      rw [bindingEnded_idle (by rw [stands]; exact idle) (by rw [stands]; exact grown)]
      rw [chooseSound_waits (snd := .note rec_) _ (.inl (by rw [stands]; exact idle))]
      · refine (enterWaiting_starts (s := s.setVoice v joined) running on (by rw [stands]; exact own)
          (by rw [stands]; exact queue)).trans (congrArg (tell 2 _) ?_)
        rw [stands]
        simp [State.setVoice, State.setAudio]
      · rw [stands]
        exact (congrArg (nextSound · joined) running).trans (nextSound_note (rest := []) own queue)
    have voice : (bindingEnded v (s.setVoice v joined)).voice v
        = ({ joined.quiet with state := .waiting } : Voice).start (.note rec_) := by
      obtain ⟨_, _, _, _, _, _, told⟩ := tell_told 2 (.progress false (v.val + 1) 0)
        ((s.setAudio { s.audio with stopTimer := none }).setVoice v
          (({ joined.quiet with state := .waiting } : Voice).start (.note rec_)))
      rw [eq, told]
      exact State.voice_setVoice ..
    obtain ⟨sound, tail, acc, time⟩ := ({ joined.quiet with state := .waiting } : Voice).start_note rec_
    refine ⟨_, run (own_joins ok own), ?_, ?_, ?_, ?_, fun kind => ?_, ?_⟩
    · rw [voice, sound]
    · rw [voice, tail]
      exact congrArg List.tail queue
    · rw [voice, acc]
    · rw [voice, time]
    · have tone : rec_ = ⟨false, some pitch, duration, volume, w⟩ := if_neg (by omega)
      have ⟨inc, wave⟩ := Voice.start_tone (n := rec_) (p := pitch) (by rw [tone]) (by rw [tone])
        ({ joined.quiet with state := .waiting } : Voice)
      rw [voice]
      exact ⟨inc, by rw [wave, tone]⟩
    · rw [voice]
      exact eq
  · have acts := bindingEnded_acts v ((s.setEntry n left).setVoice v { joined with pitchSource := .own })
    refine ⟨_, run (listen_joins ok listens), ?_, ?_⟩
    · obtain ⟨y, _, _, eq, same, -⟩ := acts
      rw [eq]
      show ((State.setVoice _ v y).voice v).pitchSource = _
      rw [State.voice_setVoice, same.pitchSource, binds]
    · unfold State.entry
      rw [acts.kept.entries]
      exact State.entry_setEntry ..
  · refine run ((listen_joins ok listens).trans (congrArg done ?_))
    have state : joined.state ≠ .idle := by
      show x.state ≠ .idle
      rcases early with is | is <;> rw [is] <;> decide
    rw [bindingEnded_sounding (by rw [binds]; exact state)]
    unfold cutTone
    rw [if_pos (by rw [binds]; exact ⟨tone, early⟩), enterRelease_sets (by rw [binds]; exact release), binds,
      State.setVoice_setVoice]
    rfl
  · refine run ((listen_joins ok listens).trans (congrArg done ?_))
    rw [bindingEnded_sounding (by rw [binds]; exact sounds), cutTone_kept]
    rw [binds]
    exact other
  · have block : exec clear s = ends (answered via (voiceClear v s)) := by
      rw [exec_of_blockOp (c := clear) rfl awake, atVoice_val]
    obtain ⟨entries, freed⟩ := suspendVoiceSource_eq x.pitchSource (s.setVoice v { x with queue := [], pitchSource := .own })
    have held : (suspendVoiceSource x.pitchSource (s.setVoice v { x with queue := [], pitchSource := .own })).voice v
        = { x with queue := [], pitchSource := .own } := by
      rw [freed]
      exact stands _
    have voice := becomeIdle_voice v (suspendVoiceSource x.pitchSource (s.setVoice v { x with queue := [], pitchSource := .own }))
    have link := becomeIdle_link v (suspendVoiceSource x.pitchSource (s.setVoice v { x with queue := [], pitchSource := .own }))
    rw [held] at voice link
    refine ⟨_, block, ?_, ?_, ?_, fun u ne => ?_, ?_, fun listens => ?_⟩
    · rw [voice]
      exact ⟨rfl, rfl, rfl⟩
    · rw [voice]
      rfl
    · rw [voice]
      rfl
    · rw [(becomeIdle_acts v _).other ne, freed]
      exact State.voice_setVoice_ne _ _ ne.symm
    · rw [link]
      split
      · rw [freed]
        rfl
      · exact tell_link (by rw [freed]; rfl) _ _
    · unfold State.entry
      rw [(becomeIdle_acts v _).kept.entries, listens]
      exact suspendEntry_acting n _

end Sys2Proof.Machine
end

section

/-! PROOF. The samples of the voices and the ends of their phases, the mix, and the timers of the audio clock gate
(O32, O33). -/

namespace Sys2Proof.Machine

/-! ### A voice at a sample (R73 to R75, R77) -/

/-- R77: the voice with a sample more on its clocks and its accumulator. -/
def Voice.ticked (x : Voice) : Voice := { x with
  noteTime := x.noteTime + 32, phaseTime := x.phaseTime + 32, acc := (x.acc + x.inc) % 16777216 }

/-- R73: the envelope is all that a sample sets, but for the state at the end of an Attack. -/
theorem Voice.setEnv_fields (x : Voice) : ∃ env state, x.setEnv = { x with env := env, state := state } := by
  unfold Voice.setEnv
  split
  · split <;> exact ⟨_, _, rfl⟩
  · exact ⟨_, _, rfl⟩
  · dsimp only
    split <;> exact ⟨_, _, rfl⟩
  · exact ⟨x.env, x.state, rfl⟩
  · exact ⟨x.env, x.state, rfl⟩

theorem Voice.setEnv_attack {x : Voice} (attack : x.state = .attack) (going : ¬1000 * x.phaseMs ≤ x.phaseTime) :
    x.setEnv = { x with env := 256 * x.phaseTime / (1000 * x.phaseMs) } := by
  unfold Voice.setEnv Voice.phaseOver
  simp only [attack, decide_eq_false going, Bool.false_eq_true, if_false]

theorem Voice.setEnv_attack_over {x : Voice} (attack : x.state = .attack) (ended : 1000 * x.phaseMs ≤ x.phaseTime) :
    x.setEnv = { x with env := 256, state := .sustain } := by
  unfold Voice.setEnv Voice.phaseOver
  simp only [attack, decide_eq_true ended, if_true]

theorem Voice.setEnv_sustain {x : Voice} (sustain : x.state = .sustain) :
    x.setEnv = { x with env := if x.resting then 0 else 256 } := by
  unfold Voice.setEnv
  simp only [sustain]

theorem Voice.setEnv_release {x : Voice} (release : x.state = .release) (going : ¬1000 * x.phaseMs ≤ x.phaseTime) :
    x.setEnv = { x with
      env := x.releaseStart.getD 0 - x.releaseStart.getD 0 * x.phaseTime / (1000 * x.phaseMs) } := by
  unfold Voice.setEnv Voice.phaseOver
  simp only [release, decide_eq_false going, Bool.false_eq_true, if_false]

theorem Voice.setEnv_release_over {x : Voice} (release : x.state = .release) (ended : 1000 * x.phaseMs ≤ x.phaseTime) :
    x.setEnv = { x with env := 0 } := by
  unfold Voice.setEnv Voice.phaseOver
  simp only [release, decide_eq_true ended, if_true]

theorem Voice.setEnv_same (x : Voice) : SameVoice x x.setEnv := by
  obtain ⟨_, _, eq⟩ := x.setEnv_fields
  rw [eq]
  exact ⟨rfl, rfl, rfl, rfl, rfl, rfl⟩

theorem voiceEnds_acts (v : Fin 3) (s : State) : VoiceActs v s (voiceEnds v s) := by
  unfold voiceEnds
  dsimp only
  split
  · exact ite_keeps (fun _ => endSound_acts v s) fun _ => .refl v s
  · exact ite_keeps (fun _ => ite_keeps (fun _ => endSound_acts v s) fun _ => enterRelease_acts v _ s) fun _ => .refl v s
  · exact ite_keeps (fun _ => ite_keeps (fun _ => endSound_acts v s) fun _ => enterRelease_acts v _ s) fun _ => .refl v s
  · exact .refl v s
  · exact .refl v s

theorem voiceSample_acts (v : Fin 3) (s : State) : VoiceActs v s (voiceSample v s) := by
  have ticked : SameVoice (s.voice v) (s.voice v).ticked := ⟨rfl, rfl, rfl, rfl, rfl, rfl⟩
  exact ite_keeps (I := VoiceActs v s)
    (fun _ => (VoiceActs.setVoice (ticked.trans (Voice.setEnv_same _))).trans (voiceEnds_acts v _)) fun _ => .refl v s

theorem voiceEnds_going {v : Fin 3} {s : State} (state : (s.voice v).state = .attack ∨ (s.voice v).state = .sustain)
    (going : (s.voice v).noteOver = false) : voiceEnds v s = s := by
  unfold voiceEnds
  rcases state with is | is <;> simp only [is, going, Bool.false_eq_true, if_false]

theorem voiceEnds_tone {v : Fin 3} {s : State} (state : (s.voice v).state = .attack ∨ (s.voice v).state = .sustain)
    (ended : (s.voice v).noteOver = true) (tone : (s.voice v).resting = false) :
    voiceEnds v s = enterRelease v (s.voice v).releaseLevel s := by
  unfold voiceEnds
  rcases state with is | is <;> simp only [is, ended, tone, Bool.false_eq_true, if_false, if_true]

theorem voiceEnds_release {v : Fin 3} {s : State} (state : (s.voice v).state = .release) :
    voiceEnds v s = if (s.voice v).phaseOver then endSound v s else s := by
  unfold voiceEnds
  simp only [state]

theorem voiceSample_sounding {v : Fin 3} {s : State} (sounds : (s.voice v).state.sounding = true) :
    voiceSample v s = voiceEnds v (s.setVoice v (s.voice v).ticked.setEnv) := if_pos sounds

/-- R77: a voice whose sound goes on. -/
theorem voiceSample_going {v : Fin 3} {s : State} {y : Voice}
    (state : (s.voice v).state = .attack ∨ (s.voice v).state = .sustain) (set : (s.voice v).ticked.setEnv = y)
    (after : y.state = .attack ∨ y.state = .sustain) (going : y.noteOver = false) : (voiceSample v s).voice v = y := by
  rw [voiceSample_sounding (by rcases state with is | is <;> rw [is] <;> rfl), set,
    voiceEnds_going (by rw [State.voice_setVoice]; exact after) (by rw [State.voice_setVoice]; exact going),
    State.voice_setVoice]

/-! ### The three voices of a sample (R78) -/

/-- The voices act in their order, each on its own record. -/
theorem foldVoices_voice {f : Fin 3 → State → State} {I : State → Prop} {s : State}
    (other : ∀ {v u : Fin 3} (s : State), u ≠ v → (f v s).voice u = s.voice u) (keeps : ∀ v {s}, I s → I (f v s))
    (start : I s) (v : Fin 3) : ∃ u, u.voice v = s.voice v ∧ I u
      ∧ (threeVoices.foldl (fun s v => f v s) s).voice v = (f v u).voice v := by
  simp only [threeVoices, List.foldl_cons, List.foldl_nil]
  match v with
  | 0 => exact ⟨s, rfl, start, by rw [other _ (by decide), other _ (by decide)]⟩
  | 1 => exact ⟨f 0 s, other s (by decide), keeps 0 start, by rw [other _ (by decide)]⟩
  | 2 => exact ⟨f 1 (f 0 s), by rw [other _ (by decide), other _ (by decide)], keeps 1 (keeps 0 start), rfl⟩

theorem samples_voice (v : Fin 3) (s : State) : ∃ u, u.voice v = s.voice v ∧ VoiceKept s u
    ∧ (threeVoices.foldl (fun s v => voiceSample v s) s).voice v = (voiceSample v u).voice v :=
  foldVoices_voice (I := VoiceKept s) (fun s ne => (voiceSample_acts _ s).other ne)
    (fun v t h => h.trans (voiceSample_acts v t).kept) (.refl s) v

theorem samples_kept (s : State) : VoiceKept s (threeVoices.foldl (fun s v => voiceSample v s) s) :=
  foldl_keeps (I := VoiceKept s) (f := fun s v => voiceSample v s)
    (fun {t} v h => h.trans (voiceSample_acts v t).kept) threeVoices (.refl s)

theorem mix_idle {s : State} (still : s.isRunning = false) : s.mix = 0 := by
  unfold State.mix
  dsimp only
  rw [if_neg (by rw [still]; decide)]

theorem mix_bound (s : State) : s.mix.natAbs ≤ 127 := by
  unfold State.mix
  dsimp only
  split
  · have bound := clampAbs_le (m := 127) (by decide)
      (truncDiv ((threeVoices.map fun v => (s.voice v).level).sum * s.effectiveMaster) 1600)
    omega
  · decide

theorem mix_running {s : State} (running : s.isRunning = true) : s.mix = clampAbs 127 (Int.tdiv
    (((s.voice 0).level + (s.voice 1).level + (s.voice 2).level) * (min s.audio.master s.battery.percentage : Nat)) 1600) := by
  unfold State.mix
  dsimp only
  rw [if_pos running]
  simp only [threeVoices, List.map_cons, List.map_nil, List.sum_cons, List.sum_nil, add_zero, add_assoc]
  rfl

theorem exec_audioSample {s : State} (awake : s.resetHeld = []) : exec .audioSample s = ends (if s.audio.gate = .on then
    (threeVoices.foldl (fun s v => voiceSample v s) s).setAudio
      { (threeVoices.foldl (fun s v => voiceSample v s) s).audio with
        speaker := (threeVoices.foldl (fun s v => voiceSample v s) s).mix } else s) := by
  dsimp only [exec]
  exact State.whenAwake_awake awake _

theorem VoiceState.sounding_iff (k : VoiceState) : k.sounding = true ↔ k = .attack ∨ k = .sustain ∨ k = .release := by
  cases k <;> decide

/-- Settles O32: the voices act one by one, and the mix is that of the voices as they then stand. -/
theorem audioSampleMixesVoices : Obligations.AudioSampleMixesVoices := by
  intro v s awake x later phaseOver noteOver resting wave value level advanced
  have run := exec_audioSample awake
  refine ⟨fun off => ?_, fun on => ?_⟩
  · rw [run, if_neg off]
  · rw [if_pos on] at run
    obtain ⟨u, own, kept, voice⟩ := samples_voice v s
    have all := samples_kept s
    have levels (y : Voice) : y.level = level y := by
      unfold Voice.level
      have volume : y.wave * y.volume = value y := by
        unfold Voice.wave Voice.volume
        cases sound : y.sound with
        | none => simp [value, sound]
        | some snd =>
          cases snd with
          | tone => simp only [value, sound]; rfl
          | note n =>
            simp only [value, sound]
            split
            · exact zero_mul _
            · rfl
      rw [volume, truncDiv]
      by_cases sounds : y.state.sounding = true
      · rw [if_pos sounds]
        exact (if_pos ((VoiceState.sounding_iff _).mp sounds)).symm
      · rw [if_neg sounds]
        exact (if_neg fun is => sounds ((VoiceState.sounding_iff _).mpr is)).symm
    have over_eq (y : Voice) : (advanced y).noteOver = noteOver := rfl
    have resting_eq (y : Voice) : (advanced y).resting = resting := rfl
    have ticked_resting : x.ticked.resting = resting := rfl
    generalize threeVoices.foldl (fun s v => voiceSample v s) s = t at run voice all
    have state (k : VoiceState) (is : x.state = k) : (u.voice v).state = k := by rw [own]; exact is
    refine ⟨_, run, mix_bound t, fun still => ?_, fun running => ?_, fun quiet => ?_, fun attack going note => ?_,
      fun attack ended note => ?_, fun sustain note => ?_, fun sustain note tone release => ?_, fun release going => ?_,
      fun release ended own' empty => ?_, all.ports, all.entries, all.signals, all.bus, all.halt⟩
    · exact mix_idle (all.isRunning.trans (Bool.eq_false_iff.mpr fun is => still ((isRunning_iff s).mp is)))
    · show t.mix = _
      rw [mix_running (all.isRunning.trans ((isRunning_iff s).mpr running)), levels, levels, levels, all.master, all.battery]
      rfl
    all_goals rw [State.voice_setAudio_other, voice]
    · rw [show voiceSample v u = u from if_neg ?_, own]
      rw [own, VoiceState.sounding_iff]
      rcases quiet with is | is <;> rw [show (s.voice v).state = _ from is] <;> decide
    · refine voiceSample_going (.inl (state _ attack)) ?_ (.inl attack) ((over_eq _).trans note)
      rw [own]
      exact Voice.setEnv_attack (x := x.ticked) attack going
    · refine voiceSample_going (.inl (state _ attack)) ?_ (.inr rfl) ((over_eq _).trans note)
      rw [own]
      exact Voice.setEnv_attack_over (x := x.ticked) attack ended
    · refine voiceSample_going (.inr (state _ sustain)) ?_ (.inr sustain) ((over_eq _).trans note)
      rw [own]
      refine (Voice.setEnv_sustain (x := x.ticked) sustain).trans ?_
      rw [ticked_resting]
      rfl
    · have set : (u.voice v).ticked.setEnv = advanced { x with env := 256 } := by
        rw [own]
        refine (Voice.setEnv_sustain (x := x.ticked) sustain).trans ?_
        rw [ticked_resting, tone]
        rfl
      have stands : (u.setVoice v (advanced { x with env := 256 })).voice v = advanced { x with env := 256 } :=
        State.voice_setVoice ..
      have level_eq : (advanced { x with env := 256 }).releaseLevel = 256 := if_pos sustain
      rw [voiceSample_sounding (by rw [state _ sustain]; rfl), set,
        voiceEnds_tone (by rw [stands]; exact .inr sustain) (by rw [stands, over_eq, note])
          (by rw [stands, resting_eq, tone]),
        enterRelease_sets (by rw [stands]; exact release), State.voice_setVoice, stands, level_eq]
      exact ⟨rfl, rfl, rfl, rfl, rfl⟩
    · have set := Voice.setEnv_release (x := x.ticked) release going
      have stands (y : Voice) : (u.setVoice v y).voice v = y := State.voice_setVoice ..
      rw [voiceSample_sounding (by rw [state _ release]; rfl), own, show (s.voice v).ticked.setEnv = _ from set,
        voiceEnds_release (by rw [stands]; exact release), if_neg]
      · exact stands _
      rw [stands]
      exact fun ended => going (of_decide_eq_true ended)
    · have set := Voice.setEnv_release_over (x := x.ticked) release ended
      have stands (y : Voice) : (u.setVoice v y).voice v = y := State.voice_setVoice ..
      rw [voiceSample_sounding (by rw [state _ release]; rfl), own, show (s.voice v).ticked.setEnv = _ from set,
        voiceEnds_release (by rw [stands]; exact release),
        if_pos (by rw [stands]; exact decide_eq_true ended),
        (endSound_empty (by rw [stands]; exact own') (by rw [stands]; exact empty)).1]
      exact ⟨rfl, rfl, rfl⟩

/-! ### The ends of the phases, each a row of its own (R73 to R75) -/

theorem le_sampleTime (us : Nat) : us ≤ sampleTime us := by
  unfold sampleTime
  omega

theorem Voice.atPhaseEnd_over (x : Voice) : 1000 * x.atPhaseEnd.phaseMs ≤ x.atPhaseEnd.phaseTime := by
  have reached := le_sampleTime (1000 * x.phaseMs)
  show 1000 * x.phaseMs ≤ x.phaseTime + (sampleTime (1000 * x.phaseMs) - x.phaseTime)
  omega

theorem exec_attackEnd {s : State} (awake : s.resetHeld = []) (v : Fin 3) : exec (.attackEnd v) s
    = ends (if s.audio.gate = .on ∧ (s.voice v).state = .attack then s.setVoice v (s.voice v).atPhaseEnd.setEnv else s) := by
  dsimp only [exec]
  exact State.whenAwake_awake awake _

theorem exec_noteDurationEnd {s : State} (awake : s.resetHeld = []) (v : Fin 3) : exec (.noteDurationEnd v) s
    = ends (match (s.voice v).sound with
      | some (.note n) =>
        if s.audio.gate = .on ∧ ¬n.rest ∧ ((s.voice v).state = .attack ∨ (s.voice v).state = .sustain) then
          enterRelease v (s.voice v).atNoteEnd.setEnv.releaseLevel (s.setVoice v (s.voice v).atNoteEnd.setEnv)
        else s
      | _ => s) := by
  dsimp only [exec]
  exact State.whenAwake_awake awake _

theorem exec_noteDurationEnd_tone {v : Fin 3} {n : Note} {s : State} (awake : s.resetHeld = []) (on : s.audio.gate = .on)
    (sound : (s.voice v).sound = some (.note n)) (tone : n.rest = false)
    (state : (s.voice v).state = .attack ∨ (s.voice v).state = .sustain) : exec (.noteDurationEnd v) s
      = ends (enterRelease v (s.voice v).atNoteEnd.setEnv.releaseLevel (s.setVoice v (s.voice v).atNoteEnd.setEnv)) := by
  rw [exec_noteDurationEnd awake]
  simp only [sound]
  rw [if_pos ⟨on, by simp [tone], state⟩]

theorem exec_noteDurationEnd_off {v : Fin 3} {s : State} (awake : s.resetHeld = []) (off : s.audio.gate ≠ .on) :
    exec (.noteDurationEnd v) s = ends s := by
  rw [exec_noteDurationEnd awake]
  cases (s.voice v).sound with
  | none => rfl
  | some snd =>
    cases snd with
    | tone => rfl
    | note n => exact congrArg ends (if_neg fun h => off h.1)

theorem exec_releaseEnd {s : State} (awake : s.resetHeld = []) (v : Fin 3) : exec (.releaseEnd v) s
    = ends (if s.audio.gate = .on ∧ (s.voice v).state = .release then
      endSound v (s.setVoice v (s.voice v).atPhaseEnd.setEnv) else s) := by
  dsimp only [exec]
  exact State.whenAwake_awake awake _

theorem exec_restEnd {s : State} (awake : s.resetHeld = []) (v : Fin 3) : exec (.restEnd v) s
    = ends (if s.audio.gate = .on ∧ (s.voice v).resting ∧ (s.voice v).state = .sustain then
      endSound v (s.setVoice v (s.voice v).atNoteEnd) else s) := by
  dsimp only [exec]
  exact State.whenAwake_awake awake _

theorem exec_gateStartExpiry {s : State} (awake : s.resetHeld = []) : exec .gateStartExpiry s
    = ends (if s.audio.gate = .starting ∧ s.audio.startTimer.isSome then
      startStopTimer (threeVoices.foldl (fun s v => if (s.voice v).state = .waiting then leaveWaiting v s else s)
        (s.setAudio { s.audio with gate := .on, startTimer := none })) else s) := by
  dsimp only [exec]
  exact State.whenAwake_awake awake _

theorem exec_gateStopExpiry {s : State} (awake : s.resetHeld = []) : exec .gateStopExpiry s
    = ends (if s.audio.gate = .on ∧ s.audio.stopTimer.isSome then
      s.setAudio { s.audio with gate := .off, stopTimer := none, speaker := 0 } else s) := by
  dsimp only [exec]
  exact State.whenAwake_awake awake _

/-! ### The gate's start (Table 4-4) -/

/-- A gate keeps its state and its start timer; only the stop timer may start. -/
def GateKept (s t : State) : Prop := t.audio.gate = s.audio.gate ∧ t.audio.startTimer = s.audio.startTimer

theorem startStopTimer_gate (s : State) : GateKept s (startStopTimer s) := by
  unfold startStopTimer
  split <;> exact ⟨rfl, rfl⟩

theorem tell_gate (l : Fin 4) (m : OutMsg) (s : State) : GateKept s (tell l m s) := by
  unfold tell
  split <;> exact ⟨rfl, rfl⟩

theorem leaveWaiting_gate (v : Fin 3) (s : State) : GateKept s (leaveWaiting v s) := by
  have trans {t u : State} (h : GateKept s t) (g : GateKept t u) : GateKept s u := ⟨g.1.trans h.1, g.2.trans h.2⟩
  unfold leaveWaiting
  split
  next snd _ =>
    cases snd with
    | tone => exact ⟨rfl, rfl⟩
    | note n => exact ite_keeps (I := GateKept s) (fun _ => tell_gate 2 _ _) fun _ => ⟨rfl, rfl⟩
  · exact ite_keeps (I := GateKept s) (fun _ => ⟨rfl, rfl⟩) fun _ =>
      trans (t := reportIdle v (s.setVoice v { (s.voice v).quiet with state := .idle })) (tell_gate 2 _ _) (startStopTimer_gate _)

theorem leaveWaiting_left (v : Fin 3) (s : State) : ((leaveWaiting v s).voice v).state ≠ .waiting := by
  unfold leaveWaiting
  split
  · rw [startSound_voice]
    rcases (s.voice v).start_state ‹_› with is | is <;> rw [is] <;> decide
  · rw [becomeIdle_voice]
    exact fun is => nomatch is

/-- Table 4-4: a voice as the gate becomes On. -/
theorem gateOpens_voice (v : Fin 3) (s : State) :
    let t := threeVoices.foldl (fun s v => if (s.voice v).state = .waiting then leaveWaiting v s else s) s
    (t.voice v).state ≠ .waiting ∧ ((s.voice v).state ≠ .waiting → t.voice v = s.voice v) := by
  intro t
  obtain ⟨u, own, -, voice⟩ := foldVoices_voice (I := fun _ => True) (s := s)
    (f := fun v s => if (s.voice v).state = .waiting then leaveWaiting v s else s)
    (fun {v u} s ne => ite_keeps (I := fun t : State => t.voice u = s.voice u)
      (fun _ => (leaveWaiting_acts v s).other ne) fun _ => rfl) (fun _ _ _ => trivial) trivial v
  have after : t.voice v = _ := voice
  rw [after]
  by_cases waits : (s.voice v).state = .waiting
  · rw [if_pos (by rw [own]; exact waits)]
    exact ⟨leaveWaiting_left v u, fun no => absurd waits no⟩
  · rw [if_neg (by rw [own]; exact waits), own]
    exact ⟨waits, fun _ => rfl⟩

theorem gateOpens_gate (s : State) :
    GateKept s (threeVoices.foldl (fun s v => if (s.voice v).state = .waiting then leaveWaiting v s else s) s) :=
  foldl_keeps (I := GateKept s) (f := fun s v => if (s.voice v).state = .waiting then leaveWaiting v s else s)
    (fun {t} v h => ite_keeps (fun _ => ⟨(leaveWaiting_gate v t).1.trans h.1, (leaveWaiting_gate v t).2.trans h.2⟩)
      fun _ => h) threeVoices ⟨rfl, rfl⟩

/-- R74: a Tone note at the sample of its end. -/
theorem Voice.atNoteEnd_note {x : Voice} {n : Note} (sound : x.sound = some (.note n)) :
    x.atNoteEnd = x.later (sampleTime (1000 * n.duration) - x.noteTime) := by
  unfold Voice.atNoteEnd
  simp only [sound]

/-- Settles O33: each end takes the voice to the sample of that end, where its sound is released or ends. -/
theorem voicePhasesAndGateTimers : Obligations.VoicePhasesAndGateTimers := by
  intro v note next rest s awake x on alone silent starts playing late reached level released
  have stands (y : Voice) : (s.setVoice v y).voice v = y := State.voice_setVoice ..
  have falls_silent {y : Voice} {t : State} (own : y.pitchSource = .own) (empty : y.queue = []) (sounds : y.state ≠ .idle)
      (eq : t = endSound v (s.setVoice v y)) : silent t ∧ t.voice v = { y.quiet with state := .idle } := by
    obtain ⟨voice, link⟩ := endSound_empty (v := v) (s := s.setVoice v y) (by rw [stands]; exact own)
      (by rw [stands]; exact empty)
    rw [stands] at voice link
    refine ⟨⟨?_, ?_, ?_, ?_⟩, by rw [eq, voice]⟩
    · rw [eq, voice]
    · rw [eq, voice]
      rfl
    · rw [eq, voice]
      rfl
    · rw [eq, link sounds]
      exact tell_link (by rfl) _ _
  have starts_next {y : Voice} {t : State} (own : y.pitchSource = .own) (queue : y.queue = next :: rest)
      (running : s.halt.state = .running) (gate : on) (sounds : y.state ≠ .idle)
      (eq : t = endSound v (s.setVoice v y)) : starts t := by
    obtain ⟨sound, left, link⟩ := endSound_next (v := v) (s := s.setVoice v y) (by rw [stands]; exact own)
      (by rw [stands]; exact queue) ((isRunning_iff s).mpr running) gate (by rw [stands]; exact sounds)
    refine ⟨by rw [eq, sound], by rw [eq, left], ?_⟩
    rw [eq, link]
    split
    · exact tell_link (by rfl) _ _
    · rfl
  have note_end (play : playing) (state : x.state = .attack ∨ x.state = .sustain) :
      exec (.noteDurationEnd v) s = ends (enterRelease v (x.later late).setEnv.releaseLevel
        (s.setVoice v (x.later late).setEnv)) := by
    obtain ⟨gate, sound, tone⟩ := play
    rw [exec_noteDurationEnd_tone awake gate sound tone state, Voice.atNoteEnd_note sound]
  have set_fields (z : Voice) : z.setEnv.pitchSource = z.pitchSource ∧ z.setEnv.queue = z.queue
      ∧ z.setEnv.sound = z.sound ∧ z.setEnv.lastWave = z.lastWave := by
    obtain ⟨_, _, eq⟩ := z.setEnv_fields
    rw [eq]
    exact ⟨rfl, rfl, rfl, rfl⟩
  have not_idle (z : Voice) (state : z.state = .attack ∨ z.state = .sustain) : z.setEnv.state ≠ .idle := by
    rcases state with is | is
    · by_cases ended : 1000 * z.phaseMs ≤ z.phaseTime
      · rw [Voice.setEnv_attack_over is ended]
        exact fun no => nomatch no
      · rw [Voice.setEnv_attack is ended]
        exact fun no => nomatch is.symm.trans no
    · rw [Voice.setEnv_sustain is]
      exact fun no => nomatch is.symm.trans no
  have release_at {l : Nat} (release : x.releaseMs ≠ 0) (from_level : (x.later late).setEnv.releaseLevel = l) :
      released (enterRelease v (x.later late).setEnv.releaseLevel (s.setVoice v (x.later late).setEnv)) l := by
    obtain ⟨_, _, eq⟩ := (x.later late).setEnv_fields
    rw [from_level, enterRelease_sets (by rw [stands, eq]; exact release), stands, State.setVoice_setVoice, eq]
    rfl
  have ends_at (release : x.releaseMs = 0) (l : Nat) : enterRelease v l (s.setVoice v (x.later late).setEnv)
      = endSound v (s.setVoice v (x.later late).setEnv) := by
    obtain ⟨_, _, eq⟩ := (x.later late).setEnv_fields
    exact if_pos (by rw [stands, eq]; exact release)
  have phase_fields := set_fields x.atPhaseEnd
  have release_going (release : x.state = .release) : x.atPhaseEnd.setEnv.state ≠ .idle := by
    rw [Voice.setEnv_release_over (x := x.atPhaseEnd) release x.atPhaseEnd_over]
    exact fun no => nomatch release.symm.trans no
  have release_end (gate : on) (release : x.state = .release) :
      exec (.releaseEnd v) s = ends (endSound v (s.setVoice v x.atPhaseEnd.setEnv)) := by
    rw [exec_releaseEnd awake, if_pos ⟨gate, release⟩]
  refine ⟨fun gate attack => ?_, fun play sustain release => ?_, fun play attack release => ?_,
    fun play state release own empty => ?_, fun play state release own queue running => ?_,
    fun gate release own empty => ?_, fun gate release own queue running => ?_,
    fun gate sound isRest sustain own empty => ?_, fun starting timer => ?_, fun gate timer => ?_, fun off => ?_⟩
  · refine ⟨s.setVoice v x.atPhaseEnd.setEnv, ?_, ?_, ?_⟩
    · rw [exec_attackEnd awake, if_pos ⟨gate, attack⟩]
    · show _ = s.setVoice v _
      rw [stands]
    · rw [stands, Voice.setEnv_attack_over (x := x.atPhaseEnd) attack x.atPhaseEnd_over]
      exact ⟨rfl, rfl, rfl⟩
  · refine ⟨_, note_end play (.inr sustain), release_at release ?_⟩
    rw [Voice.setEnv_sustain (x := x.later late) sustain]
    exact if_pos sustain
  · refine ⟨_, note_end play (.inl attack), release_at release ?_, ?_⟩
    · by_cases ended : 1000 * x.phaseMs ≤ reached
      · rw [Voice.setEnv_attack_over (x := x.later late) attack ended]
        exact (if_pos ended).symm
      · rw [Voice.setEnv_attack (x := x.later late) attack ended]
        refine (if_neg ?_).trans (if_neg ended).symm
        exact fun no => nomatch attack.symm.trans no
    · by_cases ended : 1000 * x.phaseMs ≤ reached
      · simp only [level, if_pos ended, le_refl]
      · simp only [level, if_neg ended]
        exact Nat.div_le_of_le_mul (by rw [Nat.mul_comm]; exact Nat.mul_le_mul_right _ (Nat.le_of_lt (Nat.lt_of_not_le ended)))
  · obtain ⟨own_eq, queue_eq, -, -⟩ := set_fields (x.later late)
    exact ⟨_, note_end play state, (falls_silent (own_eq.trans own) (queue_eq.trans empty) (not_idle _ state)
      (ends_at release _)).1⟩
  · obtain ⟨own_eq, queue_eq, -, -⟩ := set_fields (x.later late)
    exact ⟨_, note_end play state, starts_next (own_eq.trans own) (queue_eq.trans queue) running play.1
      (not_idle _ state) (ends_at release _)⟩
  · exact ⟨_, release_end gate release, (falls_silent (phase_fields.1.trans own) (phase_fields.2.1.trans empty)
      (release_going release) rfl).1⟩
  · exact ⟨_, release_end gate release, starts_next (phase_fields.1.trans own) (phase_fields.2.1.trans queue) running gate
      (release_going release) rfl⟩
  · have rests : x.resting = true := by
      unfold Voice.resting
      simp only [sound, isRest]
    have run : exec (.restEnd v) s = ends (endSound v (s.setVoice v (x.later late))) := by
      rw [exec_restEnd awake, if_pos ⟨gate, rests, sustain⟩, Voice.atNoteEnd_note sound]
    obtain ⟨quiet, voice⟩ := falls_silent (y := x.later late) own empty
      (show x.state ≠ .idle from fun no => nomatch sustain.symm.trans no) rfl
    exact ⟨_, run, quiet, by rw [voice]; rfl⟩
  · have opens := gateOpens_voice v (s.setAudio { s.audio with gate := .on, startTimer := none })
    have gate := gateOpens_gate (s.setAudio { s.audio with gate := .on, startTimer := none })
    have stop (t : State) : GateKept t (startStopTimer t) ∧ (startStopTimer t).voice v = t.voice v :=
      ⟨startStopTimer_gate t, voice_of_voices (startStopTimer_voices t) v⟩
    refine ⟨_, (exec_gateStartExpiry awake).trans (congrArg ends (if_pos ⟨starting, timer⟩)), ?_, ?_, ?_, fun still => ?_⟩
    · exact (stop _).1.1.trans gate.1
    · exact (stop _).1.2.trans gate.2
    · rw [(stop _).2]
      exact opens.1
    · rw [(stop _).2]
      exact opens.2 still
  · rw [exec_gateStopExpiry awake, if_pos ⟨gate, timer⟩]
  · refine ⟨?_, exec_noteDurationEnd_off awake off, ?_, ?_, ?_⟩
    · rw [exec_attackEnd awake, if_neg fun h => off h.1]
    · rw [exec_releaseEnd awake, if_neg fun h => off h.1]
    · rw [exec_restEnd awake, if_neg fun h => off h.1]
    · rw [exec_gateStopExpiry awake, if_neg fun h => off h.1]

end Sys2Proof.Machine
end

section

/-! PROOF. The settings of a listen entry by its state (O38). -/

namespace Sys2Proof.Machine

/-! ### Routes (R94) -/

theorem Destination.isTrigger_iff (d : Destination) : d.isTrigger = true ↔ d = .goTrigger d.indexCode := by
  cases d <;> simp [Destination.isTrigger, Destination.indexCode]

/-- Table 5-3: a destination reads back from its kind and its index. -/
theorem readDestination_codes {d : Destination}
    (group : d = .goTrigger d.indexCode → 1 ≤ d.indexCode ∧ d.indexCode ≤ 7) :
    readDestination d.kindCode d.indexCode = some d := by
  cases d with
  | motorPower p => exact dif_pos p.isLt
  | motorSpeed p => exact dif_pos p.isLt
  | motorPosition p => exact dif_pos p.isLt
  | voicePitch v => exact dif_pos ⟨by simp [Destination.indexCode], by simp only [Destination.indexCode]; omega⟩
  | voiceVolume v => exact dif_pos ⟨by simp [Destination.indexCode], by simp only [Destination.indexCode]; omega⟩
  | goTrigger g => exact if_pos (group rfl)

theorem readDestination_bad {k i : Nat} (bad : 5 < k ∨ (k ≤ 2 ∧ 3 < i) ∨ ((k = 3 ∨ k = 4) ∧ (i = 0 ∨ 3 < i))
    ∨ (k = 5 ∧ (i = 0 ∨ 7 < i))) : readDestination k i = none := by
  unfold readDestination
  split
  case h_7 => rfl
  case h_6 => exact if_neg (by omega)
  all_goals exact dif_neg (by omega)

theorem readRoute_fits {r : Route} (low : 1 ≤ r.source) (high : r.source ≤ 14)
    (group : r.dest = .goTrigger r.dest.indexCode → 1 ≤ r.dest.indexCode ∧ r.dest.indexCode ≤ 7) :
    readRoute r.source r.signal.val r.dest.kindCode r.dest.indexCode = some r := by
  unfold readRoute
  rw [readDestination_codes group]
  exact dif_pos ⟨low, high, r.signal.isLt⟩

theorem readRoute_bad {a b k i : Nat} (bad : a = 0 ∨ 14 < a ∨ 15 < b ∨ readDestination k i = none) :
    readRoute a b k i = none := by
  unfold readRoute
  split
  · rfl
  next d reads => exact dif_neg (by simp only [reads, reduceCtorEq, or_false] at bad; omega)

/-! ### The settings (R94 to R96) -/

theorem unlessFree_free {n : Fin 16} {s : State} (free : (s.entry n).state = .free) (op : Entry → State → Taken) :
    unlessFree n op s = refuse .badState s := if_pos free

theorem unlessFree_used {n : Fin 16} {s : State} (used : (s.entry n).state ≠ .free) (op : Entry → State → Taken) :
    unlessFree n op s = op (s.entry n) s := if_neg used

theorem readStaleAction_unknown {k : Nat} (unknown : 1 < k) : readStaleAction k = none := by
  unfold readStaleAction
  split <;> first | rfl | omega

/-- R95: the trigger level is that of an entry whose route is a trigger's. -/
theorem listenSetTrigger_eq (level : Int) {n : Fin 16} {s : State} (used : (s.entry n).state ≠ .free) :
    listenSetTrigger level n s = if (s.entry n).route.any fun r => r.dest.isTrigger then
      done (s.setEntry n { s.entry n with trigger := some (clamp16 level) }) else refuse .badArgument s := by
  refine (unlessFree_used used _).trans ?_
  dsimp only
  split
  next source signal g route =>
    have is : ((s.entry n).route.any fun r => r.dest.isTrigger) = true := by rw [route]; rfl
    exact (if_pos is).symm
  next other =>
    refine (if_neg ?_).symm
    cases route : (s.entry n).route with
    | none => exact Bool.false_ne_true
    | some r =>
      obtain ⟨source, signal, d⟩ := r
      cases d with
      | goTrigger g => exact absurd route (other source signal g)
      | _ => exact Bool.false_ne_true

/-- Settles O38: one operation for each setting, by the state of the entry. -/
theorem entrySettings : Obligations.EntrySettings := by
  intro via n a b k i x y r fb s awake e free acts rests trigger fits route is refused wide was timed bad
  have run {c : Instr} {f : Fin 16 → State → Taken} {t : Taken} (block : blockOp c = some (via, atSixteen n.val f))
      (taken : f n s = t) : exec c s = ends (answered via t) := by
    rw [exec_of_blockOp block awake, atSixteen_val, taken]
  have reads (ok : fits) : readRoute r.source r.signal.val r.dest.kindCode r.dest.indexCode = some r :=
    readRoute_fits ok.1 ok.2.1 ok.2.2
  have set_free (ok : fits) (is_free : free) : exec route s = ends (answered via (done (s.setEntry n (e.routed r)))) :=
    run rfl (by simp only [listenSetRoute, reads ok, show (s.entry n).state = .free from is_free]; rfl)
  have set_resting (ok : fits) (rest : rests) : exec route s = ends (answered via (done (s.setEntry n (e.rerouted r)))) :=
    run rfl (by
      rcases rest with state | state
      all_goals simp only [listenSetRoute, reads ok, show (s.entry n).state = _ from state]
      all_goals rfl)
  have was_eq : (match e.route with | some old => old.dest.isTrigger | none => false) = was := by
    simp only [was]
    cases e.route <;> rfl
  have rerouted (d : trigger r.dest) : e.rerouted r = if was then
      { e with route := some r, lastInput := none, lastOutput := none }
      else { e with route := some r, lastInput := none, lastOutput := none, trigger := some 0, armed := true } := by
    rw [← was_eq]
    exact if_pos ((Destination.isTrigger_iff _).mpr d)
  have used (no : ¬free) : (s.entry n).state ≠ .free := no
  have acts_used (act : acts) : (s.entry n).state ≠ .free := by
    rcases act with state | state
    all_goals exact fun no => nomatch state.symm.trans no
  refine ⟨fun wrong => run rfl ?_, fun ok act => run rfl ?_, fun ok is_free d => ?_, fun ok is_free d => ?_,
    fun ok rest d new => ?_, fun ok rest d old => ?_, fun ok rest d => ?_,
    fun is_free => ⟨run rfl (unlessFree_free is_free _), run rfl (unlessFree_free is_free _),
      run rfl (unlessFree_free is_free _), run rfl (unlessFree_free is_free _)⟩,
    fun no => run rfl (unlessFree_used (used no) _), fun act crossed => run rfl ?_, fun no kept => run rfl ?_,
    fun no => run rfl ?_, fun no => run rfl ?_, fun no => run rfl ?_, fun no unknown => run rfl ?_,
    fun no old => run rfl ?_, fun no new => run rfl ?_⟩
  · have none : readRoute a b k i = none := by
      refine readRoute_bad ?_
      rcases wrong with h | h | h | h
      · exact .inl h
      · exact .inr (.inl h)
      · exact .inr (.inr (.inl h))
      · exact .inr (.inr (.inr (readDestination_bad h)))
    simp only [listenSetRoute, none]
  · rcases act with state | state
    all_goals simp only [listenSetRoute, reads ok, show (s.entry n).state = _ from state]
  · refine (set_free ok is_free).trans ?_
    rw [show e.routed r = _ from if_pos ((Destination.isTrigger_iff _).mpr d)]
  · refine (set_free ok is_free).trans ?_
    rw [show e.routed r = _ from if_neg fun yes => d ((Destination.isTrigger_iff _).mp yes)]
  · refine (set_resting ok rest).trans ?_
    rw [rerouted d, if_neg (by rw [new]; decide)]
  · refine (set_resting ok rest).trans ?_
    rw [rerouted d, if_pos old]
  · refine (set_resting ok rest).trans ?_
    rw [show e.rerouted r = _ from if_neg fun yes => d ((Destination.isTrigger_iff _).mp yes)]
  · exact (unlessFree_used (acts_used act) _).trans (if_pos ⟨(Entry.acting_iff _).mpr act, crossed⟩)
  · exact (unlessFree_used (used no) _).trans (if_neg fun h => kept ⟨(Entry.acting_iff _).mp h.1, h.2⟩)
  · exact unlessFree_used (used no) _
  · exact unlessFree_used (used no) _
  · exact unlessFree_used (used no) _
  · refine (unlessFree_used (used no) _).trans ?_
    simp only [readStaleAction_unknown unknown]
  · rw [listenSetTrigger_eq x (used no)]
    exact if_pos old
  · rw [listenSetTrigger_eq x (used no)]
    exact if_neg (by rw [show ((s.entry n).route.any fun r => r.dest.isTrigger) = false from new]; decide)

end Sys2Proof.Machine
end

section

/-! PROOF. The binding and the release of a listen entry's destination: the checks of Enable, the bind request of a port
and of a voice, the release request of a port, and the end of a pitch binding by the state of the voice (R19, R79, R103
to R105). -/

namespace Sys2Proof.Machine

/-! ### The checks of Enable (R103) -/

theorem listenEnable_refused {n : Fin 16} {r : Route} {z : Result} {s : State}
    (state : (s.entry n).state = .disabled ∨ (s.entry n).state = .suspended) (route : (s.entry n).route = some r)
    (refusal : enableRefusal n (s.entry n) r.dest s = some z) : listenEnable n s = refuse z s := by
  unfold listenEnable
  rcases state with is | is
  all_goals simp only [is, route, refusal]

theorem listenEnable_binds {n : Fin 16} {r : Route} {s : State}
    (state : (s.entry n).state = .disabled ∨ (s.entry n).state = .suspended) (route : (s.entry n).route = some r)
    (passes : enableRefusal n (s.entry n) r.dest s = none) :
    listenEnable n s = done (bindDestination n r.dest (s.setEntry n (s.entry n).enabled)) := by
  unfold listenEnable
  rcases state with is | is
  all_goals simp only [is, route, passes]

theorem destinationTaken_iff (n : Fin 16) (d : Destination) (s : State) : destinationTaken n d s = true ↔
    ∃ m, m ≠ n ∧ (s.entry m).acting = true ∧ ∃ r ∈ (s.entry m).route, d.conflicts r.dest = true := by
  unfold destinationTaken
  have all (m : Fin 16) : m ∈ sixteen := by revert m; decide
  rw [List.any_eq_true]
  refine exists_congr fun m => ?_
  rw [Bool.and_eq_true, Bool.and_eq_true, bne_iff_ne, and_assoc]
  refine ⟨fun ⟨_, ne, acts, hit⟩ => ⟨ne, acts, ?_⟩, fun ⟨ne, acts, r, route, hit⟩ => ⟨all m, ne, acts, ?_⟩⟩
  · split at hit
    next r route => exact ⟨r, route, hit⟩
    · exact absurd hit Bool.false_ne_true
  · rw [show (s.entry m).route = some r from route]
    exact hit

section
variable {n : Fin 16} {d : Destination} {s : State} {e : Entry}

theorem enableRefusal_range (crossed : e.upper < e.lower) : enableRefusal n e d s = some .badRange := if_pos crossed

theorem enableRefusal_halted (ordered : e.lower ≤ e.upper) (motor : d.motorPort.isSome = true)
    (still : s.isRunning = false) : enableRefusal n e d s = some .halted :=
  (if_neg (Int.not_lt.mpr ordered)).trans (if_pos ⟨motor, by rw [still]; decide⟩)

theorem enableRefusal_kind {p : Fin 4} (ordered : e.lower ≤ e.upper) (motor : d.motorPort = some p)
    (running : s.isRunning = true) (absent : (s.port p).kind = .none) : enableRefusal n e d s = some .wrongKind :=
  ((if_neg (Int.not_lt.mpr ordered)).trans (if_neg fun h => h.2 running)).trans
    (if_pos (by rw [motor, Option.any_some, absent]; rfl))

/-- R103: the checks that are left once a motor destination is a port of the station that runs. -/
theorem enableRefusal_motor {p : Fin 4} (ordered : e.lower ≤ e.upper) (motor : d.motorPort = some p)
    (running : s.isRunning = true) (present : (s.port p).kind ≠ .none) : enableRefusal n e d s =
      if destinationLacksEncoder d s then some .noEncoder
      else if destinationTaken n d s then some .destinationTaken else none :=
  ((if_neg (Int.not_lt.mpr ordered)).trans (if_neg fun h => h.2 running)).trans
    (if_neg (by rw [motor, Option.any_some, beq_iff_eq]; exact present))

/-- R103: the checks of a destination that is no port's. -/
theorem enableRefusal_other (ordered : e.lower ≤ e.upper) (other : d.motorPort = none) :
    enableRefusal n e d s = if destinationTaken n d s then some .destinationTaken else none := by
  have encoder : destinationLacksEncoder d s = false := by
    cases d <;> first | rfl | exact nomatch other
  refine ((if_neg (Int.not_lt.mpr ordered)).trans (if_neg (by rw [other]; exact fun h => nomatch h.1))).trans
    ((if_neg (by rw [other]; exact Bool.false_ne_true)).trans (if_neg ?_))
  rw [encoder]
  exact Bool.false_ne_true

end

/-- R103, Table 5-1: the destinations that need an encoder, and what takes it from the port. -/
theorem destinationLacksEncoder_iff {d : Destination} {p : Fin 4} {s : State} (motor : d.motorPort = some p) :
    destinationLacksEncoder d s = true ↔ (d = .motorSpeed p ∨ d = .motorPosition p)
      ∧ ((s.port p).kind = .plain ∨ (s.port p).encoderLost = true) := by
  cases d with
  | motorPower q => simp [destinationLacksEncoder]
  | motorSpeed q =>
    obtain rfl : q = p := Option.some.inj motor
    simp [destinationLacksEncoder]
  | motorPosition q =>
    obtain rfl : q = p := Option.some.inj motor
    simp [destinationLacksEncoder]
  | _ => exact nomatch motor

/-! ### The bind request of a port (R19) -/

/-- R19: the mode a motor destination binds its port in. -/
def Destination.boundMode (d : Destination) : Mode :=
  match d with
  | .motorPower _ => .power
  | .motorSpeed _ => .speed
  | _ => .position

theorem bindDestination_motor {d : Destination} {p : Fin 4} (motor : d.motorPort = some p) (n : Fin 16) (s : State) :
    bindDestination n d s = bindPort p n d.boundMode s := by
  unfold bindDestination
  cases d with
  | motorPower q | motorSpeed q | motorPosition q => rw [Option.some.inj motor] <;> rfl
  | _ => exact nomatch motor

theorem releaseDestination_motor {d : Destination} {p : Fin 4} (motor : d.motorPort = some p) (n : Fin 16) (s : State) :
    releaseDestination n d s = releasePort p n s := by
  unfold releaseDestination
  cases d with
  | motorPower q | motorSpeed q | motorPosition q => rw [Option.some.inj motor]
  | _ => exact nomatch motor

theorem Port.enter_speed_reference {x : Port} (other : x.mode ≠ .speed) :
    (x.enter .speed).reference = clampAbs 1500 x.speed := by
  unfold Port.enter
  rw [if_neg other]
  dsimp only
  split <;> rfl

theorem clampAbs_zero {m : Int} (h : 0 ≤ m) : clampAbs m 0 = 0 := clampI_of_mem (by omega) h

/-- The record of a port that an entry has bound, before its mode changes. -/
def Port.listening (n : Fin 16) (x : Port) : Port :=
  { x with source := .listen n, stallYielded := false, patternDone := false }

theorem Port.aim_entered_speed {x : Port} (other : x.mode ≠ .speed) :
    (x.enter .speed).aim (clampAbs 1500 x.speed) = { x.enter .speed with target := clampAbs 1500 x.speed } := by
  have reference := Port.enter_speed_reference other
  unfold Port.aim
  split
  · rw [← reference]
  · rfl

theorem Port.boundTo_same {m : Mode} {x : Port} (same : x.mode = m) (n : Fin 16) (c : Nat) :
    x.boundTo n m c = x.listening n := if_pos same

theorem Port.boundTo_power {x : Port} (other : x.mode ≠ .power) (n : Fin 16) (c : Nat) :
    x.boundTo n .power c = { (x.listening n).enter .power with target := 0, duty := 0, bridge := .driven } := by
  have still := clampAbs_zero (effLimit_nonneg c { (x.listening n).enter .power with target := 0 })
  refine (if_neg other).trans ?_
  show { (x.listening n).enter .power with
    target := 0, duty := clampAbs (effLimit c { (x.listening n).enter .power with target := 0 }) 0,
    bridge := .driven } = _
  rw [still]

theorem Port.boundTo_speed {x : Port} (other : x.mode ≠ .speed) (n : Fin 16) (c : Nat) :
    x.boundTo n .speed c = { (x.listening n).enter .speed with target := clampAbs 1500 x.speed } :=
  (if_neg other).trans (Port.aim_entered_speed (x := x.listening n) other)

theorem Port.boundTo_position {x : Port} (other : x.mode ≠ .position) (n : Fin 16) (c : Nat) :
    x.boundTo n .position c = { (x.listening n).enter .position with
      target := x.position,
      reference := if x.periodCode = 0 then x.position else ((x.listening n).enter .position).reference } := by
  refine (if_neg other).trans ?_
  show Port.aim x.position ((x.listening n).enter .position) = _
  have code : ((x.listening n).enter .position).periodCode = x.periodCode := (x.listening n).enter_periodCode .position
  unfold Port.aim
  by_cases direct : x.periodCode = 0
  · rw [if_pos direct, if_pos (code.trans direct)]
  · rw [if_neg direct, if_neg fun zero => direct (code.symm.trans zero)]

theorem Port.boundTo_fields (n : Fin 16) (m : Mode) (c : Nat) (x : Port) : (x.boundTo n m c).stallYielded = false
    ∧ (x.boundTo n m c).patternDone = false ∧ (x.boundTo n m c).encoderLost = x.encoderLost := by
  unfold Port.boundTo
  dsimp only
  split
  · exact ⟨rfl, rfl, rfl⟩
  · split <;> simp [Port.applyPower, Port.aim]

theorem bindPort_port (p : Fin 4) (n : Fin 16) (m : Mode) (s : State) :
    ((bindPort p n m s).port p).source = .listen n
      ∧ ((bindPort p n m s).port p).mode = ((s.port p).boundTo n m s.battery.ceiling).mode
      ∧ ((bindPort p n m s).port p).stallYielded = false ∧ ((bindPort p n m s).port p).patternDone = false := by
  have update := (noteEvents_updated p (s.port p) (putPort p ((s.port p).boundTo n m s.battery.ceiling) s)).port p
  have fields := (s.port p).boundTo_fields n m s.battery.ceiling
  rw [← bindPort_eq, putPort_port] at update
  obtain ⟨⟨_, _, _, _, eq⟩, -⟩ := update
  rw [eq]
  exact ⟨(s.port p).boundTo_source n m _, rfl, fields.1, fields.2.1⟩

theorem bindPort_quiet {p : Fin 4} {s : State} (stall : (s.port p).stallYielded = false)
    (pattern : (s.port p).patternDone = false) (n : Fin 16) (m : Mode) :
    bindPort p n m s = putPort p ((s.port p).boundTo n m s.battery.ceiling) s := by
  obtain ⟨yielded, finished, lost⟩ := (s.port p).boundTo_fields n m s.battery.ceiling
  rw [bindPort_eq, noteEvents_same]
  · rw [putPort_port, finished, pattern]
  · rw [putPort_port, yielded, stall]
  · rw [putPort_port, lost]

/-! ### The release request of a port (R19, R104) -/

/-- R19: the record of a port that its entry releases. -/
def Port.released (x : Port) : Port := { x.enter .coast with source := .command }

theorem releasePort_bound {p : Fin 4} {n : Fin 16} {s : State} (source : (s.port p).source = .listen n) :
    releasePort p n s = testHalted (putPort p (s.port p).released s) := if_pos source

theorem releasePort_other {p : Fin 4} {n : Fin 16} {s : State} (source : (s.port p).source ≠ .listen n) :
    releasePort p n s = s := if_neg source

theorem testHalted_other {s : State} (other : s.halt.state ≠ .halting) : testHalted s = s :=
  if_neg fun h => other h.1

theorem getBits_haltWord (h : Halt) (w : Int) : getBits 0 2 (haltWord h w) = h.state.code := by
  unfold haltWord
  have small : h.state.code < 2 ^ 2 := by cases h.state <;> decide
  rw [getBits_putBits_other (by decide) (by decide), getBits_putBits_same (by decide) small]

/-- R125: the last port that settles ends Halting. -/
theorem testHalted_ends {s : State} (halting : s.halt.state = .halting) (settled : s.AllSettled) :
    (testHalted s).halt.state = .halted ∧ (testHalted s).halt.safeTimer = none
      ∧ getBits 0 2 ((testHalted s).signal 15).value = 2 := by
  have halt := (testHalted_halt s).1 halting settled
  refine ⟨by rw [halt], by rw [halt], ?_⟩
  have eq : testHalted s = writeHaltWord (s.setHalt { s.halt with state := .halted, safeTimer := none }) :=
    if_pos ⟨halting, (allSettled_iff s).mpr settled⟩
  rw [eq, writeHaltWord, updateSignal_15_bits _ _ (by decide) (by decide), getBits_haltWord]
  rfl

/-- The port-settled flags after the report of a port that has settled. -/
theorem putPort_allSettled {p : Fin 4} {x : Port} (settles : x.mode.settled = true) (s : State) :
    (putPort p x s).AllSettled ↔ ∀ q, q ≠ p → s.halt.settled[q] = true := by
  unfold State.AllSettled
  refine forall_congr' fun q => ?_
  rw [putPort_settled]
  split
  next same => simp [settles, same]
  next other => exact ⟨fun h _ => h, fun h => h fun same => other same.symm⟩

/-! ### A voice that is bound (R79) -/

theorem cutNote_sounding {v : Fin 3} {n : Note} {s : State} (sound : (s.voice v).sound = some (.note n))
    (state : (s.voice v).state = .attack ∨ (s.voice v).state = .sustain) :
    cutNote v s = if n.rest then endSound v s else enterRelease v (s.voice v).releaseLevel s := by
  unfold cutNote
  simp only [sound]
  rw [if_pos state]

theorem cutNote_kept {v : Fin 3} {s : State} (other : ¬((s.voice v).state = .attack ∨ (s.voice v).state = .sustain)
    ∨ ∀ n, (s.voice v).sound ≠ some (.note n)) : cutNote v s = s := by
  unfold cutNote
  dsimp only
  split
  next n sound =>
    rcases other with state | none
    · exact if_neg state
    · exact absurd sound (none n)
  · rfl

theorem enterRelease_ends {v : Fin 3} {s : State} (release : (s.voice v).releaseMs = 0) (level : Nat) :
    enterRelease v level s = endSound v s := if_pos release

/-- R72: a sound that ends with none to follow leaves the voice Idle, which it reports. -/
theorem endSound_silent {v : Fin 3} {s : State} (none : nextSound s.isRunning (s.voice v).quiet = none) :
    (endSound v s).voice v = { (s.voice v).quiet with state := .idle }
      ∧ ((s.voice v).state ≠ .idle →
        (endSound v s).link = (tell 2 (.progress true (v.val + 1) (s.voice v).queue.length) s).link) := by
  have choice : nextSound (s.setVoice v (s.voice v).quiet).isRunning ((s.setVoice v (s.voice v).quiet).voice v) = .none := by
    rw [State.voice_setVoice]
    exact none
  have eq : endSound v s = becomeIdle v (s.setVoice v (s.voice v).quiet) := chooseSound_none choice
  refine ⟨?_, fun sounds => ?_⟩
  · rw [eq, becomeIdle_voice, State.voice_setVoice]
    rfl
  · rw [eq, becomeIdle_link, State.voice_setVoice]
    rw [if_neg (show (s.voice v).quiet.state ≠ .idle from sounds)]
    exact tell_link (by rfl) _ _

/-- R79: a pitch-bound voice without a bound pitch has no sound to start. -/
theorem nextSound_unbound {x : Voice} {n : Fin 16} (listens : x.pitchSource = .listen n) (absent : x.boundPitch = none)
    (running : Bool) : nextSound running x = none := by
  unfold nextSound
  cases running
  · rfl
  · simp [listens, absent]

/-! ### The end of a pitch binding (R79) -/

/-- The voice has no sound to end, or its tone ends with the command itself (R74). -/
def Voice.Chooses (x : Voice) : Prop := x.state = .idle
  ∨ ((x.sound = some .tone ∧ (x.state = .attack ∨ x.state = .sustain)) ∧ x.releaseMs = 0)

/-- A Tone or a Rest at its start. -/
theorem Voice.start_note_state (n : Note) (x : Voice) :
    (x.start (.note n)).state = if n.rest = true ∨ x.attackMs = 0 then .sustain else .attack := by
  unfold Voice.start
  dsimp only
  cases n.rest with
  | true => rw [if_pos rfl, if_pos (.inl rfl)]
  | false =>
    rw [if_neg Bool.false_ne_true]
    simp only [Bool.false_eq_true, false_or]
    split <;> rfl

theorem cutTone_tone {v : Fin 3} {s : State} (tone : (s.voice v).sound = some .tone
    ∧ ((s.voice v).state = .attack ∨ (s.voice v).state = .sustain)) :
    cutTone v s = enterRelease v (s.voice v).releaseLevel s := if_pos tone

theorem Voice.sounds_not_idle {x : Voice} (state : x.state = .attack ∨ x.state = .sustain) : x.state ≠ .idle := by
  rcases state with is | is
  all_goals exact fun no => nomatch is.symm.trans no

section
variable {v : Fin 3} {n : Note} {notes : List Note} {s : State}

/-- R70, R79: at the end of a binding a voice with notes waits for a gate that is not On. -/
theorem bindingEnded_waits (own : (s.voice v).pitchSource = .own) (queue : (s.voice v).queue = n :: notes)
    (running : s.isRunning = true) (chooses : (s.voice v).Chooses) (shut : s.audio.gate ≠ .on) :
    bindingEnded v s = requestClock v (s.setVoice v { (s.voice v).quiet with state := .waiting }) := by
  rcases chooses with idle | ⟨tone, release⟩
  · rw [bindingEnded_idle idle (by rw [queue]; exact List.cons_ne_nil _ _)]
    refine chooseSound_waits (snd := .note n) ?_ (.inl idle)
    rw [running]
    exact nextSound_note own queue
  · rw [bindingEnded_sounding (Voice.sounds_not_idle tone.2), cutTone_tone tone, enterRelease_ends release]
    have choice : nextSound (s.setVoice v (s.voice v).quiet).isRunning ((s.setVoice v (s.voice v).quiet).voice v)
        = some (.note n) := by
      rw [State.voice_setVoice]
      exact (congrArg (nextSound · (s.voice v).quiet) running).trans (nextSound_note (x := (s.voice v).quiet) own queue)
    have eq : endSound v s = enterWaiting v (s.setVoice v (s.voice v).quiet) := chooseSound_waits choice (.inr shut)
    rw [eq, enterWaiting, State.voice_setVoice, State.setVoice_setVoice]
    rfl

/-- R72, R79: at the end of a binding a voice with notes starts the first while the gate is On. -/
theorem bindingEnded_starts (own : (s.voice v).pitchSource = .own) (queue : (s.voice v).queue = n :: notes)
    (running : s.isRunning = true) (chooses : (s.voice v).Chooses) (on : s.audio.gate = .on) :
    ((bindingEnded v s).voice v).sound = some (.note n) ∧ ((bindingEnded v s).voice v).queue = notes
      ∧ ((bindingEnded v s).voice v).state = if n.rest = true ∨ (s.voice v).attackMs = 0 then .sustain else .attack := by
  have started {y : Voice} {t : State} (voice : t.voice v = y) (eq : bindingEnded v s = startSound v (.note n) t)
      (same : y.queue = (s.voice v).queue) (attack : y.attackMs = (s.voice v).attackMs) :
      ((bindingEnded v s).voice v).sound = some (.note n) ∧ ((bindingEnded v s).voice v).queue = notes
        ∧ ((bindingEnded v s).voice v).state
          = if n.rest = true ∨ (s.voice v).attackMs = 0 then .sustain else .attack := by
    obtain ⟨sound, tail, -, -⟩ := y.start_note n
    rw [eq, startSound_voice, voice]
    exact ⟨sound, by rw [tail, same, queue]; rfl, by rw [y.start_note_state n, attack]⟩
  have chosen (y : Voice) (source : y.pitchSource = .own) (notes' : y.queue = n :: notes) :
      nextSound s.isRunning y = some (.note n) := by
    rw [running]
    exact nextSound_note source notes'
  rcases chooses with idle | ⟨tone, release⟩
  · refine started (y := { (s.voice v).quiet with state := .waiting })
      (t := (s.setVoice v { (s.voice v).quiet with state := .waiting }).setAudio { s.audio with stopTimer := none })
      (State.voice_setVoice ..) ?_ rfl rfl
    rw [bindingEnded_idle idle (by rw [queue]; exact List.cons_ne_nil _ _),
      chooseSound_waits (chosen _ own queue) (.inl idle), enterWaiting]
    refine (requestClock_on (s := s.setVoice v { (s.voice v).quiet with state := .waiting }) on v).trans ?_
    refine leaveWaiting_starts ?_
    rw [State.voice_setAudio_other, State.voice_setVoice]
    exact chosen { (s.voice v).quiet with state := .waiting } own queue
  · refine started (y := (s.voice v).quiet) (t := s.setVoice v (s.voice v).quiet) (State.voice_setVoice ..) ?_ rfl rfl
    rw [bindingEnded_sounding (Voice.sounds_not_idle tone.2), cutTone_tone tone, enterRelease_ends release]
    refine chooseSound_starts ?_ (by rw [State.voice_setVoice]; exact Voice.sounds_not_idle tone.2) on
    rw [State.voice_setVoice]
    exact chosen (s.voice v).quiet own queue

end

theorem bindingEnded_still {v : Fin 3} {s : State} (idle : (s.voice v).state = .idle) (still : s.isRunning = false)
    (notes : (s.voice v).queue ≠ []) : bindingEnded v s = s.setVoice v { (s.voice v).quiet with state := .idle } := by
  rw [bindingEnded_idle idle notes, chooseSound_none (by rw [still]; rfl)]
  exact if_pos idle

theorem bindingEnded_empty {v : Fin 3} {s : State} (idle : (s.voice v).state = .idle) (empty : (s.voice v).queue = []) :
    bindingEnded v s = s := (if_pos idle).trans (if_pos (by rw [empty]; rfl))

end Sys2Proof.Machine
end

section

/-! PROOF. Enable, Disable, Free and QueryEntry (O39). -/

namespace Sys2Proof.Machine

/-- R104, R105: Disable and Free of an acting entry: the entry first, then its destination. -/
theorem releaseEntry_acting {n : Fin 16} {r : Route} {e : Entry} (acts : e.acting = true) (route : e.route = some r)
    (s : State) : releaseEntry n e s = releaseDestination n r.dest s := by
  unfold releaseEntry
  simp only [route]
  exact if_pos acts

theorem releaseEntry_resting {n : Fin 16} {e : Entry} (rests : e.acting = false) (s : State) : releaseEntry n e s = s := by
  unfold releaseEntry
  split
  · exact if_neg (by rw [rests]; exact Bool.false_ne_true)
  · rfl

theorem releaseDestination_elsewhere {n : Fin 16} {d : Destination} {v : Fin 3} {s : State}
    (other : (d = .voicePitch v ∧ (s.voice v).pitchSource ≠ .listen n)
      ∨ (d = .voiceVolume v ∧ (s.voice v).volumeSource ≠ .listen n)) : releaseDestination n d s = s := by
  rcases other with ⟨rfl, source⟩ | ⟨rfl, source⟩
  · exact if_neg source
  · exact if_neg source

/-- Settles O39: the checks in their order, the bind and the release by their lemmas. -/
theorem enableDisableFree : Obligations.EnableDisableFree := by
  intro via n r p v note notes s awake e x enable disable free refused acts rests motor ordered running lacks taken on off
    passes y bound coasted w inAttackOrSustain tone level released silenced bind own waiting binds releases gives unbinds
    chooses elsewhere onPLL toldIdle shownAs route flag
  have run {c : Instr} {f : Fin 16 → State → Taken} {t : Taken} (block : blockOp c = some (via, atSixteen n.val f))
      (taken : f n s = t) : exec c s = ends (answered via t) := by
    rw [exec_of_blockOp block awake, atSixteen_val, taken]
  have acting (act : acts) : (s.entry n).acting = true := (Entry.acting_iff _).mpr act
  have used (act : acts) : (s.entry n).state ≠ .free := by
    rcases act with state | state
    all_goals exact fun no => nomatch state.symm.trans no
  have is_running (is : running) : s.isRunning = true := (isRunning_iff s).mpr is
  have not_running (no : ¬running) : s.isRunning = false := Bool.eq_false_iff.mpr fun is => no ((isRunning_iff s).mp is)
  have port (m : motor) : r.dest.motorPort = some p := by
    rcases m with d | d | d
    all_goals rw [d]; rfl
  have taken_iff : destinationTaken n r.dest s = true ↔ taken := destinationTaken_iff n r.dest s
  have lacks_iff (m : motor) : destinationLacksEncoder r.dest s = true ↔ lacks := destinationLacksEncoder_iff (port m)
  have refuses {z : Result} (rest : rests) (refusal : enableRefusal n e r.dest s = some z) : refused enable z :=
    run rfl (listenEnable_refused rest.1 rest.2 refusal)
  have binds_to (pass : passes) (none : enableRefusal n e r.dest s = none) :
      exec enable s = ends (answered via (done (bindDestination n r.dest (s.setEntry n on)))) :=
    run rfl (listenEnable_binds pass.1.1 pass.1.2 none)
  have free_pass {d : Destination} (pass : passes) (dest : r.dest = d) (other : d.motorPort = none) :
      exec enable s = ends (answered via (done (bindDestination n d (s.setEntry n on)))) := by
    have none : enableRefusal n e r.dest s = none :=
      (enableRefusal_other pass.2.1 (dest ▸ other)).trans (if_neg fun t => pass.2.2 (taken_iff.mp t))
    rw [← dest]
    exact binds_to pass none
  have releases_to (act : acts) (dest : e.route = some r) :
      exec disable s = ends (answered via (done (releaseDestination n r.dest (s.setEntry n off))))
        ∧ exec free s = ends (answered via (done (releaseDestination n r.dest (s.setEntry n Entry.fresh)))) := by
    refine ⟨run rfl ?_, run rfl ?_⟩
    · refine (unlessFree_used (used act) _).trans ?_
      rw [releaseEntry_acting (acting act) dest]
    · refine (if_neg (used act)).trans ?_
      rw [releaseEntry_acting (acting act) dest]
  have stays (act : acts) (dest : e.route = some r) (same : ∀ z, releaseDestination n r.dest (s.setEntry n z) = s.setEntry n z) :
      exec disable s = ends (answered via (done (s.setEntry n off)))
        ∧ exec free s = ends (answered via (done (s.setEntry n Entry.fresh))) := by
    have both := releases_to act dest
    rwa [same, same] at both
  have bound_eq (m : motor) : x.boundTo n r.dest.boundMode s.battery.ceiling = bound := by
    rcases m with d | d | d
    · simp only [bound, d, Destination.boundMode, if_true]
      by_cases same : x.mode = .power
      · rw [if_pos same, Port.boundTo_same same]
        rfl
      · rw [if_neg same, Port.boundTo_power same]
        rfl
    · simp only [bound, d, Destination.boundMode, reduceCtorEq, if_false, if_true]
      by_cases same : x.mode = .speed
      · rw [if_pos same, Port.boundTo_same same]
        rfl
      · rw [if_neg same, Port.boundTo_speed same]
        rfl
    · simp only [bound, d, Destination.boundMode, reduceCtorEq, if_false]
      by_cases same : x.mode = .position
      · rw [if_pos same, Port.boundTo_same same]
        rfl
      · rw [if_neg same, Port.boundTo_position same]
        rfl
  have stands (z : Entry) (k : Voice) : ((s.setEntry n z).setVoice v k).voice v = k := State.voice_setVoice ..
  have pitch_bind (pass : passes) (dest : r.dest = .voicePitch v) : exec enable s
      = ends (answered via (done (cutNote v ((s.setEntry n on).setVoice v (bind w))))) := free_pass pass dest rfl
  have cut_ends (pass : passes) (dest : r.dest = .voicePitch v) (state : inAttackOrSustain)
      (sound : w.sound = some (.note note)) (ends_now : note.rest = true ∨ w.releaseMs = 0) :
      cutNote v ((s.setEntry n on).setVoice v (bind w)) = endSound v ((s.setEntry n on).setVoice v (bind w)) := by
    rw [cutNote_sounding (n := note) (by rw [stands]; exact sound) (by rw [stands]; exact state)]
    split
    · rfl
    next tone =>
      refine enterRelease_ends ?_ _
      rw [stands]
      exact ends_now.resolve_left tone
  -- the ends of a pitch binding
  have pitch (u : unbinds) (P : State → State → Prop)
      (all : ∀ z, P (s.setEntry n z) (bindingEnded v ((s.setEntry n z).setVoice v (own w)))) :
      releases fun t o => ∃ t', o = ends (answered via (done t')) ∧ P t t' := by
    obtain ⟨act, dest, is, source⟩ := u
    have both := releases_to act dest
    have at_end (z : Entry) : releaseDestination n r.dest (s.setEntry n z)
        = bindingEnded v ((s.setEntry n z).setVoice v (own w)) := by
      rw [is]
      exact if_pos source
    rw [at_end, at_end] at both
    exact ⟨⟨_, both.1, all off⟩, ⟨_, both.2, all Entry.fresh⟩⟩
  have gives_of {k : Voice} (u : unbinds)
      (all : ∀ z, bindingEnded v ((s.setEntry n z).setVoice v (own w)) = (s.setEntry n z).setVoice v k) : gives k := by
    obtain ⟨⟨_, run, eq⟩, ⟨_, run', eq'⟩⟩ := pitch u (fun t t' => t' = t.setVoice v k) all
    exact ⟨by rw [run, eq], by rw [run', eq']⟩
  have choose (c : chooses) : (own w).Chooses := by
    rcases c.1 with idle | h
    · exact .inl idle
    · exact .inr h
  have waits (u : unbinds) (c : chooses) (shut : s.audio.gate ≠ .on) (z : Entry) :
      bindingEnded v ((s.setEntry n z).setVoice v (own w)) = requestClock v ((s.setEntry n z).setVoice v waiting) := by
    refine (bindingEnded_waits (n := note) (notes := notes)
      (s := (s.setEntry n z).setVoice v (own w)) (by rw [stands]) (by rw [stands]; exact c.2.2)
      (is_running c.2.1) (by rw [stands]; exact choose c) shut).trans ?_
    rw [stands, State.setVoice_setVoice]
    rfl
  refine ⟨fun is_free => ?_, fun act => run rfl ?_, fun rest crossed => refuses rest (enableRefusal_range (Int.not_le.mp crossed)),
    fun rest ok m no => refuses rest (enableRefusal_halted ok (by rw [port m]; rfl) (not_running no)),
    fun rest ok m is none => refuses rest (enableRefusal_kind ok (port m) (is_running is) none),
    fun rest ok m is some lack => ?_, fun rest ok m is some has own => ?_, fun rest ok d own => ?_,
    fun pass m is some has => ?_, fun pass d state sound tone release => ?_, fun pass d state sound ends_now => ?_,
    fun pass d other => ?_, fun pass d => ?_, fun pass d => ?_, fun rest => ?_, fun act dest m source other => ?_,
    fun act dest m source halting => ?_, fun act dest m source => ?_, fun act dest d source => ?_,
    fun u sounds other => gives_of u fun z => ?_, fun u is release => gives_of u fun z => ?_,
    fun u is release last => ?_, fun u idle empty => gives_of u fun z => ?_, fun u idle no some => gives_of u fun z => ?_,
    fun u c shut => gives_of u fun z => ?_, fun u c off pll => ?_, fun u c gate => ?_, fun act dest other => ?_,
    fun act dest d => ?_, ?_⟩
  · exact ⟨run rfl (by simp only [listenEnable, show (s.entry n).state = .free from is_free]),
      run rfl (unlessFree_free is_free _), run rfl (if_pos is_free)⟩
  · unfold listenEnable
    rcases act with state | state
    all_goals simp only [show (s.entry n).state = _ from state]
  · exact refuses rest ((enableRefusal_motor ok (port m) (is_running is) some).trans (if_pos ((lacks_iff m).mpr lack)))
  · exact refuses rest (((enableRefusal_motor ok (port m) (is_running is) some).trans
      (if_neg fun l => has ((lacks_iff m).mp l))).trans (if_pos (taken_iff.mpr own)))
  · refine refuses rest ((enableRefusal_other ok ?_).trans (if_pos (taken_iff.mpr own)))
    rcases d with d | d
    all_goals rw [d]; rfl
  · have none : enableRefusal n e r.dest s = none :=
      ((enableRefusal_motor pass.2.1 (port m) (is_running is) some).trans (if_neg fun l => has ((lacks_iff m).mp l))).trans
        (if_neg fun t => pass.2.2 (taken_iff.mp t))
    have run := binds_to pass none
    rw [bindDestination_motor (port m)] at run
    obtain ⟨source, mode, stall, pattern⟩ := bindPort_port p n r.dest.boundMode (s.setEntry n on)
    refine ⟨_, run, source, ?_, stall, pattern, fun quiet rest => ?_⟩
    · rw [mode]
      exact congrArg Port.mode (bound_eq m)
    · rw [bindPort_quiet (s := s.setEntry n on) quiet rest]
      exact congrArg (putPort p · (s.setEntry n on)) (bound_eq m)
  · refine (pitch_bind pass d).trans ?_
    rw [cutNote_sounding (n := note) (by rw [stands]; exact sound) (by rw [stands]; exact state),
      if_neg (by rw [tone]; exact Bool.false_ne_true), enterRelease_sets (by rw [stands]; exact release), stands,
      State.setVoice_setVoice]
    rfl
  · have none : nextSound ((s.setEntry n on).setVoice v (bind w)).isRunning
        (((s.setEntry n on).setVoice v (bind w)).voice v).quiet = none := by
      rw [stands]
      exact nextSound_unbound (x := (bind w).quiet) rfl rfl _
    obtain ⟨voice, link⟩ := endSound_silent none
    refine ⟨_, pitch_bind pass d, ?_, ?_, ?_⟩
    · unfold State.entry
      rw [cut_ends pass d state sound ends_now, (endSound_acts v _).kept.entries]
      exact State.entry_setEntry ..
    · rw [cut_ends pass d state sound ends_now, voice, stands]
      rfl
    · rw [cut_ends pass d state sound ends_now, link (by rw [stands]; exact Voice.sounds_not_idle state), stands]
      exact tell_link (by rfl) _ _
  · refine (pitch_bind pass d).trans ?_
    rw [cutNote_kept]
    rw [stands]
    exact other
  · exact free_pass pass d rfl
  · exact free_pass pass d rfl
  · have still : (s.entry n).acting = false := by
      rcases rest with state | state
      all_goals rw [Entry.acting, show (s.entry n).state = _ from state]; rfl
    have in_use : (s.entry n).state ≠ .free := by
      rcases rest with state | state
      all_goals exact fun no => nomatch state.symm.trans no
    refine ⟨run rfl ?_, run rfl ?_⟩
    · refine (unlessFree_used in_use _).trans ?_
      rw [releaseEntry_resting still]
    · refine (if_neg in_use).trans ?_
      rw [releaseEntry_resting still]
  · have both := releases_to act dest
    have at_port (z : Entry) : releaseDestination n r.dest (s.setEntry n z) = putPort p coasted (s.setEntry n z) := by
      rw [releaseDestination_motor (port m), releasePort_bound (s := s.setEntry n z) source]
      exact testHalted_other other
    rwa [at_port, at_port] at both
  · have both := releases_to act dest
    have at_port (z : Entry) : releaseDestination n r.dest (s.setEntry n z)
        = testHalted (putPort p coasted (s.setEntry n z)) := by
      rw [releaseDestination_motor (port m), releasePort_bound (s := s.setEntry n z) source]
      rfl
    have settles : coasted.mode.settled = true := congrArg Mode.settled (x.enter_mode .coast)
    have fields (z : Entry) : (testHalted (putPort p coasted (s.setEntry n z))).port p = coasted
        ∧ (testHalted (putPort p coasted (s.setEntry n z))).halt.settled[p] = true := by
      rw [testHalted_port, putPort_port, (testHalted_from _).settled, putPort_settled, if_pos rfl]
      exact ⟨rfl, settles⟩
    have entry (z : Entry) (age : z.acting = false) :
        (testHalted (putPort p coasted (s.setEntry n z))).entry n = z := by
      have placed : (putPort p coasted (s.setEntry n z)).entry n = z := State.entry_setEntry ..
      have offered := (testHalted_from (putPort p coasted (s.setEntry n z))).entry n
      rw [placed] at offered
      exact offered.still age
    have all := putPort_allSettled (p := p) settles
    rw [at_port, at_port] at both
    refine ⟨⟨_, both.1, entry off rfl, (fields off).1, (fields off).2, fun others => ?_, fun more => ?_⟩,
      _, both.2, entry Entry.fresh rfl, fields Entry.fresh⟩
    · exact testHalted_ends halting ((all _).mpr others)
    · obtain ⟨q, ne, unsettled⟩ := more
      refine if_neg fun h => ?_
      have settled := (all _).mp ((allSettled_iff _).mp h.2) q ne
      exact absurd (unsettled.symm.trans settled) Bool.false_ne_true
  · refine stays act dest fun z => ?_
    rw [releaseDestination_motor (port m)]
    exact releasePort_other source
  · have both := releases_to act dest
    rw [d] at both
    have at_voice (z : Entry) : releaseDestination n (.voiceVolume v) (s.setEntry n z)
        = (s.setEntry n z).setVoice v { s.voice v with volumeSource := .own } := if_pos source
    rwa [at_voice, at_voice] at both
  · rw [bindingEnded_sounding (by rw [stands]; exact sounds), cutTone_kept]
    rw [stands]
    exact other
  · rw [bindingEnded_sounding (by rw [stands]; exact Voice.sounds_not_idle is.2), cutTone_tone (by rw [stands]; exact is),
      enterRelease_sets (by rw [stands]; exact release), stands, State.setVoice_setVoice]
    rfl
  · have silent (z : Entry) : nextSound ((s.setEntry n z).setVoice v (own w)).isRunning
        (((s.setEntry n z).setVoice v (own w)).voice v).quiet = none := by
      rw [stands]
      rcases last with empty | no
      · exact nextSound_empty (x := (own w).quiet) rfl empty _
      · exact congrArg (nextSound · (own w).quiet) (not_running no)
    have ended (z : Entry) : bindingEnded v ((s.setEntry n z).setVoice v (own w))
        = endSound v ((s.setEntry n z).setVoice v (own w)) := by
      rw [bindingEnded_sounding (by rw [stands]; exact Voice.sounds_not_idle is.2), cutTone_tone (by rw [stands]; exact is),
        enterRelease_ends (by rw [stands]; exact release)]
    refine pitch u (fun t t' => t'.entry n = t.entry n ∧ t'.voice v = { silenced (own w) with state := .idle }
      ∧ t'.link = toldIdle.link) fun z => ?_
    obtain ⟨voice, link⟩ := endSound_silent (silent z)
    rw [ended]
    refine ⟨?_, ?_, ?_⟩
    · unfold State.entry
      rw [(endSound_acts v _).kept.entries]
      rfl
    · rw [voice, stands]
      rfl
    · rw [link (by rw [stands]; exact Voice.sounds_not_idle is.2), stands]
      exact tell_link (by rfl) _ _
  · exact bindingEnded_empty (by rw [stands]; exact idle) (by rw [stands]; exact empty)
  · rw [bindingEnded_still (s := (s.setEntry n z).setVoice v (own w)) (by rw [stands]; exact idle) (not_running no)
      (by rw [stands]; exact some), stands, State.setVoice_setVoice]
    rfl
  · rw [waits u c (by rcases shut with gate | gate; exacts [by rw [gate]; decide, by rw [gate.1]; decide]) z]
    rcases shut with starting | ⟨off, pll⟩
    · exact requestClock_starting (s := (s.setEntry n z).setVoice v waiting) starting v
    · exact (requestClock_off (s := (s.setEntry n z).setVoice v waiting) off v).trans (if_neg pll)
  · have shut : s.audio.gate ≠ .on := by rw [off]; decide
    have at_clock (z : Entry) : bindingEnded v ((s.setEntry n z).setVoice v (own w))
        = ((s.setEntry n z).setVoice v waiting).setAudio { s.audio with gate := .starting, startTimer := some 2 } :=
      (waits u c shut z).trans ((requestClock_off (s := (s.setEntry n z).setVoice v waiting) off v).trans (if_pos pll))
    obtain ⟨⟨_, run, eq⟩, ⟨_, run', eq'⟩⟩ := pitch u (fun t t' => t' = (t.setVoice v waiting).setAudio
      { s.audio with gate := .starting, startTimer := .some 2 }) at_clock
    exact ⟨by rw [run, eq], by rw [run', eq']⟩
  · refine pitch u (fun t t' => t'.entry n = t.entry n ∧ (t'.voice v).sound = some (.note note)
      ∧ (t'.voice v).queue = notes ∧ (t'.voice v).pitchSource = .own
      ∧ (t'.voice v).state = if note.rest = true ∨ w.attackMs = 0 then .sustain else .attack) fun z => ?_
    have acts := bindingEnded_acts v ((s.setEntry n z).setVoice v (own w))
    obtain ⟨sound, left, state⟩ := bindingEnded_starts (n := note) (notes := notes)
      (s := (s.setEntry n z).setVoice v (own w)) (by rw [stands]) (by rw [stands]; exact c.2.2) (is_running c.2.1)
      (by rw [stands]; exact choose c) gate
    rw [stands] at state
    refine ⟨?_, sound, left, ?_, state⟩
    · unfold State.entry
      rw [acts.kept.entries]
      rfl
    · obtain ⟨k, _, _, eq, same, -⟩ := acts
      rw [eq]
      show ((State.setVoice _ v k).voice v).pitchSource = _
      rw [State.voice_setVoice, same.pitchSource, stands]
  · exact stays act dest fun z => releaseDestination_elsewhere other
  · refine stays act dest fun z => ?_
    rw [d]
    rfl
  · refine run rfl ?_
    have state : (e.state.code : Int) = match e.state with
        | .free => 0 | .disabled => 1 | .enabled => 2 | .stale => 3 | .suspended => 4 := by
      cases e.state <;> rfl
    have stale : (e.staleAction.code : Int) = if e.staleAction = .hold then 0 else 1 := by
      cases e.staleAction <;> rfl
    have weighed (b : Bool) (weight : Nat) : weight * boolNat b = flag b weight := by
      cases b
      · exact Nat.mul_zero _
      · exact Nat.mul_one _
    have flags : e.queryFlags = flag e.armed 1 + flag e.age.isSome 2 + flag e.route.isSome 4 + flag e.fallback.isSome 8
        + flag e.trigger.isSome 16 + flag e.lastInput.isSome 32 + flag e.lastOutput.isSome 64 := by
      simp only [Entry.queryFlags, ← weighed, one_mul]
    show doneWith e.report s = _
    unfold Entry.report
    rw [state, stale, flags] <;> rfl

end Sys2Proof.Machine
end

section

/-! PROOF. The values that listen entries take: what a value does at a port, at a voice and at a trigger, and the age
timer (O41). -/

namespace Sys2Proof.Machine

/-! ### A value at a port (R18) -/

theorem valuePort_power {p : Fin 4} {n : Fin 16} {s : State} (source : (s.port p).source = .listen n)
    (running : s.isRunning = true) (mode : (s.port p).mode = .power) (v : Int) :
    valuePort p n v s = s.setPort p { s.port p with
      target := v, bridge := .driven,
      duty := clampAbs ((min (s.port p).dutyLimit s.battery.ceiling : Nat) : Int) v } := by
  refine (if_pos ⟨source, running⟩).trans ?_
  simp only [mode]
  rfl

theorem valuePort_ramped {p : Fin 4} {n : Fin 16} {s : State} (source : (s.port p).source = .listen n)
    (running : s.isRunning = true) (mode : (s.port p).mode = .speed ∨ (s.port p).mode = .position) (v : Int) :
    valuePort p n v s = s.setPort p { s.port p with
      target := v, reference := if (s.port p).periodCode = 0 then v else (s.port p).reference } := by
  refine (if_pos ⟨source, running⟩).trans ?_
  dsimp only
  split
  · simp_all
  · rfl
  · rfl
  next none speed position => exact absurd mode (not_or.mpr ⟨speed, position⟩)

theorem valuePort_refused {p : Fin 4} {n : Fin 16} {s : State}
    (other : s.isRunning = false ∨ (s.port p).source ≠ .listen n) (v : Int) : valuePort p n v s = s := by
  refine if_neg fun h => ?_
  rcases other with still | source
  · exact Bool.false_ne_true (still.symm.trans h.2)
  · exact source h.1

/-! ### A value at a voice (R79, R80) -/

section
variable {w : Fin 3} {n : Fin 16} {s : State}

theorem valueVolume_taken (source : (s.voice w).volumeSource = .listen n) (running : s.isRunning = true) (v : Int) :
    valueVolume w n v s = s.setVoice w { s.voice w with volumeScale := v.toNat } := if_pos ⟨source, running⟩

theorem valueVolume_refused (other : s.isRunning = false ∨ (s.voice w).volumeSource ≠ .listen n) (v : Int) :
    valueVolume w n v s = s := by
  refine if_neg fun h => ?_
  rcases other with still | source
  · exact Bool.false_ne_true (still.symm.trans h.2)
  · exact source h.1

theorem valuePitch_refused (other : s.isRunning = false ∨ (s.voice w).pitchSource ≠ .listen n) (v : Int) :
    valuePitch w n v s = s := by
  refine if_neg fun h => ?_
  rcases other with still | source
  · exact Bool.false_ne_true (still.symm.trans h.2)
  · exact source h.1

theorem valuePitch_sounding (source : (s.voice w).pitchSource = .listen n) (running : s.isRunning = true)
    (sound : (s.voice w).sound ≠ some .tone) (state : (s.voice w).state ≠ .idle) (v : Int) :
    valuePitch w n v s = s.setVoice w { s.voice w with boundPitch := some v.toNat } :=
  ((if_pos ⟨source, running⟩).trans (if_neg sound)).trans (if_neg state)

theorem valuePitch_begins (source : (s.voice w).pitchSource = .listen n) (running : s.isRunning = true)
    (sound : (s.voice w).sound ≠ some .tone) (state : (s.voice w).state = .idle) (v : Int) :
    valuePitch w n v s = enterWaiting w (s.setVoice w { s.voice w with boundPitch := some v.toNat }) := by
  refine (((if_pos ⟨source, running⟩).trans (if_neg sound)).trans (if_pos state)).trans ?_
  refine chooseSound_waits (snd := .tone) ?_ (.inl (by rw [State.voice_setVoice]; exact state))
  rw [State.voice_setVoice]
  show nextSound s.isRunning _ = _
  rw [running]
  unfold nextSound
  simp [source]

end

theorem Voice.start_tone_bound {x : Voice} {k : Nat} (bound : x.boundPitch = some k) :
    (x.start .tone).sound = some .tone ∧ (x.start .tone).inc = pitchIncrement (.number k)
      ∧ (x.start .tone).boundPitch = some k := by
  unfold Voice.start
  simp only [bound, and_self]

/-- R70, R79: a voice given the continuous tone waits for the clock, or starts while the gate is On. -/
theorem enterWaiting_tone {w : Fin 3} {n : Fin 16} {k : Nat} {s : State} (source : (s.voice w).pitchSource = .listen n)
    (running : s.isRunning = true) (bound : (s.voice w).boundPitch = some k) :
    (((enterWaiting w s).voice w).boundPitch = some k ∧ ((enterWaiting w s).voice w).state ≠ .idle)
      ∧ (s.audio.gate = .on → ((enterWaiting w s).voice w).sound = some .tone
        ∧ ((enterWaiting w s).voice w).inc = pitchIncrement (.number k))
      ∧ (s.audio.gate ≠ .on → ((enterWaiting w s).voice w).state = .waiting) := by
  have waits : ((s.setVoice w { (s.voice w).quiet with state := .waiting }).setAudio { s.audio with stopTimer := none }).voice w
      = { (s.voice w).quiet with state := .waiting } := State.voice_setVoice ..
  by_cases gate : s.audio.gate = .on
  · have eq : enterWaiting w s = startSound w .tone
        ((s.setVoice w { (s.voice w).quiet with state := .waiting }).setAudio { s.audio with stopTimer := none }) := by
      unfold enterWaiting
      refine (requestClock_on (s := s.setVoice w _) gate w).trans (leaveWaiting_starts ?_)
      refine (congrArg (nextSound s.isRunning) waits).trans ?_
      rw [running]
      unfold nextSound
      simp [Voice.quiet, source, bound]
    obtain ⟨sound, inc, pitch⟩ := Voice.start_tone_bound (x := { (s.voice w).quiet with state := .waiting }) bound
    rw [eq, startSound_voice, waits]
    refine ⟨⟨pitch, ?_⟩, fun _ => ⟨sound, inc⟩, fun no => absurd gate no⟩
    rcases Voice.start_state { (s.voice w).quiet with state := .waiting } .tone with state | state <;> simp [state]
  · rw [(enterWaiting_waits gate).1]
    exact ⟨⟨bound, by simp⟩, fun on => absurd on gate, fun _ => rfl⟩

/-! ### An output at its destination (R100, R101) -/

theorem sendOutput_motor {d : Destination} {p : Fin 4} (motor : d.motorPort = some p) (n : Fin 16) (out : Int) (s : State) :
    sendOutput n d out s = (valuePort p n out s, false) := by
  unfold sendOutput
  cases d with
  | motorPower q | motorSpeed q | motorPosition q => rw [Option.some.inj motor]
  | _ => exact nomatch motor

theorem valuePort_entries (p : Fin 4) (n : Fin 16) (v : Int) (s : State) : (valuePort p n v s).entries = s.entries := by
  unfold valuePort
  dsimp only
  split
  · split <;> rfl
  · rfl

theorem valueVolume_entries (w : Fin 3) (n : Fin 16) (v : Int) (s : State) : (valueVolume w n v s).entries = s.entries := by
  unfold valueVolume
  split <;> rfl

theorem valuePitch_entries (w : Fin 3) (n : Fin 16) (v : Int) (s : State) : (valuePitch w n v s).entries = s.entries := by
  unfold valuePitch
  dsimp only
  split
  · split
    · rfl
    · split
      · exact (chooseSound_acts w _).kept.entries
      · rfl
  · rfl

/-- R18, R79, R80: ports and voices take no value of a station that is not Running. -/
theorem sendOutput_still {d : Destination} {s : State} (other : d ≠ .goTrigger d.indexCode) (still : s.isRunning = false)
    (n : Fin 16) (out : Int) : sendOutput n d out s = (s, false) := by
  cases d with
  | motorPower p | motorSpeed p | motorPosition p => exact congrArg (·, false) (valuePort_refused (.inl still) out)
  | voicePitch w => exact congrArg (·, false) (valuePitch_refused (.inl still) out)
  | voiceVolume w => exact congrArg (·, false) (valueVolume_refused (.inl still) out)
  | goTrigger g => exact absurd rfl other

/-- R100: only a trigger changes its entry, and only a trigger's request can be refused. -/
theorem sendOutput_entries {d : Destination} (other : d ≠ .goTrigger d.indexCode) (n : Fin 16) (out : Int) (s : State) :
    (sendOutput n d out s).1.entries = s.entries ∧ (sendOutput n d out s).2 = false := by
  cases d with
  | motorPower p | motorSpeed p | motorPosition p => exact ⟨valuePort_entries p n out s, rfl⟩
  | voicePitch w => exact ⟨valuePitch_entries w n out s, rfl⟩
  | voiceVolume w => exact ⟨valueVolume_entries w n out s, rfl⟩
  | goTrigger g => exact absurd rfl other

section
variable {n : Fin 16} {out : Int} {z : Entry} {s : State}

/-- R101: an output at or above the level fires an armed trigger of a station that runs. -/
theorem goTrigger_fires (level : z.trigger.getD 0 ≤ out) (armed : z.armed = true) (running : s.isRunning = true) (g : Nat) :
    goTrigger n g out (s.setEntry n z)
      = ((goRequest g (s.setEntry n { z with armed := false })).1,
        !(goRequest g (s.setEntry n { z with armed := false })).2) := by
  have is : (s.setEntry n { z with armed := false }).isRunning = true := running
  unfold goTrigger
  rw [State.entry_setEntry]
  dsimp only
  rw [if_pos level, if_pos armed, State.setEntry_setEntry, if_pos is]

theorem goTrigger_held (level : z.trigger.getD 0 ≤ out) (armed : z.armed = true) (still : s.isRunning = false) (g : Nat) :
    goTrigger n g out (s.setEntry n z) = (s.setEntry n { z with armed := false }, false) := by
  have is : ¬(s.setEntry n { z with armed := false }).isRunning = true := fun h => Bool.false_ne_true (still.symm.trans h)
  unfold goTrigger
  rw [State.entry_setEntry]
  dsimp only
  rw [if_pos level, if_pos armed, State.setEntry_setEntry, if_neg is]

theorem goTrigger_spent (level : z.trigger.getD 0 ≤ out) (armed : z.armed = false) (g : Nat) :
    goTrigger n g out (s.setEntry n z) = (s.setEntry n z, false) := by
  unfold goTrigger
  rw [State.entry_setEntry]
  dsimp only
  rw [if_pos level, if_neg (by rw [armed]; exact Bool.false_ne_true)]

theorem goTrigger_arms (level : out < z.trigger.getD 0) (g : Nat) :
    goTrigger n g out (s.setEntry n z) = (s.setEntry n { z with armed := true }, false) := by
  unfold goTrigger
  rw [State.entry_setEntry]
  dsimp only
  rw [if_neg (Int.not_le.mpr level), State.setEntry_setEntry]

end

/-! ### The age timer (R102) -/

theorem exec_ageTimerExpiry {s : State} (awake : s.resetHeld = []) (n : Fin 16) : exec (.ageTimerExpiry n) s
    = ends (if (s.entry n).age.isSome then
      match (s.entry n).staleAction, (s.entry n).fallback, (s.entry n).route with
      | .fallback, some v, some r =>
        writeFallback n r.dest v (s.setEntry n { s.entry n with state := .stale, age := none })
      | _, _, _ => s.setEntry n { s.entry n with state := .stale, age := none }
      else s) := by
  dsimp only [exec]
  exact State.whenAwake_awake awake _

theorem exec_ageTimerExpiry_hold {n : Fin 16} {s : State} (awake : s.resetHeld = []) (runs : (s.entry n).age.isSome = true)
    (hold : (s.entry n).staleAction = .hold) :
    exec (.ageTimerExpiry n) s = ends (s.setEntry n { s.entry n with state := .stale, age := none }) := by
  rw [exec_ageTimerExpiry awake, if_pos runs]
  simp only [hold]

/-- R102: the fallback goes through the destination's clamp alone. -/
theorem exec_ageTimerExpiry_falls {n : Fin 16} {r : Route} {v : Int} {s : State} (awake : s.resetHeld = [])
    (runs : (s.entry n).age.isSome = true) (falls : (s.entry n).staleAction = .fallback)
    (value : (s.entry n).fallback = some v) (route : (s.entry n).route = some r) :
    let t := sendOutput n r.dest (r.dest.clamp v) (s.setEntry n { s.entry n with
      state := .stale, age := none, lastOutput := some (r.dest.clamp v) })
    exec (.ageTimerExpiry n) s = ends (if t.2 then setStageMiss t.1 else t.1) := by
  rw [exec_ageTimerExpiry awake, if_pos runs]
  simp only [falls, value, route]
  unfold writeFallback
  simp only [State.entry_setEntry, State.setEntry_setEntry]

/-- Settles O41: the output at its destination, of a value taken and of a fallback. -/
theorem entryTakesValues : Obligations.EntryTakesValues := by
  intro n r src k i p w v fb s awake route e x running out taken given t mine level asked stale expiry late falls motor y
    pitched bound begun askedLate
  have takes : t = sendOutput n r.dest out given := by
    simp only [t, takeValue, route]
    rfl
  have falls_back (f : falls) {u : State × Bool} (sent : sendOutput n r.dest (r.dest.clamp fb) (s.setEntry n (late r.dest)) = u) :
      exec expiry s = ends (if u.2 then setStageMiss u.1 else u.1) := by
    rw [← sent]
    exact exec_ageTimerExpiry_falls awake f.1 f.2.1 f.2.2 route
  have quietly (f : falls) {u : State} (sent : sendOutput n r.dest (r.dest.clamp fb) (s.setEntry n (late r.dest)) = (u, false)) :
      exec expiry s = ends u := falls_back f sent
  have is_running (is : running) : s.isRunning = true := (isRunning_iff s).mpr is
  have not_running (no : ¬running) : s.isRunning = false := Bool.eq_false_iff.mpr fun is => no ((isRunning_iff s).mp is)
  have port (m : motor) : r.dest.motorPort = some p := by
    rcases m with d | d | d
    all_goals rw [d]; rfl
  have refused (m : motor) (no : ¬running ∨ x.source ≠ .listen n) (z : Entry) (o : Int) :
      sendOutput n r.dest o (s.setEntry n z) = (s.setEntry n z, false) := by
    rw [sendOutput_motor (port m), valuePort_refused (s := s.setEntry n z) (no.imp_left not_running)]
  have ramped (d : r.dest = .motorSpeed p ∨ r.dest = .motorPosition p) (source : x.source = .listen n) (is : running)
      (mode : x.mode = .speed ∨ x.mode = .position) (z : Entry) (o : Int) : sendOutput n r.dest o (s.setEntry n z)
        = ((s.setEntry n z).setPort p { x with
          target := o, reference := if x.periodCode = 0 then o else x.reference }, false) := by
    have set := valuePort_ramped (s := s.setEntry n z) source (is_running is) mode o
    rw [sendOutput_motor (port (.inr d)), set]
    rfl
  have powered (d : r.dest = .motorPower p) (source : x.source = .listen n) (is : running) (mode : x.mode = .power)
      (z : Entry) (o : Int) : sendOutput n r.dest o (s.setEntry n z) = ((s.setEntry n z).setPort p { x with
        target := o, bridge := .driven, duty := clampAbs ((min x.dutyLimit s.battery.ceiling : Nat) : Int) o }, false) := by
    have set := valuePort_power (s := s.setEntry n z) source (is_running is) mode o
    rw [sendOutput_motor (port (.inl d)), set]
    rfl
  have volume (d : r.dest = .voiceVolume w) (is : running) (source : y.volumeSource = .listen n) (z : Entry) (o : Int) :
      sendOutput n r.dest o (s.setEntry n z) = ((s.setEntry n z).setVoice w { y with volumeScale := o.toNat }, false) := by
    rw [d]
    exact congrArg (·, false) (valueVolume_taken (s := s.setEntry n z) source (is_running is) o)
  have tone (q : pitched) (sound : y.sound = some .tone) (z : Entry) (o : Int) : sendOutput n r.dest o (s.setEntry n z)
      = ((s.setEntry n z).setVoice w { y with
        boundPitch := some o.toNat, inc := pitchIncrement (.number o.toNat) }, false) := by
    rw [q.1]
    exact congrArg (·, false) (valuePitch_of_tone (s := s.setEntry n z) sound q.2.2 (is_running q.2.1) o)
  have begins (q : pitched) (sound : y.sound ≠ some .tone) (idle : y.state = .idle) (z : Entry) (o : Int) :
      ∃ u, sendOutput n r.dest o (s.setEntry n z) = (u, false) ∧ u.entry n = z ∧ begun u o := by
    obtain ⟨⟨bound, -⟩, tones⟩ := enterWaiting_tone (k := o.toNat) (n := n)
      (s := (s.setEntry n z).setVoice w { y with boundPitch := some o.toNat })
      (by rw [State.voice_setVoice]; exact q.2.2) (is_running q.2.1) (by rw [State.voice_setVoice])
    refine ⟨_, ?_, ?_, bound, tones⟩
    · rw [q.1]
      exact congrArg (·, false) (valuePitch_begins (s := s.setEntry n z) q.2.2 (is_running q.2.1) sound idle o)
    · unfold State.entry
      rw [(enterWaiting_acts w _).kept.entries]
      exact State.entry_setEntry ..
  have mine_iff : State.hears (some src) i s n ↔ mine := by
    rw [← listens_iff]
    unfold State.listens
    simp [route, mine, e]
  have trigger (d : r.dest = .goTrigger r.dest.indexCode) (z : Entry) (o : Int) :
      sendOutput n r.dest o (s.setEntry n z) = goTrigger n r.dest.indexCode o (s.setEntry n z) := by
    generalize r.dest.indexCode = g at d
    rw [d]
    rfl
  refine ⟨fun m => offerEntry_heard v (mine_iff.mpr m), fun no => offerEntry_unheard v fun h => no (mine_iff.mp h),
    fun other => ?_, fun d source is mode => ?_, fun d source is mode => ?_, fun m no => ?_, fun d is source => ?_,
    fun d source => ?_, fun q sound => ?_, fun q sound state => ?_, fun q sound idle => ?_, fun d source => ?_,
    fun d no => ?_, fun d over_level armed is => ?_, fun d over_level armed no => ?_, fun d over_level spent => ?_,
    fun d under => ?_, fun stopped => ?_, fun runs hold => exec_ageTimerExpiry_hold awake runs hold,
    fun f d source is mode => quietly f (ramped d source is mode _ _),
    fun f d source is mode => ?_, fun f no other => ?_,
    fun f m source => quietly f (refused m (.inr source) _ _), fun f d is source => ?_, fun f q sound => ?_,
    fun f q sound idle => ?_, fun f d under => ?_, fun f d over_level armed is => ?_, fun f d over_level armed no => ?_,
    fun f d over_level spent => ?_⟩
  · rw [takes]
    obtain ⟨entries, none⟩ := sendOutput_entries other n out given
    refine ⟨?_, entries, none⟩
    unfold State.entry
    rw [entries]
    exact State.entry_setEntry ..
  · rw [takes, powered d source is mode]
  · rw [takes, ramped d source is mode]
  · rw [takes, refused m (no.imp_left id)]
  · rw [takes, volume d is source]
  · rw [takes, d]
    exact valueVolume_refused (s := given) (.inr source) out
  · rw [takes, tone q sound]
  · rw [takes, q.1]
    exact valuePitch_sounding (s := given) q.2.2 (is_running q.2.1) sound state out
  · obtain ⟨u, sent, -, begun⟩ := begins q sound idle taken out
    rw [takes, sent]
    exact begun
  · rw [takes, d]
    exact valuePitch_refused (s := given) (.inr source) out
  · rw [takes]
    refine congrArg Prod.fst (sendOutput_still (s := given) ?_ (not_running no) n out)
    rcases d with d | d
    all_goals rw [d]; exact fun h => nomatch h
  · rw [takes, trigger d]
    exact goTrigger_fires (z := taken) over_level armed (is_running is) _
  · rw [takes, trigger d]
    exact goTrigger_held (z := taken) over_level armed (not_running no) _
  · rw [takes, trigger d]
    exact goTrigger_spent (z := taken) over_level spent _
  · rw [takes, trigger d]
    exact goTrigger_arms (z := taken) under _
  · rw [exec_ageTimerExpiry awake, if_neg]
    rw [show (s.entry n).age = none from stopped]
    exact Bool.false_ne_true
  · refine quietly f ((powered d source is mode _ _).trans ?_)
    rw [d]
    rfl
  · exact quietly f (sendOutput_still (s := s.setEntry n _) other (not_running no) n _)
  · refine quietly f ((volume d is source _ _).trans ?_)
    rw [d]
    rfl
  · refine quietly f ((tone q sound _ _).trans ?_)
    rw [q.1]
    rfl
  · obtain ⟨u, sent, entry, begun⟩ := begins q sound idle (late r.dest) (r.dest.clamp fb)
    rw [q.1] at begun
    exact ⟨u, quietly f sent, entry, begun⟩
  · refine quietly f ((trigger d _ _).trans ?_)
    exact goTrigger_arms (z := late r.dest) under _
  · refine (falls_back f ((trigger d _ _).trans (goTrigger_fires (z := late r.dest) over_level armed (is_running is) _))).trans ?_
    show ends (if (!askedLate.2) = true then setStageMiss askedLate.1 else askedLate.1) = _
    cases askedLate.2 <;> rfl
  · refine quietly f ((trigger d _ _).trans ?_)
    exact goTrigger_held (z := late r.dest) over_level armed (not_running no) _
  · refine quietly f ((trigger d _ _).trans ?_)
    exact goTrigger_spent (z := late r.dest) over_level spent _

end Sys2Proof.Machine
end

section

/-! PROOF. What halts and resumes leave of the staging list; what a staged command leaves of it, for each block but the
Staging block itself. -/

namespace Sys2Proof.Machine

/-! ### The staging list after a cause and a Resume -/

/-- The staging list is kept, or emptied (R117). -/
def StagingLeft (s t : State) : Prop := t.staging = s.staging ∨ t.staging = []

theorem StagingLeft.trans {s t u : State} (h : StagingLeft s t) (g : StagingLeft t u) : StagingLeft s u := by
  rcases g with same | empty
  · exact h.imp same.trans same.trans
  · exact .inr empty

theorem StagingLeft.same {s t u : State} (h : StagingLeft s t) (g : u.staging = t.staging) : StagingLeft s u :=
  h.imp g.trans g.trans

theorem halting_staging (c : CauseKind) (at_ : Option CausePort) (s : State) : (s.halting c at_).staging = [] := rfl

/-- R117: a halt entry empties the list. -/
theorem haltEntry_staging (c : CauseKind) (at_ : Option CausePort) (s : State) : (haltEntry c at_ s).staging = [] := by
  rw [haltEntry_eq, (testHalted_from _).staging, (told_halting c at_ s).1.kept.staging, halting_staging]

theorem furtherCause_staging (c : CauseKind) (at_ : Option CausePort) (s : State) :
    (furtherCause c at_ s).staging = s.staging := by
  refine foldl_keeps (I := fun t : State => t.staging = s.staging) (fun {t} p h => ?_) fourPorts ?_
  · split
    · exact (testHalted_from _).staging.trans h
    · exact h
  · dsimp only
    split <;> rfl

theorem giveCause_staging (c : CauseKind) (at_ : Option CausePort) (s : State) : StagingLeft s (giveCause c at_ s) := by
  unfold giveCause
  split
  · exact .inr (haltEntry_staging c at_ s)
  · exact .inl (furtherCause_staging c at_ s)

/-- R130, steps 1 to 3: the record cleared, the ports resumed, the motor entries suspended. -/
def State.resuming (s : State) : State :=
  sixteen.foldl suspendMotorEntry (fourPorts.foldl (fun s p => putPort p (s.port p).resume s) (s.setHalt { s.halt with
    state := .running, first := none, firstPort := none, further := [], safeTimer := none }))

/-- R130: the ports, the entries and the halt record are all that the first three steps reach. -/
theorem resuming_only (s : State) : ∃ ports entries settled, s.resuming = { s with
    ports := ports, entries := entries, halt := { s.halt with
      state := .running, first := none, firstPort := none, further := [], safeTimer := none, settled := settled } } := by
  have ports : ∃ ports settled, fourPorts.foldl (fun s p => putPort p (s.port p).resume s) (s.setHalt { s.halt with
      state := .running, first := none, firstPort := none, further := [], safeTimer := none }) = { s with
        ports := ports, halt := { s.halt with
          state := .running, first := none, firstPort := none, further := [], safeTimer := none, settled := settled } } :=
    foldl_keeps (I := fun t => ∃ ports settled, t = { s with
        ports := ports, halt := { s.halt with
          state := .running, first := none, firstPort := none, further := [], safeTimer := none, settled := settled } })
      (f := fun s p => putPort p (s.port p).resume s)
      (fun {t} p ⟨_, _, eq⟩ => by rw [eq]; exact ⟨_, _, rfl⟩) fourPorts ⟨s.ports, s.halt.settled, rfl⟩
  obtain ⟨ports, settled, eq⟩ := ports
  obtain ⟨entries, all⟩ := suspendMotorAll_only (fourPorts.foldl (fun s p => putPort p (s.port p).resume s)
    (s.setHalt { s.halt with state := .running, first := none, firstPort := none, further := [], safeTimer := none }))
  exact ⟨ports, entries, settled, by rw [State.resuming, all, eq]⟩

theorem resumeVoice_acts (v : Fin 3) (s : State) : VoiceActs v s (resumeVoice v s) := by
  unfold resumeVoice
  dsimp only
  split
  · exact ite_keeps (I := VoiceActs v s) (fun _ => chooseSound_acts v s) fun _ => .refl v s
  · exact .refl v s

theorem resumeVoices_kept (s : State) : VoiceKept s (threeVoices.foldl (fun s v => resumeVoice v s) s) :=
  foldl_keeps (I := VoiceKept s) (f := fun s v => resumeVoice v s)
    (fun {t} v h => h.trans (resumeVoice_acts v t).kept) threeVoices (.refl s)

/-- The end of a Resume: signal 15 and the notice. -/
theorem resumeStation_updated (s : State) :
    Updated (threeVoices.foldl (fun s v => resumeVoice v s) s.resuming) (resumeStation s) :=
  (writeHaltWord_updated _).trans (notify_updated 1 0 0 _)

theorem resumeStation_staging (s : State) : (resumeStation s).staging = s.staging := by
  obtain ⟨_, _, _, eq⟩ := resuming_only s
  rw [(resumeStation_updated s).kept.staging, (resumeVoices_kept _).staging, eq]

/-! ### The commands of the other blocks -/

/-- The row of the table that a command's characters name. -/
def instrOf (via : Via) (index : Nat) (a : List Byte) : CommandName → Instr
  | .coast => .coast via index
  | .brake => .brake via index
  | .setPower => .setPower via index (fieldS a 0 2)
  | .setSpeed => .setSpeed via index (fieldS a 0 2)
  | .setPosition => .setPosition via index (fieldS a 0 3)
  | .moveBy => .moveBy via index (fieldS a 0 3)
  | .setPattern => .setPattern via index (fieldU a 0 1) (fieldU a 1 1) (fieldU a 2 1)
  | .setPresets => .setPresets via index (fieldS a 0 3) (fieldS a 3 3)
  | .setRamp => .setRamp via index (fieldU a 0 1) (fieldU a 1 1)
  | .setGains => .setGains via index (fieldU a 0 1) (fieldU a 1 1) (fieldU a 2 1)
  | .setLimits => .setLimits via index (fieldU a 0 2) (fieldU a 2 2) (fieldU a 4 2) (fieldU a 6 1)
  | .setSafeAction => .setSafeAction via index (fieldU a 0 1)
  | .setArrival => .setArrival via index (fieldU a 0 1)
  | .zeroPosition => .zeroPosition via index (fieldS a 0 3)
  | .queryPort => .queryPort via index
  | .setFilter => .setFilter via index (fieldU a 0 1) (fieldU a 1 1) (fieldU a 2 1)
  | .setThresholds => .setThresholds via index (fieldU a 0 2) (fieldU a 2 2) (fieldU a 4 2) (fieldU a 6 1)
  | .setPolarity => .setPolarity via index (fieldU a 0 1)
  | .tune => .tune via index (fieldU a 0 2)
  | .setTuneRetry => .setTuneRetry via index (fieldU a 0 2)
  | .setHaltInput => .setHaltInput via index (fieldU a 0 1)
  | .querySensor => .querySensor via index
  | .note => .note via index (readNoteArgs a)
  | .clearVoice => .clearVoice via index
  | .setEnvelope => .setEnvelope via index (fieldU a 0 2) (fieldU a 2 2)
  | .setVoiceScale => .setVoiceScale via index (fieldU a 0 1)
  | .setMasterVolume => .setMasterVolume via index (fieldU a 0 1)
  | .queryVoice => .queryVoice via index
  | .setPublish => .setPublish via index (fieldU a 0 1) (fieldU a 1 2) (fieldU a 3 1)
  | .querySignal => .querySignal via index
  | .setEntryRoute => .setEntryRoute via index (fieldU a 0 1) (fieldU a 1 1) (fieldU a 2 1) (fieldU a 3 1)
  | .setEntryTransform => .setEntryTransform via index (fieldS a 0 2) (fieldS a 2 2)
  | .setEntryClamp => .setEntryClamp via index (fieldS a 0 2) (fieldS a 2 2)
  | .setEntryStale =>
    .setEntryStale via index (fieldU a 0 1) (fieldU a 1 1) (if a.length = 4 then some (fieldS a 2 2) else none)
  | .setEntryTrigger => .setEntryTrigger via index (fieldS a 0 2)
  | .enable => .enable via index
  | .disable => .disable via index
  | .free => .free via index
  | .queryEntry => .queryEntry via index
  | .stage => .stage via index (fieldU a 0 1 / 16) (fieldU a 0 1 % 16) (fieldU a 1 1) (a.drop 2)
  | .cancelGroup => .cancelGroup via index
  | .go => .go via index
  | .halt => .halt via index
  | .resume => .resume via index
  | .restart => .restart via index
  | .queryStation => .queryStation via index
  | .clockRetry => .clockRetry via index

theorem blockOp_instrOf (via : Via) (index : Nat) (a : List Byte) (c : CommandName) :
    blockOp (instrOf via index a c) = some (via, runCommand via c index a) := by
  cases c <;> rfl

/-- Each name of a command stands in the list of its block alone (Table 9-2). -/
theorem partsOf_instrOf (via : Via) (index : Nat) (a : List Byte) (c : CommandName) :
    ∃ P, partsOf (instrOf via index a c) = some P ∧ P.via = via
      ∧ ∀ block, c ∈ blockCommands block → P.block = block := by
  cases c
  all_goals
    refine ⟨_, rfl, rfl, fun block mem => ?_⟩
    obtain ⟨k, at_k⟩ := List.mem_iff_getElem?.mp mem
    obtain ⟨low, high⟩ := block_of_command at_k
    clear k at_k
    interval_cases block
  all_goals simp_all [blockCommands]

/-! ### What the commands leave of the staging list -/

theorem setActive_staging (p : Fin 4) (a : Bool) (s : State) : StagingLeft s (setActive p a s) := by
  rw [setActive_eq]
  have told : (s.toldActive p a).staging = s.staging := (toldActive_updated p a s).kept.staging
  split
  · exact (StagingLeft.same (.inl rfl) told).trans (giveCause_staging _ _ _)
  · exact .inl told

theorem startTune_staging (p : Fin 4) (s : State) : StagingLeft s (startTune p s) := by
  have released : StagingLeft s (if (s.sensor p).active then setActive p false s else s) := by
    split
    · exact setActive_staging p false s
    · exact .inl rfl
  exact released.same (writeSensorBits_updated p _).kept.staging

theorem sensorTaken_staging {kinds : List SensorKind} {p : Fin 4} {op : Sensor → State → Taken} {s : State}
    (h : ∀ x, StagingLeft s (op x s).1) : StagingLeft s (sensorTaken kinds p op s).1 := by
  unfold sensorTaken
  split
  · exact h _
  · exact .inl rfl

theorem blockOp_sensor_staging {c : Instr} {P : Parts} {op : State → Taken} (parts : partsOf c = some P)
    (block : blockOp c = some (P.via, op)) (sensor : P.block = 2) (s : State) : StagingLeft s (op s).1 := by
  have refl : StagingLeft s s := .inl rfl
  have set (p : Fin 4) (x : Sensor) : StagingLeft s (s.setSensor p x) := .inl rfl
  cases c
  all_goals cases parts
  all_goals cases sensor
  all_goals cases block
  all_goals refine atSensor_reaches refl (fun p => sensorTaken_staging fun x => ?_) _
  case setFilter => exact set p _
  case setThresholds => exact set p _
  case setPolarity =>
    split
    · exact refl
    · dsimp only [done]
      split
      · exact (set p _).trans (setActive_staging p false _)
      · exact set p _
  case tune =>
    split
    · exact refl
    · exact (set p _).trans (startTune_staging p _)
  case setTuneRetry => exact set p _
  case setHaltInput =>
    split
    · exact refl
    · dsimp only [done]
      split
      · exact (set p _).trans (giveCause_staging _ _ _)
      · exact set p _
  case querySensor => exact refl

theorem blockOp_halt_staging {c : Instr} {P : Parts} {op : State → Taken} (parts : partsOf c = some P)
    (block : blockOp c = some (P.via, op)) (halt : P.block = 7) (s : State) : StagingLeft s (op s).1 := by
  have refl : StagingLeft s s := .inl rfl
  cases c
  all_goals cases parts
  all_goals cases halt
  all_goals cases block
  all_goals refine atStation_reaches refl ?_ _
  case halt => exact doneWith_reaches _ (giveCause_staging .tabletHalt none s)
  case resume =>
    unfold haltResume
    split
    · exact refl
    · exact refl
    · split
      · exact done_reaches (R := StagingLeft) (.inl (resumeStation_staging s))
      · exact refl

theorem tell_staging (l : Fin 4) (m : OutMsg) (s : State) : (tell l m s).staging = s.staging :=
  (tell_told l m s).offered.updated.kept.staging

theorem beginReset_staging (k : ResetKind) (s : State) : (beginReset k s).staging = [] := by
  unfold beginReset
  dsimp only
  unfold readImage
  split <;> rfl

theorem blockOp_station_staging {c : Instr} {P : Parts} {op : State → Taken} (parts : partsOf c = some P)
    (block : blockOp c = some (P.via, op)) (station : P.block = 8) (s : State) : StagingLeft s (op s).1 := by
  have refl : StagingLeft s s := .inl rfl
  cases c
  all_goals cases parts
  all_goals cases station
  all_goals cases block
  all_goals refine atStation_reaches refl ?_ _
  case restart via _ =>
    unfold stationRestart
    split
    · exact refl
    · split
      · exact .inl (tell_staging _ _ _)
      · split
        · exact .inr (beginReset_staging .command s)
        · exact .inl (busReply_only _ _ _ (awaitRestart (.frame s.bus.nextStamp) s)).update.staging_eq
      · exact .inr (beginReset_staging .command s)
      · exact .inr (beginReset_staging .command s)
  case queryStation =>
    unfold stationQuery
    split
    · exact refl
    · exact refl
  case clockRetry =>
    unfold stationClockRetry
    split
    · exact refl
    · exact refl
    · exact refl
    · exact .inl rfl

/-- R115: a command of another block than Staging keeps the staging list, or empties it. -/
theorem runCommand_staging {via : Via} {c : CommandName} {block : Nat} (member : c ∈ blockCommands block)
    (other : block ≠ 6) (index : Nat) (a : List Byte) (s : State) :
    StagingLeft s (runCommand via c index a s).1 := by
  obtain ⟨P, parts, rfl, place⟩ := partsOf_instrOf via index a c
  have op := blockOp_instrOf P.via index a c
  obtain ⟨low, high⟩ := block_of_partsOf parts
  have places := place block member
  have blocks : P.block = 1 ∨ P.block = 2 ∨ (P.block = 3 ∨ P.block = 4) ∨ P.block = 5 ∨ P.block = 7 ∨ P.block = 8 := by
    omega
  rcases blocks with motor | sensor | voice | listen | halt | station
  · exact .inl (blockOp_motor parts op motor s).causes.1
  · exact blockOp_sensor_staging parts op sensor s
  · exact .inl (blockOp_voice parts op voice s).staging_eq
  · exact .inl (blockOp_listen parts op listen s).causes.1
  · exact blockOp_halt_staging parts op halt s
  · exact blockOp_station_staging parts op station s

theorem pathCheck_ok {block index code count : Nat} {c : CommandName} (ok : pathCheck block index code count = .ok c) :
    commandOf block code = some c ∧ indexOk block index = true ∧ countOk c count = true := by
  unfold pathCheck at ok
  split at ok
  · cases ok
  next d command =>
    cases inside : indexOk block index with
    | false => simp [inside] at ok
    | true =>
      cases counted : countOk d count with
      | false => simp [inside, counted] at ok
      | true =>
        simp only [inside, counted, Bool.not_true, Bool.false_eq_true, if_false, Except.ok.injEq] at ok
        subst ok
        exact ⟨command, rfl, counted⟩

/-- R115, R116: the list after a staged command of another block, its refusal included. -/
theorem applyStaged_staging {x : Staged} (other : x.block ≠ 6) (s : State) : StagingLeft s (applyStaged s x) := by
  have taken : StagingLeft s (pathTaken .staged x.block x.index x.code x.args s).1 := by
    unfold pathTaken
    split
    · exact .inl rfl
    next c ok => exact runCommand_staging (List.mem_of_getElem? (commandOf_eq_some.mp (pathCheck_ok ok).1).2) other _ _ s
  unfold applyStaged carryOut answered
  split
  · exact taken
  · exact ite_keeps (fun _ => taken) fun _ => taken.same (setStageMiss_updated _).kept.staging

end Sys2Proof.Machine
end

section
/-! PROOF. Staging and group start (chapter 6). -/

namespace Sys2Proof.Machine

theorem stageable_iff (c : CommandName) : stageable c = true ↔ ¬(c = .stage ∨ c = .cancelGroup ∨ c = .go ∨ c = .halt
    ∨ c = .resume ∨ c = .restart ∨ c = .clockRetry ∨ c = .queryPort ∨ c = .querySensor ∨ c = .queryVoice
    ∨ c = .querySignal ∨ c = .queryEntry ∨ c = .queryStation) := by
  cases c <;> simp [stageable]

/-- R109, step 2: what may be staged is a command that passes its path checks and is no query and no command of
chapters 6, 7 and 9. -/
theorem wrappedOk_iff {block index code count : Nat} {c : CommandName} (named : commandOf block code = some c) :
    wrappedOk block index code count = true
      ↔ (IndexInRange block index ∧ countOk c count = true) ∧ stageable c = true := by
  obtain ⟨low, high⟩ := block_of_command (commandOf_eq_some.mp named).2
  rw [← indexOk_iff low high]
  unfold wrappedOk pathCheck
  rw [named]
  cases inside : indexOk block index <;> cases counted : countOk c count <;> simp [counted]

theorem wrappedOk_unknown {block index code count : Nat} (unknown : commandOf block code = none) :
    wrappedOk block index code count = false := by
  simp [wrappedOk, pathCheck, unknown]

/-- R110: an entry of the same group and target is replaced where it stands. -/
theorem placeStaged_replaces {x : Staged} {s : State} {k : Nat} {y : Staged} (there : s.staging[k]? = some y)
    (same : x.sameTarget y = true) (first : ∀ y ∈ s.staging.take k, ¬x.sameTarget y = true) :
    placeStaged x s
      = (s.setStaging (s.staging.set k x), some ⟨.staged, [charsOf 1 (k + 1 : Nat), charsOf 1 s.staging.length]⟩) := by
  obtain ⟨inside, at_k⟩ := List.getElem?_eq_some_iff.mp there
  have found : s.staging.findIdx? x.sameTarget = some k := by
    rw [List.findIdx?_eq_some_iff_getElem]
    refine ⟨inside, at_k ▸ same, fun j before => ?_⟩
    exact first _ (List.mem_take_iff_getElem.mpr ⟨j, by omega, rfl⟩)
  unfold placeStaged
  rw [found]
  simp only [stagedData, List.length_set]

theorem placeStaged_appends {x : Staged} {s : State} (absent : ∀ y ∈ s.staging, ¬x.sameTarget y = true)
    (room : s.staging.length < 8) :
    placeStaged x s = (s.setStaging (s.staging ++ [x]),
      some ⟨.staged, [charsOf 1 (s.staging.length + 1 : Nat), charsOf 1 (s.staging.length + 1 : Nat)]⟩) := by
  have none : s.staging.findIdx? x.sameTarget = none :=
    List.findIdx?_eq_none_iff.mpr fun y mem => Bool.eq_false_iff.mpr (absent y mem)
  unfold placeStaged
  rw [none]
  dsimp only
  rw [if_neg (by omega)]
  simp only [stagedData, List.length_append, List.length_singleton]

theorem placeStaged_full {x : Staged} {s : State} (absent : ∀ y ∈ s.staging, ¬x.sameTarget y = true)
    (full : 8 ≤ s.staging.length) : placeStaged x s = refuse .stageFull s := by
  have none : s.staging.findIdx? x.sameTarget = none :=
    List.findIdx?_eq_none_iff.mpr fun y mem => Bool.eq_false_iff.mpr (absent y mem)
  unfold placeStaged
  rw [none]
  exact if_pos full

theorem clearStageMiss_staging (s : State) : (clearStageMiss s).staging = s.staging :=
  (clearStageMiss_updated s).kept.staging

/-- R114: a Go frame at a Running station. -/
theorem goApplied_running {group : Nat} {s : State} (running : s.isRunning = true) :
    goApplied group s = (s.staging.filter fun x => x.group == group).foldl applyStaged
      ((clearStageMiss s).setStaging (s.staging.filter fun x => x.group != group)) := by
  unfold goApplied
  rw [if_pos running]
  dsimp only
  rw [clearStageMiss_staging]

theorem State.setStaging_self (s : State) : s.setStaging s.staging = s := rfl

theorem foldl_applyStaged_staging {l : List Staged} (others : ∀ x ∈ l, x.block ≠ 6) (s : State) :
    StagingLeft s (l.foldl applyStaged s) := by
  induction l generalizing s with
  | nil => exact .inl rfl
  | cons x l ih =>
    exact (applyStaged_staging (others x List.mem_cons_self) s).trans
      (ih (fun y mem => others y (List.mem_cons_of_mem x mem)) _)

/-- R87: an update that no entry of this station takes. -/
theorem updateSignal_unheard {i : Fin 16} {s : State} (v : Int) (unheard : ∀ n, ¬State.hears s.bus.number i s n) :
    (updateSignal i v s).stageMiss = s.stageMiss
      ∧ (updateSignal i v s).signals = (s.setSignal i { s.signal i with value := v }).signals := by
  have stored : ∀ n, ¬State.hears s.bus.number i (s.setSignal i { s.signal i with value := v }) n := unheard
  have kept := offers_signals i v (s.setSignal i { s.signal i with value := v })
  have none := offerOwn_unheard v stored
  unfold updateSignal updateWith
  rw [none] at kept ⊢
  exact ⟨kept.2, kept.1⟩

/-- R116: stage miss is cleared and stays so where no trigger listens to signal 15. -/
theorem clearStageMiss_cleared {s : State} (unheard : ∀ n, ¬State.hears s.bus.number 15 s n) (set : s.stageMiss = true) :
    (clearStageMiss s).stageMiss = false ∧ getBits 7 1 ((clearStageMiss s).signal 15).value = 0 := by
  unfold clearStageMiss
  rw [if_pos set]
  dsimp only
  generalize cleared : missWord false (State.signal { s with stageMiss := false } 15).value = v
  obtain ⟨stays, signals⟩ :=
    updateSignal_unheard (i := 15) (s := { s with stageMiss := false }) v unheard
  refine ⟨stays, ?_⟩
  rw [signal_of_signals signals, State.signal_setSignal]
  subst cleared
  exact getBits_putBits_same (lo := 7) (width := 1) (v := 0) (by decide) (by decide) _

/-- Settles O42. -/
theorem stagingAndGo : Obligations.StagingAndGo := by
  intro via group block windex code args name k s awake low high c refused running new same named fits unstageable reply
    rest mine go asked triggers
  have inGroup : 1 ≤ group ∧ group ≤ 7 := ⟨low, high⟩
  have run {c op t} (block : blockOp c = some (via, atGroup group op)) (taken : op group s = t) :
      exec c s = ends (answered via t) := by
    rw [exec_of_blockOp block awake, ← taken]
    exact congrArg (fun t => ends (answered via t)) (if_pos inGroup)
  have stages {t} (h : stagingStage block windex code args group s = t) : exec c s = ends (answered via t) := run rfl h
  have isRunning (h : running) : s.isRunning = true := (isRunning_iff s).mpr h
  have halted (h : ¬running) : s.isRunning = false := Bool.eq_false_iff.mpr (mt (isRunning_iff s).mp h)
  have bad (h : running) (not : wrappedOk block windex code args.length = false) : refused .badArgument :=
    stages (by simp [stagingStage, isRunning h, not])
  have places (h : running) (ok : fits) (may : ¬unstageable) : exec c s = ends (answered via (placeStaged new s)) := by
    refine stages ?_
    have wrapped : wrappedOk block windex code args.length = true :=
      (wrappedOk_iff (commandOf_eq_some.mpr ok.1)).mpr ⟨ok.2, (stageable_iff name).mpr may⟩
    simp [stagingStage, isRunning h, wrapped, new]
  have sameTarget {x : Staged} : new.sameTarget x = true ↔ same x := by
    simp [Staged.sameTarget_iff, new, same, eq_comm (a := group), eq_comm (a := block), eq_comm (a := windex)]
  have absent (h : ∀ x ∈ s.staging, ¬same x) : ∀ x ∈ s.staging, ¬new.sameTarget x = true :=
    fun x mem => mt sameTarget.mp (h x mem)
  refine ⟨fun h => ⟨stages (by simp [stagingStage, halted h]), run rfl (by simp [stagingGo, halted h])⟩,
    fun h unknown => bad h (wrappedOk_unknown (commandOf_eq_none.mpr unknown)), fun h is not => ?badArgument,
    fun h ok may found first => ?replaced, fun h ok may none room => ?appended, fun h ok may none full => ?full,
    run rfl ?cancelled, fun h taken => run rfl ?gone, fun h not => run rfl ?dropped, fun h => if_neg ?_,
    fun h empty => ?alone, fun h => goApplied_running (isRunning h), fun h others => ?left, (setStageMiss_signals s).1,
    fun clear => ?bit, fun set => if_pos set, fun clear => if_neg ?_, fun set => if_pos set,
    fun set none => clearStageMiss_cleared (fun n heard => none ⟨n, heard⟩) set⟩
  case badArgument =>
    refine bad h (Bool.eq_false_iff.mpr fun wrapped => ?_)
    obtain ⟨ok, may⟩ := (wrappedOk_iff (commandOf_eq_some.mpr is)).mp wrapped
    exact not.elim (fun not => not ⟨is, ok⟩) ((stageable_iff name).mp may)
  case replaced =>
    obtain ⟨x, there, is⟩ := found
    refine (places h ok may).trans ?_
    rw [placeStaged_replaces there (sameTarget.mpr is)
      fun y mem => mt sameTarget.mp (first y mem)]
  case appended => exact (places h ok may).trans (by rw [placeStaged_appends (absent none) room])
  case full => exact (places h ok may).trans (by rw [placeStaged_full (absent none) full])
  case cancelled =>
    have count : s.staging.length - rest.length = mine.length := by
      have both := s.staging.length_eq_length_filter_add fun x => x.group == group
      exact Nat.sub_eq_of_eq_add (both.trans (Nat.add_comm _ _) ▸ Nat.add_comm _ _)
    show doneWith [charsOf 1 ((s.staging.length - rest.length : Nat) : Int)] (s.setStaging rest) = _
    rw [count]
    rfl
  case gone => simp [stagingGo, isRunning h, asked, show (goRequest group s).2 = true from taken]
  case dropped => simp [stagingGo, isRunning h, asked, show (goRequest group s).2 = false from not]
  case alone =>
    have all : (s.staging.filter fun x => x.group != group) = s.staging := by
      rw [List.filter_eq_self]
      intro x mem
      exact bne_iff_ne.mpr fun is => List.not_mem_nil 
        (show x ∈ [] from empty ▸ (List.mem_filter (p := fun x => x.group == group)).mpr ⟨mem, beq_iff_eq.mpr is⟩)
    rw [goApplied_running (isRunning h), show (s.staging.filter fun x => x.group == group) = [] from empty, all,
      List.foldl_nil, ← clearStageMiss_staging, State.setStaging_self]
  case left =>
    rw [goApplied_running (isRunning h)]
    exact foldl_applyStaged_staging (fun x mem => others x (List.mem_of_mem_filter mem)) _
  case bit =>
    rw [signal_of_signals ((setStageMiss_signals s).2.trans (if_neg (by simp [clear]))), State.missed_signal_15]
    exact getBits_putBits_same (lo := 7) (width := 1) (v := 1) (by decide) (by decide) _
  all_goals simp_all

end Sys2Proof.Machine
end

section
/-! PROOF. The lanes of the tablet link while the station is not Running: which of an update's users sends there. -/

namespace Sys2Proof.Machine

/-! ### A lane that takes a message (R172) -/

theorem mergeSlots_mem {m : OutMsg} {q : List OutSlot} {y : OutSlot} (mem : y ∈ mergeSlots m q) :
    y.msg = m ∨ y ∈ q := by
  obtain ⟨x, there, rfl⟩ := List.mem_map.mp mem
  by_cases pair : m.samePair x.msg
  · exact .inl (by rw [if_pos pair])
  · exact .inr (by rwa [if_neg pair])

theorem mem_mergeSlots {m : OutMsg} {q : List OutSlot} {x : OutSlot} (mem : x ∈ q) (other : x.msg.isTelemetry = false) :
    x ∈ mergeSlots m q := by
  refine List.mem_map.mpr ⟨x, mem, if_neg ?_⟩
  unfold OutMsg.samePair
  split
  next eq => rw [eq] at other; exact absurd other (by simp [OutMsg.isTelemetry])
  next => simp

theorem dropTelemetry_subset (q : List OutSlot) : dropTelemetry q ⊆ q := by
  induction q with
  | nil => exact List.nil_subset _
  | cons x q ih =>
    unfold dropTelemetry
    split
    · exact List.subset_cons_self _ _
    · exact List.cons_subset_cons _ ih

theorem mem_dropTelemetry {q : List OutSlot} {x : OutSlot} (mem : x ∈ q) (other : x.msg.isTelemetry = false) :
    x ∈ dropTelemetry q := by
  induction q with
  | nil => exact mem
  | cons y q ih =>
    unfold dropTelemetry
    rcases List.mem_cons.mp mem with rfl | later
    · rw [if_neg (by simp [other])]
      exact List.mem_cons_self
    · split
      · exact later
      · exact List.mem_cons_of_mem _ (ih later)

theorem Lane.mem_join_msgs {l : Lane} {m n : OutMsg} :
    (∃ y ∈ (l.join m).outbound, y.msg = n) ↔ (∃ y ∈ l.outbound, y.msg = n) ∨ n = m := by
  have msgs := l.join_msgs m
  calc (∃ y ∈ (l.join m).outbound, y.msg = n)
      ↔ n ∈ (l.join m).outbound.map OutSlot.msg := by simp
    _ ↔ n ∈ l.outbound.map OutSlot.msg ++ [m] := by rw [msgs]
    _ ↔ _ := by simp

/-- Table 10-4: what a lane holds after it has taken a message: the messages held before and that message, and a
message other than telemetry stays. -/
structure LaneTook (m : OutMsg) (l k : Lane) : Prop where
  only : ∀ y ∈ k.outbound, y.msg = m ∨ ∃ x ∈ l.outbound, x.msg = y.msg
  stays : ∀ x ∈ l.outbound, x.msg.isTelemetry = false → ∃ y ∈ k.outbound, y.msg = x.msg
  dropped : l.dropped = true → k.dropped = true
  taken : (∃ y ∈ k.outbound, y.msg = m) ∨ k.dropped = true

theorem Lane.take_took (l : Lane) (m : OutMsg) : LaneTook m l (l.take m) := by
  unfold Lane.take
  split
  next pair =>
    obtain ⟨x, there, same⟩ := List.any_eq_true.mp pair
    exact ⟨fun y mem => (mergeSlots_mem mem).imp_right fun h => ⟨y, h, rfl⟩,
      fun x mem other => ⟨x, mem_mergeSlots mem other, rfl⟩, id,
      .inl ⟨_, List.mem_map.mpr ⟨x, there, rfl⟩, by rw [if_pos same]⟩⟩
  · split
    · exact ⟨fun y mem => (Lane.mem_join_msgs.mp ⟨y, mem, rfl⟩).symm, fun x mem _ => Lane.mem_join_msgs.mpr (.inl ⟨x, mem, rfl⟩),
        id, .inl (Lane.mem_join_msgs.mpr (.inr rfl))⟩
    · split
      · refine ⟨fun y mem => ?_, fun x mem other => Lane.mem_join_msgs.mpr (.inl ⟨x, mem_dropTelemetry mem other, rfl⟩),
          fun _ => rfl, .inr rfl⟩
        rcases Lane.mem_join_msgs.mp ⟨y, mem, rfl⟩ with ⟨x, there, same⟩ | same
        · exact .inr ⟨x, dropTelemetry_subset _ there, same⟩
        · exact .inl same
      · exact ⟨fun y mem => .inr ⟨y, mem, rfl⟩, fun x mem _ => ⟨x, mem, rfl⟩, fun _ => rfl, .inr rfl⟩

/-- A lane that has taken telemetry alone. -/
structure TelemetryTook (l k : Lane) : Prop where
  only : ∀ y ∈ k.outbound, y.msg.isTelemetry = true ∨ ∃ x ∈ l.outbound, x.msg = y.msg
  stays : ∀ x ∈ l.outbound, x.msg.isTelemetry = false → ∃ y ∈ k.outbound, y.msg = x.msg
  dropped : l.dropped = true → k.dropped = true

theorem TelemetryTook.refl (l : Lane) : TelemetryTook l l :=
  ⟨fun y mem => .inr ⟨y, mem, rfl⟩, fun x mem _ => ⟨x, mem, rfl⟩, id⟩

theorem TelemetryTook.trans {l k j : Lane} (h : TelemetryTook l k) (g : TelemetryTook k j) : TelemetryTook l j := by
  refine ⟨fun y mem => ?_, fun x mem other => ?_, g.dropped ∘ h.dropped⟩
  · rcases g.only y mem with telemetry | ⟨x, there, same⟩
    · exact .inl telemetry
    · rw [← same]
      exact h.only x there
  · obtain ⟨y, there, same⟩ := h.stays x mem other
    obtain ⟨z, there', same'⟩ := g.stays y there (same ▸ other)
    exact ⟨z, there', same'.trans same⟩

theorem LaneTook.telemetry {m : OutMsg} {l k : Lane} (h : LaneTook m l k) (telemetry : m.isTelemetry = true) :
    TelemetryTook l k :=
  ⟨fun y mem => (h.only y mem).imp_left fun same => (congrArg OutMsg.isTelemetry same).trans telemetry, h.stays, h.dropped⟩

/-- What a lane holds, or has dropped, it holds or has dropped after telemetry. -/
theorem TelemetryTook.keeps {m : OutMsg} {l k : Lane} (h : TelemetryTook l k) (other : m.isTelemetry = false)
    (held : (∃ y ∈ l.outbound, y.msg = m) ∨ l.dropped = true) : (∃ y ∈ k.outbound, y.msg = m) ∨ k.dropped = true := by
  rcases held with ⟨y, mem, rfl⟩ | dropped
  · exact .inl (h.stays y mem other)
  · exact .inr (h.dropped dropped)

theorem tell_lane {s : State} (present : s.link.present = true) (l : Fin 4) (m : OutMsg) :
    (tell l m s).lane l = (s.lane l).take m := by
  rw [tell_present present]
  simp [State.lane, State.setLane, State.setLink]

theorem tell_lane_ne {l k : Fin 4} (other : k ≠ l) (m : OutMsg) (s : State) : (tell l m s).lane k = s.lane k := by
  unfold tell
  split
  · unfold State.lane State.setLane State.setLink
    exact Vector.getElem_set_ne l.isLt k.isLt fun same => other (Fin.ext same.symm)
  · rfl

theorem tell_present_same (l : Fin 4) (m : OutMsg) (s : State) : (tell l m s).link.present = s.link.present := by
  unfold tell
  split <;> rfl

/-! ### Publish requests -/

/-- R137: a Signal or an Event frame evicts no frame that the tablet is told of. -/
theorem publishRequest_link (i : Fin 16) (s : State) : (publishRequest i s).link = s.link := by
  have code : 4 ≤ (signalKind i).code := by
    unfold signalKind
    split <;> decide
  unfold publishRequest
  dsimp only
  split
  · rfl
  · split
    · rfl
    · unfold addFrame joinQueue
      dsimp only
      split
      · rfl
      · split
        · rfl
        · split
          next g _ higher =>
            have higher : (signalKind i).code < g.kind.code := higher
            unfold frameLost
            cases kind : g.kind with
            | command => rw [kind] at higher; exact absurd (show (signalKind i).code < 2 from higher) (by omega)
            | _ => rfl
          · rfl

theorem publishUpdate_link (i : Fin 16) (s : State) : (publishUpdate i s).link = s.link := by
  unfold publishUpdate testPublish
  split
  · exact publishRequest_link i s
  · split
    · exact publishRequest_link i s
    · rfl

theorem publishUpdate_number (i : Fin 16) (s : State) : (publishUpdate i s).bus.number = s.bus.number := by
  rw [(publishUpdate_told i s).offered.kept.bus]

/-! ### The own pair of the watch list -/

theorem watchOwn_link {s t : State} (link : t.link = s.link) (number : t.bus.number = s.bus.number) (i : Fin 16) (v : Int) :
    (watchOwn i v t).link = (watchOwn i v s).link := by
  unfold watchOwn State.isOwn
  rw [link, number]
  split
  · exact link
  · dsimp only
    split
    · exact tell_link (by rw [State.setLink, State.setLink]) _ _
    · rfl

theorem watchOwn_lane (i : Fin 16) (v : Int) (s : State) : TelemetryTook (s.lane 3) ((watchOwn i v s).lane 3) := by
  unfold watchOwn
  split
  · exact .refl _
  next w _ =>
    dsimp only
    split
    · by_cases present : s.link.present = true
      · rw [tell_lane (by simpa using present)]
        exact ((s.lane 3).take_took _).telemetry rfl
      · rw [tell_absent (by simpa using present)]
        exact .refl _
    · exact .refl _

/-! ### Updates -/

theorem takeValue_idle_only {s : State} (still : s.isRunning = false) (n : Fin 16) (v : Int) :
    ∃ entries, (takeValue n v s).1 = { s with entries := entries } := by
  unfold takeValue
  dsimp only
  split
  · exact ⟨s.entries, rfl⟩
  next r _ =>
    generalize (s.entry n).takeValue v ((s.entry n).transform r.dest v) = e
    have idle : (s.setEntry n e).isRunning = false := still
    cases dest : r.dest with
    | motorPower p => exact ⟨_, valuePort_idle idle p n _⟩
    | motorSpeed p => exact ⟨_, valuePort_idle idle p n _⟩
    | motorPosition p => exact ⟨_, valuePort_idle idle p n _⟩
    | voicePitch w => exact ⟨_, valuePitch_idle idle w n _⟩
    | voiceVolume w => exact ⟨_, valueVolume_idle idle w n _⟩
    | goTrigger g =>
      unfold sendOutput goTrigger
      dsimp only
      split
      · split
        · rw [if_neg (by simp [still])]
          exact ⟨_, rfl⟩
        · exact ⟨_, rfl⟩
      · exact ⟨_, rfl⟩

/-- R101: a value offered to a station that is not Running reaches its listen entries alone. -/
theorem offerOwn_idle_only {s : State} (still : s.isRunning = false) (i : Fin 16) (v : Int) :
    ∃ entries, (offerOwn i v s).1 = { s with entries := entries } := by
  unfold offerOwn
  split
  next me _ =>
    suffices all : ∀ (l : List (Fin 16)) (t : State × Nat), (∃ entries, t.1 = { s with entries := entries }) →
        ∃ entries, (l.foldl (offerEntry me i v) t).1 = { s with entries := entries } from
      all sixteen (s, 0) ⟨s.entries, rfl⟩
    intro l
    induction l with
    | nil => exact fun _ h => h
    | cons n l ih =>
      intro t ⟨entries, eq⟩
      refine ih _ ?_
      unfold offerEntry
      split
      · obtain ⟨entries', eq'⟩ := takeValue_idle_only (s := t.1) (by rw [eq]; exact still) n v
        exact ⟨entries', by rw [eq', eq]⟩
      · exact ⟨entries, eq⟩
  · exact ⟨s.entries, rfl⟩

/-- R176: the link after an update of a station that is not Running. -/
theorem updateSignal_idle_link {s : State} (still : s.isRunning = false) (i : Fin 16) (v : Int) :
    (updateSignal i v s).link = (watchOwn i v s).link := by
  rw [updateSignal_idle still]
  have idle : (s.setSignal i { s.signal i with value := v }).isRunning = false := still
  obtain ⟨entries, eq⟩ := offerOwn_idle_only idle i v
  refine watchOwn_link ?_ ?_ i v
  · rw [publishUpdate_link, eq]
    rfl
  · rw [publishUpdate_number, eq]
    rfl

/-- R176: the link after an update that no entry of this station takes. -/
theorem updateSignal_unheard_link {i : Fin 16} {s : State} (v : Int) (unheard : ∀ n, ¬State.hears s.bus.number i s n) :
    (updateSignal i v s).link = (watchOwn i v s).link := by
  have stored : ∀ n, ¬State.hears s.bus.number i (s.setSignal i { s.signal i with value := v }) n := unheard
  unfold updateSignal updateWith
  rw [offerOwn_unheard v stored]
  refine watchOwn_link ?_ ?_ i v
  · rw [publishUpdate_link]
    rfl
  · rw [publishUpdate_number]
    rfl

theorem lane_of_link {s t : State} (h : t.link = s.link) (l : Fin 4) : t.lane l = s.lane l := by
  unfold State.lane
  rw [h]

/-- R176: lane 3 after an update of a station that is not Running takes telemetry alone. -/
theorem updateSignal_idle_lane {s : State} (still : s.isRunning = false) (i : Fin 16) (v : Int) :
    TelemetryTook (s.lane 3) ((updateSignal i v s).lane 3) := by
  rw [lane_of_link (updateSignal_idle_link still i v)]
  exact watchOwn_lane i v s

/-- Signal `i` is no own pair of the watch list. -/
def State.Unwatched (i : Fin 16) (s : State) : Prop :=
  ∀ w ∈ s.link.watch, ¬(s.bus.number = some w.station ∧ w.index = i.val)

/-- R176: an update of a station that is not Running, of a signal that is not watched, leaves the tablet link. -/
theorem updateSignal_unwatched {s : State} (still : s.isRunning = false) {i : Fin 16} (unwatched : s.Unwatched i) (v : Int) :
    (updateSignal i v s).link = s.link := by
  rw [updateSignal_idle_link still, watchOwn_unlisted v unwatched]

end Sys2Proof.Machine
end

section
/-! PROOF. What a frame that leaves the station, a break and a halt entry do at the bus station and the tablet link. -/

namespace Sys2Proof.Machine

/-! ### A lane left alone -/

/-- `t` has the lane `l` of `s`, its watch list and its link state. -/
structure LaneLeft (l : Fin 4) (s t : State) : Prop where
  lane : t.lane l = s.lane l
  watch : t.link.watch = s.link.watch
  present : t.link.present = s.link.present

theorem LaneLeft.refl (l : Fin 4) (s : State) : LaneLeft l s s := ⟨rfl, rfl, rfl⟩

theorem LaneLeft.trans {l : Fin 4} {s t u : State} (h : LaneLeft l s t) (g : LaneLeft l t u) : LaneLeft l s u :=
  ⟨g.lane.trans h.lane, g.watch.trans h.watch, g.present.trans h.present⟩

theorem LaneLeft.of_link {l : Fin 4} {s t : State} (h : t.link = s.link) : LaneLeft l s t :=
  ⟨lane_of_link h l, by rw [h], by rw [h]⟩

theorem tell_laneLeft {l k : Fin 4} (other : k ≠ l) (m : OutMsg) (s : State) : LaneLeft k s (tell l m s) := by
  refine ⟨tell_lane_ne other m s, ?_, tell_present_same l m s⟩
  unfold tell
  split <;> rfl

theorem reportOrigin_laneLeft {l : Fin 4} (other : l ≠ 1) (o : Option Origin) (r : Option Result) (s : State) :
    LaneLeft l s (reportOrigin o r s) := by
  cases o with
  | none => exact .refl l s
  | some o =>
    have counted : LaneLeft l s (s.setLink { s.link with forwarded := s.link.forwarded - 1 }) := ⟨rfl, rfl, rfl⟩
    cases r with
    | none => exact counted
    | some r => exact counted.trans (tell_laneLeft other _ _)

theorem frameLost_laneLeft {l : Fin 4} (other : l ≠ 1) (f : Frame) (s : State) : LaneLeft l s (frameLost f s) := by
  unfold frameLost
  split
  · exact reportOrigin_laneLeft other _ _ s
  · exact .of_link rfl
  · exact .refl l s

theorem frameDropped_laneLeft {l : Fin 4} (other : l ≠ 1) (r : Result) (f : Frame) (s : State) :
    LaneLeft l s (frameDropped r f s) := by
  unfold frameDropped
  split
  · exact reportOrigin_laneLeft other _ _ s
  · exact .refl l s

theorem joinQueue_laneLeft {l : Fin 4} (other : l ≠ 1) (f : Frame) (s : State) : LaneLeft l s (joinQueue f s).1 := by
  unfold joinQueue
  split
  · exact .of_link rfl
  · split
    · exact .refl l s
    · split
      · refine LaneLeft.trans ?_ (frameLost_laneLeft other _ _)
        exact .of_link rfl
      · exact .refl l s

theorem dropSending_laneLeft {l : Fin 4} (other : l ≠ 1) (s : State) : LaneLeft l s (dropSending s) := by
  unfold dropSending
  split
  · exact .refl l s
  next f _ => exact LaneLeft.trans (t := s.setBus { s.bus with sending := none }) (.of_link rfl) (frameDropped_laneLeft other _ f _)

theorem abandonFrame_laneLeft {l : Fin 4} (other : l ≠ 1) (s : State) : LaneLeft l s (abandonFrame s) := by
  unfold abandonFrame
  split
  · exact .refl l s
  next f _ =>
    split
    · exact dropSending_laneLeft other s
    · have stopped : LaneLeft l s (s.setBus { s.bus with sending := none }) := .of_link rfl
      refine ite_keeps (I := LaneLeft l s) (fun _ => stopped) fun _ => ite_keeps (fun _ => stopped) fun _ =>
        ite_keeps (fun _ => stopped.trans (frameDropped_laneLeft other _ f _)) fun _ =>
        ite_keeps (fun _ => stopped.trans (joinQueue_laneLeft other f _)) fun _ => ?_
      exact (stopped.trans (joinQueue_laneLeft other f _)).trans (frameLost_laneLeft other f _)

theorem startBreak_laneLeft {l : Fin 4} (other : l ≠ 1) (s : State) : LaneLeft l s (startBreak s) := by
  unfold startBreak
  split
  · exact .refl l s
  · exact (abandonFrame_laneLeft other s).trans (.of_link rfl)

theorem haltBreak_laneLeft {l : Fin 4} (other : l ≠ 1) (c : CauseKind) (s : State) : LaneLeft l s (haltBreak c s) :=
  ite_keeps (I := LaneLeft l s) (fun _ => startBreak_laneLeft other s) fun _ => .refl l s

/-! ### The bus station -/

theorem frameDropped_told (r : Result) (f : Frame) (s : State) : OnlyTold s (frameDropped r f s) := by
  unfold frameDropped
  split
  · exact reportOrigin_told _ _ s
  · exact .refl s

theorem dropSending_told (s : State) : OnlyTold (s.setBus { s.bus with sending := none }) (dropSending s) := by
  unfold dropSending
  split
  next idle => rw [← idle]; exact .refl s
  next f _ => exact frameDropped_told _ f _

theorem abandonFrame_told (s : State) : OnlyTold (s.setBus { s.bus with sending := none }) (abandonFrame s) := by
  unfold abandonFrame
  split
  next idle => rw [← idle]; exact .refl s
  next f _ =>
    split
    · exact dropSending_told s
    · refine ite_keeps (I := OnlyTold (s.setBus { s.bus with sending := none })) (fun _ => .refl _) fun _ =>
        ite_keeps (fun _ => .refl _) fun _ => ite_keeps (fun _ => frameDropped_told _ f _) fun _ =>
        ite_keeps (fun _ => joinQueue_told f _) fun _ => ?_
      exact (joinQueue_told f _).trans (frameLost_told f _)

theorem abandonFrame_sending (s : State) : (abandonFrame s).bus.sending = none := by
  rw [(abandonFrame_told s).offered.kept.bus]
  rfl

/-- R148: a break is under way after a break request, and the frame in transmission has been abandoned. -/
theorem startBreak_breaks {s : State} (silent : s.bus.breakSending = none) :
    (startBreak s).bus.breakSending = some 0 ∧ (startBreak s).bus.sending = none := by
  unfold startBreak
  rw [silent]
  exact ⟨rfl, abandonFrame_sending s⟩

theorem startBreak_number (s : State) : (startBreak s).bus.number = s.bus.number := by
  unfold startBreak
  split
  · rfl
  · show (abandonFrame s).bus.number = _
    rw [(abandonFrame_told s).offered.kept.bus]
    rfl

theorem haltBreak_number (c : CauseKind) (s : State) : (haltBreak c s).bus.number = s.bus.number :=
  ite_keeps (I := fun t => t.bus.number = s.bus.number) (fun _ => startBreak_number s) fun _ => rfl

/-! ### The test for Halted (R125) -/

/-- R125: the station that becomes Halted, at its bus station, its tablet link and its sensor ports. -/
structure HaltedTold (s t : State) : Prop where
  bus : t.bus = { s.bus with
    queue := t.bus.queue, nextStamp := t.bus.nextStamp, announcePending := t.bus.announcePending }
  link : t.link = { s.link with lanes := t.link.lanes, watch := t.link.watch, forwarded := t.link.forwarded }
  lane : TelemetryTook (s.lane 3) (t.lane 3)
  unwatched : s.Unwatched 15 → t.link = s.link
  sensors : t.sensors = s.sensors

theorem testHalted_told (s : State) : HaltedTold s (testHalted s) := by
  rcases testHalted_cases s with ⟨-, -, eq⟩ | ⟨-, eq⟩
  · rw [eq]
    have still : (s.setHalt { s.halt with state := .halted, safeTimer := none }).isRunning = false := by
      simp [State.isRunning]
    have kept := (writeHaltWord_updated (s.setHalt { s.halt with state := .halted, safeTimer := none })).kept
    exact ⟨kept.bus, kept.link, updateSignal_idle_lane still 15 _,
      fun unwatched => updateSignal_unwatched still (i := 15) unwatched _, kept.sensors⟩
  · rw [eq]
    exact ⟨rfl, rfl, .refl _, fun _ => rfl, rfl⟩

/-! ### Halt entry (R121 to R124) -/

/-- R124, R81: a halting station tells the tablet of its silent voices alone, on their lane. -/
theorem emptied_laneLeft {l : Fin 4} (other : l ≠ 2) (s : State) : LaneLeft l s s.emptied := by
  obtain ⟨-, -, -, -, -, -, -, link, lane⟩ := silenceAll_kept s
  unfold State.emptied
  generalize silenceAll s = t at link lane
  exact ⟨lane l other, (congrArg Link.watch link :), (congrArg Link.present link :)⟩

theorem emptied_bus (s : State) : s.emptied.bus = { s.bus with queue := s.bus.queue.filter fun f => f.kind != .go } := by
  obtain ⟨-, -, -, -, bus, -⟩ := silenceAll_kept s
  unfold State.emptied removeGoFrames
  generalize silenceAll s = t at bus
  exact congrArg (fun b : Bus => { b with queue := b.queue.filter fun f => f.kind != FrameKind.go }) bus

theorem haltPorts_bus (c : CauseKind) (at_ : Option CausePort) (s : State) :
    (s.haltPorts c at_).bus = (haltBreak c (recordFirst c at_ s)).bus
      ∧ (s.haltPorts c at_).link = (haltBreak c (recordFirst c at_ s)).link := by
  obtain ⟨_, _, eq⟩ := haltPorts_only c at_ (haltBreak c (recordFirst c at_ s))
  rw [State.haltPorts, eq]
  exact ⟨rfl, rfl⟩

theorem halting_laneLeft {l : Fin 4} (reports : l ≠ 1) (progress : l ≠ 2) (c : CauseKind) (at_ : Option CausePort) (s : State) :
    LaneLeft l s (s.halting c at_) := by
  have broken : LaneLeft l s (haltBreak c (recordFirst c at_ s)) := 
    LaneLeft.trans (t := recordFirst c at_ s) (.of_link rfl) (haltBreak_laneLeft reports c _)
  exact (broken.trans (.of_link (haltPorts_bus c at_ s).2)).trans (emptied_laneLeft progress _)

theorem halting_bus (c : CauseKind) (at_ : Option CausePort) (s : State) :
    (s.halting c at_).bus = { (haltBreak c (recordFirst c at_ s)).bus with
      queue := (haltBreak c (recordFirst c at_ s)).bus.queue.filter fun f => f.kind != .go } := by
  rw [State.halting, emptied_bus, (haltPorts_bus c at_ s).1]

theorem halting_unwatched {c : CauseKind} {at_ : Option CausePort} {s : State} (unwatched : s.Unwatched 15) :
    (s.halting c at_).Unwatched 15 := by
  have number : (s.halting c at_).bus.number = s.bus.number := by
    rw [halting_bus]
    exact haltBreak_number c _
  unfold State.Unwatched
  rw [(halting_laneLeft (l := 3) (by decide) (by decide) c at_ s).watch, number]
  exact unwatched

theorem halting_quiet (c : CauseKind) (at_ : Option CausePort) (s : State) : (s.halting c at_).HaltQuiet :=
  haltQuiet_emptied (silenceAll_silent (s.haltPorts c at_))

end Sys2Proof.Machine
end

section
/-! PROOF. A cause at the halt controller: halt entry with its notice, and further causes (O43). -/

namespace Sys2Proof.Machine

/-! ### The record and the ports of a halt -/

theorem mem_addCause {c d : CauseKind} {l : List CauseKind} : d ∈ addCause c l ↔ d = c ∨ d ∈ l := by
  have all : d ∈ CauseKind.all := by cases d <;> decide
  simp [addCause, all]

theorem getBits_haltWord_cause (h : Halt) (w : Int) : getBits 2 4 (haltWord h w) = causeCode h.first := by
  have small : causeCode h.first < 2 ^ 4 := by
    cases h.first with
    | none => decide
    | some c => cases c <;> decide
  exact getBits_putBits_same (by decide) small _

theorem coastedBy_iff (c : CauseKind) (at_ : Option CausePort) (p : Fin 4) : coastedBy c at_ p = true
    ↔ c = .undervoltage ∨ ((c = .stall ∨ c = .overcurrent) ∧ at_ = some (.motor p)) := by
  cases c <;> simp [coastedBy]

/-- R21: a port whose Pattern source becomes Command. -/
theorem Port.dropPattern_eq {x y : Port} (same : y.source = x.source) :
    y.dropPattern = { y with source := if x.source = .pattern then .command else x.source } := by
  unfold Port.dropPattern
  rw [same]
  split
  · rfl
  · rw [← same]

theorem Port.safe_source (x : Port) : x.safe.source = x.source := by
  unfold Port.safe Port.enterSafeRamp
  split
  · rfl
  · exact x.enter_source .safeRamp
  · exact x.enter_source _

/-- R21, Table 1-5: a port that stays in its mode. -/
theorem Port.safe_stays {x : Port} (mode : x.safeMode = none) : x.safe = x := by
  simp only [Port.safe, mode]

theorem Port.safe_enters {x : Port} {m : Mode} (mode : x.safeMode = some m) (other : m ≠ .safeRamp) :
    x.safe = x.enter m := by
  unfold Port.safe
  rw [mode]
  cases m with
  | safeRamp => exact absurd rfl other
  | _ => rfl

theorem Port.enterSafeRamp_eq (x : Port) : x.enterSafeRamp = { x.enter .safeRamp with
    captured := some x.rampPreset, target := x.rampPreset, stepTimer := rampPeriod x.periodCode,
    reference := if x.periodCode = 0 then x.rampPreset else (x.enter .safeRamp).reference } := by
  have period : (x.enter .safeRamp).periodCode = x.periodCode := by
    obtain ⟨_, _, _, _, _, _, _, _, _, _, _, _, _, _, _, eq⟩ := x.enter_changes .safeRamp
    rw [eq]
  simp only [Port.enterSafeRamp, Port.aim, Port.restartStep, period]

theorem Port.safe_ramps {x : Port} (mode : x.safeMode = some .safeRamp) : x.safe = x.enterSafeRamp := by
  simp only [Port.safe, mode]

/-- Table 1-5: the mode of a safe-action request at a port with a motor. -/
theorem Port.safeMode_eq {x : Port} (motor : x.kind ≠ .none) :
    (x.safeAction = .coast → x.safeMode = some .coast) ∧ (x.safeAction = .brake → x.safeMode = some .brake)
      ∧ (x.safeAction = .rampLowerThenCoast ∨ x.safeAction = .rampUpperThenCoast →
        (x.mode = .coast ∨ x.mode = .brake → x.safeMode = none)
          ∧ (x.mode = .power → x.safeMode = some .coast)
          ∧ (x.mode = .speed ∨ x.mode = .position ∨ x.mode = .pattern →
              x.safeMode = if x.kind = .plain ∨ x.encoderLost = true then some .coast else some .safeRamp)) := by
  unfold Port.safeMode
  rw [if_neg motor]
  refine ⟨fun action => by rw [action], fun action => by rw [action], fun ramps => ⟨fun rest => ?_, fun power => ?_, fun drives => ?_⟩⟩
  · rcases ramps with action | action <;> rcases rest with mode | mode <;> rw [action, mode]
  · rcases ramps with action | action <;> rw [action, power]
  · rcases ramps with action | action <;> rcases drives with mode | mode | mode <;> rw [action, mode]

/-! ### Halt entry (R121 to R125) -/

/-- A halting station that has told of itself, before the test for Halted. -/
def State.haltTold (c : CauseKind) (at_ : Option CausePort) (s : State) : State :=
  notify 0 c.code (causePortCode at_) (writeHaltWord (s.halting c at_))

theorem haltEntry_told (c : CauseKind) (at_ : Option CausePort) (s : State) :
    haltEntry c at_ s = testHalted (s.haltTold c at_) := rfl

theorem haltTold_updated (c : CauseKind) (at_ : Option CausePort) (s : State) :
    Updated (s.halting c at_) (s.haltTold c at_) := (told_halting c at_ s).1

theorem haltTold_halt (c : CauseKind) (at_ : Option CausePort) (s : State) : (s.haltTold c at_).halt = { s.halt with
    state := .halting, first := some c, firstPort := at_, further := [], safeTimer := some 3000,
    settled := (s.halting c at_).halt.settled } :=
  (haltTold_updated c at_ s).kept.halt.trans (halting_halt c at_ s)

theorem haltTold_quiet (c : CauseKind) (at_ : Option CausePort) (s : State) : (testHalted (s.haltTold c at_)).HaltQuiet :=
  have k := keptByUpdates_haltQuiet
  k.testHalted (k.notify _ _ _ (k.updateSignal _ _ (halting_quiet c at_ s)))

theorem haltTold_allSettled (c : CauseKind) (at_ : Option CausePort) (s : State) : (s.haltTold c at_).AllSettled
    ↔ ∀ p, ((haltEntry c at_ s).port p).mode = .coast ∨ ((haltEntry c at_ s).port p).mode = .brake := by
  unfold State.AllSettled
  rw [(haltTold_updated c at_ s).kept.halt]
  refine forall_congr' fun p => ?_
  rw [halting_settled, haltEntry_port, Mode.settled_iff]

theorem tell_watch (l : Fin 4) (m : OutMsg) (s : State) : (tell l m s).link.watch = s.link.watch := by
  unfold tell
  split <;> rfl

theorem Updated.present {s t : State} (h : Updated s t) : t.link.present = s.link.present := by
  rw [h.kept.link]

theorem Updated.number {s t : State} (h : Updated s t) : t.bus.number = s.bus.number := by
  rw [h.kept.bus]

theorem halting_speaker (c : CauseKind) (at_ : Option CausePort) (s : State) : (s.halting c at_).audio.speaker = 0 := rfl

/-- R121, R125: the record of a halt that has just begun, by the ports. -/
theorem haltEntry_halt {c : CauseKind} {at_ : Option CausePort} {s t : State} (entry : t = haltEntry c at_ s) :
    t.halt.first = some c ∧ t.halt.firstPort = at_ ∧ t.halt.further = []
      ∧ ((∀ q, (t.port q).mode = .coast ∨ (t.port q).mode = .brake) → t.halt.state = .halted ∧ t.halt.safeTimer = none)
      ∧ (¬(∀ q, (t.port q).mode = .coast ∨ (t.port q).mode = .brake) →
          t.halt.state = .halting ∧ t.halt.safeTimer = some 3000) := by
  have settled := haltTold_allSettled c at_ s
  have halt := haltTold_halt c at_ s
  rw [← entry] at settled
  rw [haltEntry_told] at entry
  generalize s.haltTold c at_ = u at settled halt entry
  subst entry
  have tested := testHalted_halt u
  refine ⟨(testHalted_from u).first.trans (by rw [halt]), (testHalted_from u).firstPort.trans (by rw [halt]),
    (testHalted_from u).further.trans (by rw [halt]), fun rest => ?_, fun no => ?_⟩
  · rw [tested.1 (by rw [halt]) (settled.mpr rest)]
    exact ⟨rfl, rfl⟩
  · rw [tested.2 fun h => no (settled.mp h.2), halt]
    exact ⟨rfl, rfl⟩

/-- R86: the halt controller's fields of signal 15, as it has written them. -/
theorem writeHaltWord_word (s : State) :
    getBits 0 2 ((writeHaltWord s).signal 15).value = s.halt.state.code
      ∧ getBits 2 4 ((writeHaltWord s).signal 15).value = causeCode s.halt.first := by
  unfold writeHaltWord
  rw [updateSignal_15_bits _ _ (by decide) (by decide), updateSignal_15_bits _ _ (by decide) (by decide)]
  exact ⟨getBits_haltWord _ _, getBits_haltWord_cause _ _⟩

/-- R86, R125: the test for Halted keeps the halt controller's fields of signal 15 in step with its record. -/
theorem testHalted_word {s : State} (word : getBits 0 2 (s.signal 15).value = s.halt.state.code
      ∧ getBits 2 4 (s.signal 15).value = causeCode s.halt.first) :
    getBits 0 2 ((testHalted s).signal 15).value = (testHalted s).halt.state.code
      ∧ getBits 2 4 ((testHalted s).signal 15).value = causeCode (testHalted s).halt.first := by
  rcases testHalted_cases s with ⟨-, -, eq⟩ | ⟨-, eq⟩
  · rw [eq, (writeHaltWord_updated _).kept.halt]
    exact writeHaltWord_word _
  · rw [eq]
    exact word

/-- R86, R125: the halt controller's fields of signal 15 after a halt entry. -/
theorem haltEntry_word (c : CauseKind) (at_ : Option CausePort) (s : State) :
    getBits 0 2 ((haltEntry c at_ s).signal 15).value = (haltEntry c at_ s).halt.state.code
      ∧ getBits 2 4 ((haltEntry c at_ s).signal 15).value = causeCode (haltEntry c at_ s).halt.first := by
  rw [haltEntry_told]
  refine testHalted_word ?_
  have written := writeHaltWord_word (s.halting c at_)
  rw [State.haltTold, signal_of_signals (notify_signals _ _ _ _)]
  unfold notify
  rw [(tell_told 3 _ _).offered.kept.halt, (writeHaltWord_updated (s.halting c at_)).kept.halt]
  exact written

/-- R177: the notice of a halt entry. -/
theorem haltEntry_notice {c : CauseKind} {at_ : Option CausePort} {s : State} (present : s.link.present = true) :
    (∃ y ∈ ((haltEntry c at_ s).lane 3).outbound, y.msg = .notice 0 c.code (causePortCode at_))
      ∨ ((haltEntry c at_ s).lane 3).dropped = true := by
  have there : (writeHaltWord (s.halting c at_)).link.present = true := (writeHaltWord_updated _).present.trans
    ((halting_laneLeft (l := 3) (by decide) (by decide) c at_ s).present.trans present)
  rw [haltEntry_told]
  refine (testHalted_told _).lane.keeps rfl ?_
  unfold State.haltTold notify
  rw [tell_lane there]
  exact (Lane.take_took _ _).taken

/-- R177: the notice of a halt entry joins its lane alone, when signal 15 is no own pair of the watch list. -/
theorem haltEntry_notice_joins {c : CauseKind} {at_ : Option CausePort} {s : State} (present : s.link.present = true)
    (unwatched : s.Unwatched 15) (room : (s.lane 3).outbound.length < 6) :
    ((haltEntry c at_ s).lane 3).outbound.map OutSlot.msg
      = (s.lane 3).outbound.map OutSlot.msg ++ [.notice 0 c.code (causePortCode at_)] := by
  have left := halting_laneLeft (l := 3) (by decide) (by decide) c at_ s
  have quiet := halting_unwatched (c := c) (at_ := at_) unwatched
  have updated := writeHaltWord_updated (s.halting c at_)
  have written : (writeHaltWord (s.halting c at_)).link = (s.halting c at_).link :=
    updateSignal_unwatched (halting_isRunning c at_ s) quiet _
  have there : (writeHaltWord (s.halting c at_)).link.present = true :=
    updated.present.trans (left.present.trans present)
  have lane : (writeHaltWord (s.halting c at_)).lane 3 = s.lane 3 := (lane_of_link written 3).trans left.lane
  have unheard : (writeHaltWord (s.halting c at_)).Unwatched 15 := by
    unfold State.Unwatched
    rw [written, updated.number]
    exact quiet
  rw [haltEntry_told]
  unfold State.haltTold notify
  generalize writeHaltWord (s.halting c at_) = u at there lane unheard
  have told : (tell 3 (.notice 0 c.code (causePortCode at_)) u).Unwatched 15 := by
    unfold State.Unwatched
    rw [(tell_told 3 _ u).offered.updated.number, (tell_watch 3 _ u)]
    exact unheard
  rw [lane_of_link ((testHalted_told _).unwatched told), tell_lane there, lane, Lane.take_of_room rfl room, Lane.join_msgs]

/-- R122: the bus station after a halt entry: the break of the station that hands its halts on. -/
theorem haltEntry_bus (c : CauseKind) (at_ : Option CausePort) (s : State) :
    (haltEntry c at_ s).bus.breakSending = (haltBreak c (recordFirst c at_ s)).bus.breakSending
      ∧ (haltEntry c at_ s).bus.sending = (haltBreak c (recordFirst c at_ s)).bus.sending := by
  have told := (haltTold_updated c at_ s).kept.bus
  rw [halting_bus] at told
  rw [haltEntry_told, (testHalted_told _).bus]
  dsimp only
  rw [told]
  exact ⟨rfl, rfl⟩

/-! ### Further causes (R127) -/

/-- What a coast request leaves of a station that is not Running. -/
structure CoastKept (s t : State) : Prop where
  still : t.isRunning = false
  first : t.halt.first = s.halt.first
  firstPort : t.halt.firstPort = s.halt.firstPort
  further : t.halt.further = s.halt.further
  halted : s.halt.state = .halted → t.halt.state = .halted
  staging : t.staging = s.staging
  stageMiss : t.stageMiss = s.stageMiss
  breaks : t.bus.breakSending = s.bus.breakSending
  lane : TelemetryTook (s.lane 3) (t.lane 3)

theorem CoastKept.refl {s : State} (still : s.isRunning = false) : CoastKept s s :=
  ⟨still, rfl, rfl, rfl, id, rfl, rfl, rfl, .refl _⟩

theorem CoastKept.trans {s t u : State} (h : CoastKept s t) (g : CoastKept t u) : CoastKept s u :=
  ⟨g.still, g.first.trans h.first, g.firstPort.trans h.firstPort, g.further.trans h.further, g.halted ∘ h.halted,
    g.staging.trans h.staging, g.stageMiss.trans h.stageMiss, g.breaks.trans h.breaks, h.lane.trans g.lane⟩

theorem coastPort_coastKept {s : State} (still : s.isRunning = false) (p : Fin 4) : CoastKept s (coastPort p s) := by
  unfold coastPort
  have base : CoastKept s (changeMode p .coast s) := ⟨still, rfl, rfl, rfl, id, rfl, rfl, rfl, .refl _⟩
  generalize changeMode p .coast s = t at base
  have tested := testHalted_from t
  have told := testHalted_told t
  refine base.trans ⟨(testHalted_isRunning t).trans base.still, tested.first, tested.firstPort, tested.further, fun halted => ?_,
    tested.staging, tested.stageMiss, ?_, told.lane⟩
  · rw [testHalted_other (by simp [halted]), halted]
  · rw [told.bus]

/-- R127: a further cause joins the set, and its coast requests follow. -/
theorem furtherCause_kept (c : CauseKind) (at_ : Option CausePort) {s : State} (still : s.isRunning = false) :
    CoastKept (if s.halt.first = some c then s else s.setHalt { s.halt with further := addCause c s.halt.further })
      (furtherCause c at_ s) := by
  unfold furtherCause
  dsimp only
  generalize base : (if s.halt.first = some c then s
    else s.setHalt { s.halt with further := addCause c s.halt.further }) = u
  have idle : u.isRunning = false := by
    rw [← base]
    split <;> exact still
  refine foldl_keeps (I := CoastKept u) (f := fun s p => if coastedBy c at_ p then coastPort p s else s)
    (fun {t} p h => ?_) fourPorts (.refl idle)
  exact ite_keeps (I := CoastKept u) (fun _ => h.trans (coastPort_coastKept h.still p)) fun _ => h

/-- R127: the record after a further cause. -/
theorem furtherCause_record (c d : CauseKind) (at_ : Option CausePort) {s : State} (still : s.isRunning = false) :
    let t := furtherCause c at_ s
    t.halt.first = s.halt.first ∧ t.halt.firstPort = s.halt.firstPort
      ∧ (d ∈ t.halt.further ↔ d ∈ s.halt.further ∨ (d = c ∧ s.halt.first ≠ some c))
      ∧ t.staging = s.staging ∧ t.bus.breakSending = s.bus.breakSending
      ∧ (s.halt.state = .halted → t.halt.state = .halted)
      ∧ t.stageMiss = s.stageMiss ∧ TelemetryTook (s.lane 3) (t.lane 3) := by
  have kept := furtherCause_kept c at_ still
  intro t
  by_cases known : s.halt.first = some c
  · rw [if_pos known] at kept
    refine ⟨kept.first, kept.firstPort, ?_, kept.staging, kept.breaks, kept.halted, kept.stageMiss, kept.lane⟩
    rw [show t.halt.further = _ from kept.further]
    simp [known]
  · rw [if_neg known] at kept
    refine ⟨kept.first, kept.firstPort, ?_, kept.staging, kept.breaks, kept.halted, kept.stageMiss, kept.lane⟩
    rw [show t.halt.further = _ from kept.further, State.setHalt_halt, mem_addCause, or_comm]
    simp [known]

/-- R116: a cause leaves stage miss alone. -/
theorem haltEntry_stageMiss (c : CauseKind) (at_ : Option CausePort) (s : State) :
    (haltEntry c at_ s).stageMiss = s.stageMiss := by
  have halting : (s.halting c at_).stageMiss = s.stageMiss := by
    obtain ⟨_, _, eq⟩ := haltPorts_only c at_ (haltBreak c (recordFirst c at_ s))
    obtain ⟨_, _, broken⟩ := haltBreak_only c (recordFirst c at_ s)
    rw [State.halting, (emptied_kept _).2.2.2.2, State.haltPorts, eq]
    show (haltBreak c (recordFirst c at_ s)).stageMiss = _
    rw [broken]
    rfl
  have written : (writeHaltWord (s.halting c at_)).stageMiss = _ :=
    (updateSignal_idle_signals (halting_isRunning c at_ s) 15 _).1
  rw [haltEntry_told, (testHalted_from _).stageMiss]
  unfold State.haltTold notify
  rw [(tell_told 3 _ _).offered.signals.2, written, halting]

/-- Settles O43. -/
theorem causesHaltTheStation : Obligations.CausesHaltTheStation := by
  intro c d at_ p v s flags t running x coasts own rampTo ramping ramps atRest acts watches15
  have coasted : coastedBy c at_ p = true ↔ coasts := coastedBy_iff c at_ p
  have entry (h : running) : t = haltEntry c at_ s := if_pos ((isRunning_iff s).mpr h)
  have still (h : ¬running) : s.isRunning = false := Bool.eq_false_iff.mpr (mt (isRunning_iff s).mp h)
  have further (h : ¬running) : t = furtherCause c at_ s := if_neg (mt (isRunning_iff s).mp h)
  have port (h : running) : t.port p = x.halted c at_ p := by rw [entry h, haltEntry_port]
  have coast (h : running) (k : coasts) : t.port p = own (x.enter .coast) := by
    rw [port h, Port.halted, if_pos (coasted.mpr k)]
    exact Port.dropPattern_eq (x.enter_source .coast)
  have safe (h : running) (k : ¬coasts) {y : Port} (is : x.safe = y) : t.port p = own y := by
    subst is
    rw [port h, Port.halted, if_neg (mt coasted.mp k)]
    exact Port.dropPattern_eq x.safe_source
  have modes (motor : x.kind ≠ .none) := Port.safeMode_eq motor
  refine ⟨fun h => ?entry, fun h present unwatched room => ?joins, fun h present => ?notice, fun h => ?telemetry,
    fun h hands other => ?breaks, fun h not => ?unbroken, coast, fun h k none => safe h k (Port.safe_stays (if_pos none)),
    fun ⟨h, k, motor⟩ action => safe h k (Port.safe_enters ((modes motor).1 action) (by decide)),
    fun ⟨h, k, motor⟩ action => safe h k (Port.safe_enters ((modes motor).2.1 action) (by decide)),
    fun ⟨h, k, motor⟩ ramp rest => safe h k (Port.safe_stays (((modes motor).2.2 ramp).1 rest)),
    fun ⟨h, k, motor⟩ ramp power => safe h k (Port.safe_enters (((modes motor).2.2 ramp).2.1 power) (by decide)),
    fun ⟨h, k, motor⟩ ramp drives coasting => safe h k (Port.safe_enters
      ((((modes motor).2.2 ramp).2.2 drives).trans (if_pos coasting)) (by decide)),
    fun ⟨h, k, motor⟩ ramp drives kind found => safe h k ((Port.safe_ramps
      ((((modes motor).2.2 ramp).2.2 drives).trans (if_neg (by simp [kind, found])))).trans x.enterSafeRamp_eq),
    fun h => ?further, (giveCause_only c at_ s).sensors_eq, ?_⟩
  case entry =>
    have quiet := haltTold_quiet c at_ s
    have word := haltEntry_word c at_ s
    have ended : (haltEntry c at_ s).isRunning = false := by
      rw [haltEntry_eq, testHalted_isRunning, (told_halting c at_ s).1.isRunning, halting_isRunning]
    have speaker : (haltEntry c at_ s).audio.speaker = 0 := by
      rw [haltEntry_eq, (testHalted_from _).audio, (told_halting c at_ s).2.2.2, halting_speaker]
    obtain ⟨first, firstPort, furtherEmpty, rest, moving⟩ := haltEntry_halt (entry h)
    rw [← haltEntry_told, ← entry h] at quiet
    rw [← entry h] at ended speaker word
    obtain ⟨staging, silent, goes⟩ := quiet ended
    refine ⟨first, firstPort, furtherEmpty, rest, moving, staging, (silent v).1, (silent v).2.1, (silent v).2.2, speaker, goes,
      ?_, ?_⟩
    · refine word.1.trans ?_
      cases state : t.halt.state with
      | running => exact absurd ((isRunning_iff t).mpr state) (by simp [ended])
      | halting => rfl
      | halted => rfl
    · rw [word.2, first]
      rfl
  case joins =>
    rw [entry h]
    exact haltEntry_notice_joins present (fun w mem own => unwatched ⟨w, mem, own.1, own.2⟩) room
  case notice =>
    rw [entry h]
    exact haltEntry_notice present
  case telemetry =>
    have took := (furtherCause_record c d at_ (still h)).2.2.2.2.2.2.2
    rw [further h, List.all_eq_true]
    intro y mem
    rw [Bool.or_eq_true]
    refine (took.only y mem).imp_right fun ⟨z, there, same⟩ => List.any_eq_true.mpr ⟨z, there, ?_⟩
    rw [same]
    exact beq_self_eq_true _
  case breaks => 
    rw [entry h, (haltEntry_bus c at_ s).1, (haltEntry_bus c at_ s).2]
    have broken : haltBreak c (recordFirst c at_ s) = startBreak (recordFirst c at_ s) := if_pos ⟨hands, other⟩
    rw [broken]
    cases breaks : s.bus.breakSending with
    | some => exact .inr rfl
    | none =>
      obtain ⟨under, dropped⟩ := startBreak_breaks (s := recordFirst c at_ s) breaks
      exact .inl ⟨by rw [under]; rfl, dropped⟩
  case unbroken =>
    have whole : haltBreak c (recordFirst c at_ s) = recordFirst c at_ s :=
      if_neg fun both => not.elim (fun no => Bool.false_ne_true (no.symm.trans both.1)) both.2
    rw [entry h, (haltEntry_bus c at_ s).1, whole]
    rfl
  case further =>
    obtain ⟨first, firstPort, set, staging, breaks, halted, -, -⟩ := furtherCause_record c d at_ (still h)
    rw [further h]
    refine ⟨first, firstPort, set, fun k => ?_, fun k => ?_, staging, breaks, halted⟩
    · rw [furtherCause_port, if_pos (coasted.mpr k), Port.enter_mode]
    · rw [furtherCause_port, if_neg (mt coasted.mp k)]
  · have shared := giveCause_shared c at_ s
    refine ⟨shared.battery, shared.clock, shared.hot, shared.station, shared.record, ?_⟩
    by_cases h : running
    · rw [entry h]
      exact haltEntry_stageMiss c at_ s
    · rw [further h]
      exact (furtherCause_record c d at_ (still h)).2.2.2.2.2.2.1

end Sys2Proof.Machine
end

section
/-! PROOF. Halt and Resume, and the safe timer (O44). -/

namespace Sys2Proof.Machine

/-! ### The causes that are present (R120, R129) -/

theorem causeSet_cons (c : CauseKind) (l : List CauseKind) : causeSet (c :: l) = 2 ^ (c.code - 1) + causeSet l := rfl

theorem causeSet_filter_cons (f : CauseKind → Bool) (c : CauseKind) (l : List CauseKind) :
    causeSet ((c :: l).filter f) = 2 ^ (c.code - 1) * boolNat (f c) + causeSet (l.filter f) := by
  cases met : f c
  · rw [List.filter_cons_of_neg (by simp [met])]
    simp [boolNat]
  · rw [List.filter_cons_of_pos met, causeSet_cons]
    simp [boolNat]

theorem causeSet_eq_zero {l : List CauseKind} : causeSet l = 0 ↔ l = [] := by
  cases l with
  | nil => exact ⟨fun _ => rfl, fun _ => rfl⟩
  | cons c l =>
    have positive : 0 < 2 ^ (c.code - 1) := Nat.two_pow_pos _
    rw [causeSet_cons]
    simp only [reduceCtorEq, iff_false]
    omega

/-- R120, R129: a kind of cause that is recorded and present. -/
def presentCause (s : State) (c : CauseKind) : Bool :=
  (s.halt.first == some c && firstPresent s) || (s.halt.further.contains c && causePresent c s)

theorem presentCauses_eq (s : State) : presentCauses s = CauseKind.all.filter (presentCause s) := rfl

/-- R120: a kind other than SensorHalt is present by itself. -/
theorem presentCause_kind {s : State} {c : CauseKind} (other : c ≠ .sensorHalt) :
    presentCause s c = ((s.halt.first == some c || s.halt.further.contains c) && causePresent c s) := by
  have first : (s.halt.first == some c && firstPresent s) = (s.halt.first == some c && causePresent c s) := by
    by_cases named : s.halt.first = some c
    · unfold firstPresent
      simp only [named]
    · rw [beq_eq_false_iff_ne.mpr named]
      rfl
  unfold presentCause
  rw [first, Bool.and_or_distrib_right]

/-- R120: a SensorHalt is present on the port of the record, or of the set. -/
theorem presentCause_sensorHalt (s : State) : presentCause s .sensorHalt = fourPorts.any fun q => sensorPresent q s
    && ((s.halt.first == some .sensorHalt && s.halt.firstPort == some (.sensor q)) || s.halt.further.contains .sensorHalt) := by
  have all (q : Fin 4) : q ∈ fourPorts := by fin_cases q <;> simp [fourPorts]
  have first : firstPresent s = true ∧ s.halt.first = some .sensorHalt
      ↔ s.halt.first = some .sensorHalt ∧ ∃ q, sensorPresent q s = true ∧ s.halt.firstPort = some (.sensor q) := by
    unfold firstPresent
    by_cases named : s.halt.first = some .sensorHalt
    · simp only [named, and_true, true_and]
      cases port : s.halt.firstPort with
      | none => simp
      | some at_ => cases at_ <;> simp
    · simp [named]
  have further : causePresent .sensorHalt s = true ↔ ∃ q, sensorPresent q s = true := by
    simp [causePresent, all]
  rw [Bool.eq_iff_iff]
  simp only [presentCause, Bool.or_eq_true, Bool.and_eq_true, beq_iff_eq, List.any_eq_true, all, true_and, further]
  rw [and_comm (a := s.halt.first = some .sensorHalt), first]
  constructor
  · rintro (⟨named, q, present, port⟩ | ⟨set, q, present⟩)
    · exact ⟨q, present, .inl ⟨named, port⟩⟩
    · exact ⟨q, present, .inr set⟩
  · rintro ⟨q, present, ⟨named, port⟩ | set⟩
    · exact .inl ⟨named, q, present, port⟩
    · exact .inr ⟨set, q, present⟩

/-- R129, Table 12-6: the set of a refused Resume. -/
theorem causeSet_presentCauses (s : State) : causeSet (presentCauses s) = 16 * boolNat (presentCause s .thermal)
    + 32 * boolNat (presentCause s .undervoltage) + 64 * boolNat (presentCause s .clockLost)
    + 256 * boolNat (presentCause s .sensorHalt) := by
  have absent {c : CauseKind} (other : c ≠ .sensorHalt) (never : causePresent c s = false) : boolNat (presentCause s c) = 0 := by
    rw [presentCause_kind other, never, Bool.and_false]
    rfl
  rw [presentCauses_eq]
  unfold CauseKind.all
  simp only [causeSet_filter_cons]
  rw [absent (c := .tabletHalt) (by decide) rfl, absent (c := .busBreak) (by decide) rfl, absent (c := .stall) (by decide) rfl,
    absent (c := .overcurrent) (by decide) rfl, absent (c := .linkLost) (by decide) rfl]
  simp only [CauseKind.code, causeSet, List.filter_nil, List.map_nil, List.sum_nil]
  omega

/-! ### An accepted Resume (R130) -/

theorem resuming_port (s : State) (p : Fin 4) : s.resuming.port p = (s.port p).resume := by
  obtain ⟨entries, eq⟩ := suspendMotorAll_only (fourPorts.foldl (fun s p => putPort p (s.port p).resume s)
    (s.setHalt { s.halt with state := .running, first := none, firstPort := none, further := [], safeTimer := none }))
  have ports := port_resumeAll (s.setHalt { s.halt with
    state := .running, first := none, firstPort := none, further := [], safeTimer := none }) p
  rw [State.resuming, eq]
  exact ports

theorem resuming_entry (s : State) (n : Fin 16) : s.resuming.entry n = (s.entry n).resumed := by
  have all : n ∈ sixteen := by revert n; decide
  exact (entry_foldl_of_nodup entry_suspendMotorEntry sixteen (by decide) _ n).trans (if_pos all)

theorem Entry.resumed_motor {e : Entry} {r : Route} (route : e.route = some r) (motor : r.dest.motorPort.isSome = true) :
    e.resumed = e.suspend := by
  simp only [Entry.resumed, route]
  exact if_pos motor

theorem Entry.suspend_acting (e : Entry) : e.suspend.acting = false := by
  unfold Entry.suspend
  split
  · rfl
  · exact Bool.not_eq_true _ ▸ ‹_›

theorem Entry.suspend_route (e : Entry) : e.suspend.route = e.route := by
  unfold Entry.suspend
  split <;> rfl

theorem Entry.resumed_route (e : Entry) : e.resumed.route = e.route := by
  unfold Entry.resumed
  split
  · split
    · exact e.suspend_route
    · rfl
  · rfl

/-- R130, step 3: an entry that acts after a Resume acted before it, and has no motor for its destination. -/
theorem Entry.resumed_acting {e : Entry} (acting : e.resumed.acting = true) :
    e.acting = true ∧ ∀ r, e.route = some r → r.dest.motorPort = none := by
  unfold Entry.resumed at acting
  split at acting
  next r route =>
    split at acting
    · exact absurd acting (by simp [e.suspend_acting])
    next other =>
      refine ⟨acting, fun r' route' => ?_⟩
      rw [route] at route'
      obtain rfl := Option.some.inj route'
      simpa using other
  next route => exact ⟨acting, fun r route' => absurd (route.symm.trans route') (by simp)⟩

/-- A station that resumes, before it tells of it. -/
def State.resumed (s : State) : State := threeVoices.foldl (fun s v => resumeVoice v s) s.resuming

theorem resumed_kept (s : State) : VoiceKept s.resuming s.resumed := resumeVoices_kept _

theorem resumed_updated (s : State) : Updated s.resumed (resumeStation s) := resumeStation_updated s

theorem resumed_link (s : State) : s.resuming.link = s.link ∧ s.resuming.bus = s.bus := by
  obtain ⟨_, _, _, eq⟩ := resuming_only s
  rw [eq]
  exact ⟨rfl, rfl⟩

theorem resumed_entry (s : State) (n : Fin 16) : s.resumed.entry n = (s.entry n).resumed := by
  rw [← resuming_entry]
  unfold State.entry
  rw [(resumed_kept s).entries]

theorem resumed_unrouted (s : State) (p : Fin 4) : ¬s.resumed.Routed p := by
  rintro ⟨n, r, acting, route, motor⟩
  rw [resumed_entry] at acting route
  have none := (Entry.resumed_acting acting).2 r ((s.entry n).resumed_route ▸ route)
  exact absurd (motor.symm.trans none) (by simp)

theorem resumeStation_port (s : State) (p : Fin 4) : (resumeStation s).port p = (s.port p).resume := by
  rw [(resumed_updated s).port_unrouted (resumed_unrouted s p), ← resuming_port]
  unfold State.port
  rw [(resumed_kept s).ports]

theorem resumeStation_halt (s : State) : (resumeStation s).halt.state = .running ∧ (resumeStation s).halt.first = none
    ∧ (resumeStation s).halt.firstPort = none ∧ (resumeStation s).halt.further = []
    ∧ (resumeStation s).halt.safeTimer = none := by
  obtain ⟨_, _, _, eq⟩ := resuming_only s
  rw [(resumed_updated s).kept.halt, (resumed_kept s).halt, eq]
  exact ⟨rfl, rfl, rfl, rfl, rfl⟩

theorem resumed_halt (s : State) : s.resumed.halt.state = .running ∧ s.resumed.halt.first = none := by
  obtain ⟨_, _, _, eq⟩ := resuming_only s
  rw [(resumed_kept s).halt, eq]
  exact ⟨rfl, rfl⟩

theorem getBits_haltWord_clear {h : Halt} (running : h.state = .running) (none : h.first = none) (w : Int) :
    getBits 0 6 (haltWord h w) = 0 := by
  refine Nat.eq_of_testBit_eq fun j => ?_
  unfold haltWord
  rw [running, none, testBit_getBits, Nat.zero_testBit]
  by_cases inside : j < 6
  · rw [getLsbD_putBits (by omega), getLsbD_putBits (by omega)]
    by_cases low : j < 2
    · rw [if_neg (by omega), if_pos (by omega)]
      simp [HaltState.code]
    · rw [if_pos (by omega)]
      simp [causeCode]
  · simp [inside]

/-- R86: the halt controller's fields of signal 15 after a Resume. -/
theorem resumeStation_word (s : State) : getBits 0 6 ((resumeStation s).signal 15).value = 0 := by
  have eq : resumeStation s = notify 1 0 0 (writeHaltWord s.resumed) := rfl
  obtain ⟨running, none⟩ := resumed_halt s
  rw [eq, signal_of_signals (notify_signals _ _ _ _), writeHaltWord, updateSignal_15_bits _ _ (by decide) (by decide)]
  exact getBits_haltWord_clear running none _

/-- R130, step 3: an entry with a motor for its destination is suspended. -/
theorem resumeStation_entry {s : State} {n : Fin 16} {r : Route} (route : (s.entry n).route = some r)
    (motor : r.dest.motorPort.isSome = true) : (resumeStation s).entry n = (s.entry n).suspend := by
  have suspended : s.resumed.entry n = (s.entry n).suspend := (resumed_entry s n).trans (Entry.resumed_motor route motor)
  have still := ((resumed_updated s).entry n).still
  rw [suspended] at still
  exact still (s.entry n).suspend_acting

/-! ### The voices at a Resume (R81) -/

theorem resumeVoice_own {v : Fin 3} {s : State} (own : (s.voice v).pitchSource = .own) : resumeVoice v s = s := by
  simp only [resumeVoice, own]

/-- R81: a voice bound to a pitch that is Idle is given its tone. -/
theorem resumeVoice_bound {v : Fin 3} {n : Fin 16} {k : Nat} {s : State} (running : s.isRunning = true)
    (source : (s.voice v).pitchSource = .listen n) (bound : (s.voice v).boundPitch = some k)
    (idle : (s.voice v).state = .idle) : resumeVoice v s = enterWaiting v s := by
  have next : nextSound s.isRunning (s.voice v) = some .tone := by
    rw [running]
    simp [nextSound, source, bound]
  simp only [resumeVoice, source]
  rw [if_pos ⟨by simp [bound], idle⟩]
  exact chooseSound_waits next (.inl idle)

/-- R70: a voice that waits for the clock opens no gate by itself. -/
theorem enterWaiting_gate (v : Fin 3) (s : State) : (enterWaiting v s).audio.gate = .on ↔ s.audio.gate = .on := by
  unfold enterWaiting
  cases gate : s.audio.gate with
  | off =>
    rw [requestClock_off (s := s.setVoice v _) gate]
    split
    · simp
    · simp [gate]
  | starting =>
    rw [requestClock_starting (s := s.setVoice v _) gate]
    simp [gate]
  | on =>
    rw [requestClock_on (s := s.setVoice v _) gate, (leaveWaiting_gate _ _).1]
    simp [gate]

/-- The station resumes: it is Running, and its gate is On as in `s`. -/
def ResumesFrom (s t : State) : Prop := t.isRunning = true ∧ (t.audio.gate = .on ↔ s.audio.gate = .on)

theorem resumeVoice_resumes {s t : State} (v : Fin 3) (h : ResumesFrom s t) : ResumesFrom s (resumeVoice v t) := by
  obtain ⟨running, gate⟩ := h
  refine ⟨(resumeVoice_acts v t).kept.isRunning.trans running, ?_⟩
  unfold resumeVoice
  dsimp only
  split
  next n source =>
    split
    next may =>
      obtain ⟨k, bound⟩ := Option.isSome_iff_exists.mp may.1
      have next : nextSound t.isRunning (t.voice v) = some .tone := by
        rw [running]
        simp [nextSound, source, bound]
      rw [chooseSound_waits next (.inl may.2), enterWaiting_gate]
      exact gate
    · exact gate
  · exact gate

theorem resumed_voice (v : Fin 3) (s : State) : ∃ u, u.voice v = s.voice v ∧ ResumesFrom s u
    ∧ s.resumed.voice v = (resumeVoice v u).voice v := by
  obtain ⟨_, _, _, eq⟩ := resuming_only s
  have start : ResumesFrom s s.resuming := by
    rw [eq]
    exact ⟨rfl, .rfl⟩
  have voice : s.resuming.voice v = s.voice v := by
    rw [eq]
    rfl
  obtain ⟨u, same, resumes, acted⟩ := foldVoices_voice (f := resumeVoice) (I := ResumesFrom s) (s := s.resuming)
    (fun s ne => (resumeVoice_acts _ s).other ne) (fun v _ h => resumeVoice_resumes v h) start v
  exact ⟨u, same.trans voice, resumes, acted⟩

theorem resumeStation_own {v : Fin 3} {s : State} (own : (s.voice v).pitchSource = .own) :
    SameSound (s.voice v) ((resumeStation s).voice v) := by
  obtain ⟨u, same, -, acted⟩ := resumed_voice v s
  rw [resumeVoice_own (by rw [same]; exact own), same] at acted
  have sounds := ((resumed_updated s).voice v).sounds
  rw [acted] at sounds
  exact sounds (.inl own)

/-- R81: a voice bound to a pitch gets its continuous tone back. -/
theorem resumeStation_tone {v : Fin 3} {n : Fin 16} {s : State} (source : (s.voice v).pitchSource = .listen n)
    (bound : (s.voice v).boundPitch.isSome = true) (idle : (s.voice v).state = .idle) :
    (s.audio.gate = .on → ((resumeStation s).voice v).sound = some .tone)
      ∧ (s.audio.gate ≠ .on → ((resumeStation s).voice v).state = .waiting) := by
  obtain ⟨k, pitch⟩ := Option.isSome_iff_exists.mp bound
  obtain ⟨u, same, ⟨running, gate⟩, acted⟩ := resumed_voice v s
  rw [← same] at source pitch idle
  rw [resumeVoice_bound running source pitch idle] at acted
  obtain ⟨⟨-, busy⟩, on, shut⟩ := enterWaiting_tone source running pitch
  rw [← acted] at busy on shut
  have sounds := ((resumed_updated s).voice v).sounds (.inr busy)
  exact ⟨fun h => sounds.sound.trans (on (gate.mpr h)).1, fun h => sounds.state.trans (shut fun opened => h (gate.mp opened))⟩

/-! ### The notice of a Resume (R177) -/

theorem resumed_laneLeft (s : State) : LaneLeft 3 s s.resumed := by
  have kept := resumed_kept s
  have base : LaneLeft 3 s s.resuming := .of_link (resumed_link s).1
  exact base.trans ⟨kept.lane 3 (by decide), by rw [kept.link], by rw [kept.link]⟩

theorem resumeStation_notice {s : State} (present : s.link.present = true) :
    (∃ y ∈ ((resumeStation s).lane 3).outbound, y.msg = .notice 1 0 0) ∨ ((resumeStation s).lane 3).dropped = true := by
  have eq : resumeStation s = notify 1 0 0 (writeHaltWord s.resumed) := rfl
  have there : (writeHaltWord s.resumed).link.present = true :=
    (writeHaltWord_updated _).present.trans ((resumed_laneLeft s).present.trans present)
  rw [eq, notify, tell_lane there]
  exact (Lane.take_took _ _).taken

theorem resumeStation_notice_joins {s : State} (present : s.link.present = true) (unheard : ∀ n, ¬State.hears s.bus.number 15 s n)
    (unwatched : s.Unwatched 15) (room : (s.lane 3).outbound.length < 6) :
    ((resumeStation s).lane 3).outbound.map OutSlot.msg = (s.lane 3).outbound.map OutSlot.msg ++ [.notice 1 0 0] := by
  have eq : resumeStation s = notify 1 0 0 (writeHaltWord s.resumed) := rfl
  have left := resumed_laneLeft s
  have number : s.resumed.bus.number = s.bus.number := by rw [(resumed_kept s).bus, (resumed_link s).2]
  have quiet : ∀ n, ¬State.hears s.resumed.bus.number 15 s.resumed n := by
    rintro n ⟨acting, r, route, own, signal⟩
    rw [resumed_entry] at acting route
    rw [number] at own
    exact unheard n ⟨(Entry.resumed_acting acting).1, r, (s.entry n).resumed_route ▸ route, own, signal⟩
  have unlisted : s.resumed.Unwatched 15 := by
    unfold State.Unwatched
    rw [left.watch, number]
    exact unwatched
  have written : (writeHaltWord s.resumed).link = s.resumed.link :=
    (updateSignal_unheard_link _ quiet).trans (congrArg State.link (watchOwn_unlisted _ unlisted))
  rw [eq, notify, tell_lane (by rw [written, left.present, present]), lane_of_link written, left.lane,
    Lane.take_of_room rfl room, Lane.join_msgs]

/-! ### The safe timer (R126) -/

/-- The ports of a Halting station while the safe timer's coast requests go through them. -/
structure Coasting (s u : State) : Prop where
  first : u.halt.first = s.halt.first
  further : u.halt.further = s.halt.further
  timer : u.halt.safeTimer = none
  flags : u.FlagsKept
  port : ∀ j, u.port j = s.port j ∨ (s.port j).mode.settled = false ∧ u.port j = (s.port j).enter .coast
  state : (u.halt.state = .halting ∧ ¬u.AllSettled) ∨ (u.halt.state = .halted ∧ u.AllSettled)

theorem coastPort_settled (p j : Fin 4) (s : State) :
    (coastPort p s).halt.settled[j] = if p = j then true else s.halt.settled[j] := by
  unfold coastPort changeMode
  rw [(testHalted_from _).settled, putPort_settled, Port.enter_mode]
  rfl

theorem coastPort_flags {s : State} (p : Fin 4) (flags : s.FlagsKept) : (coastPort p s).FlagsKept := by
  intro j
  rw [coastPort_settled, coastPort_port]
  split
  · rw [Port.enter_mode]
    rfl
  · exact flags j

/-- R125, R126: a coast request to a port that has not settled. -/
theorem Coasting.coast {s u : State} {p : Fin 4} (h : Coasting s u) (moving : u.halt.settled[p] = false) :
    Coasting s (coastPort p u) := by
  have halting : u.halt.state = .halting := by
    rcases h.state with ⟨halting, -⟩ | ⟨-, all⟩
    · exact halting
    · exact absurd (all p) (by simp [moving])
  have afterTest := testHalted_from (putPort p ((u.port p).enter .coast) u)
  have tested := testHalted_halt (putPort p ((u.port p).enter .coast) u)
  have was : u.port p = s.port p := by
    rcases h.port p with same | ⟨-, coasts⟩
    · exact same
    · exact absurd (h.flags p) (by rw [moving, coasts, Port.enter_mode]; decide)
  refine ⟨afterTest.first.trans h.first, afterTest.further.trans h.further, ?_, coastPort_flags p h.flags, fun j => ?_, ?_⟩
  · by_cases all : (putPort p ((u.port p).enter .coast) u).AllSettled
    · exact congrArg Halt.safeTimer (tested.1 halting all)
    · exact (congrArg Halt.safeTimer (tested.2 fun both => all both.2)).trans h.timer
  · rw [coastPort_port]
    split
    next same =>
      subst same
      refine .inr ⟨?_, by rw [was]⟩
      rw [← was, ← h.flags p]
      exact moving
    · exact h.port j
  · have settled : (coastPort p u).AllSettled ↔ (putPort p ((u.port p).enter .coast) u).AllSettled := by
      unfold State.AllSettled
      rw [show (coastPort p u).halt.settled = _ from afterTest.settled]
    by_cases all : (putPort p ((u.port p).enter .coast) u).AllSettled
    · exact .inr ⟨congrArg Halt.state (tested.1 halting all), settled.mpr all⟩
    · exact .inl ⟨(congrArg Halt.state (tested.2 fun both => all both.2)).trans halting, fun h => all (settled.mp h)⟩

/-- R126: the coast requests of the safe timer settle the ports they reach. -/
theorem coasting_foldl {s : State} (l : List (Fin 4)) {u : State} (h : Coasting s u) :
    let t := l.foldl (fun s p => if s.halt.settled[p] then s else coastPort p s) u
    Coasting s t ∧ ∀ j, j ∈ l ∨ u.halt.settled[j] = true → t.halt.settled[j] = true := by
  induction l generalizing u with
  | nil => exact ⟨h, fun j settled => settled.resolve_left (List.not_mem_nil)⟩
  | cons p l ih =>
    rw [List.foldl_cons]
    by_cases settled : u.halt.settled[p] = true
    · rw [if_pos settled]
      obtain ⟨coasting, all⟩ := ih h
      refine ⟨coasting, fun j reached => all j (reached.elim (fun mem => ?_) .inr)⟩
      rcases List.mem_cons.mp mem with rfl | later
      · exact .inr settled
      · exact .inl later
    · rw [if_neg settled]
      obtain ⟨coasting, all⟩ := ih (h.coast (Bool.not_eq_true _ ▸ settled))
      refine ⟨coasting, fun j reached => all j ?_⟩
      rw [coastPort_settled]
      by_cases same : p = j
      · exact .inr (if_pos same)
      · rw [if_neg same]
        exact reached.imp_left fun mem => (List.mem_cons.mp mem).resolve_left (Ne.symm same)

/-- Settles O44. -/
theorem haltAndResume : Obligations.HaltAndResume := by
  intro via p n m r v s awake h resume held active recorded sensorPresent set x motor flagged u hears15
  have run {c op t} (block : blockOp c = some (via, atStation 0 op)) (taken : op s = t) : exec c s = ends (answered via t) := by
    rw [exec_of_blockOp block awake, ← taken]
    exact congrArg (fun t => ends (answered via t)) (if_pos rfl)
  have resumes {t} (taken : haltResume s = t) : exec resume s = ends (answered via t) := run rfl taken
  have timer : exec .safeTimerExpiry s = ends (if s.halt.safeTimer.isSome ∧ s.halt.state = .halting then
      fourPorts.foldl (fun s p => if s.halt.settled[p] then s else coastPort p s) (s.setHalt { s.halt with safeTimer := none })
      else s) := by
    dsimp only [exec]
    exact State.whenAwake_awake awake _
  have causes : causeSet (presentCauses s) = set := by
    rw [causeSet_presentCauses, presentCause_kind (by decide), presentCause_kind (by decide), presentCause_kind (by decide),
      presentCause_sensorHalt]
    rfl
  have halted (state : h.state = .halted) : haltResume s = if (presentCauses s).isEmpty then done (resumeStation s)
      else (s, some ⟨.causeActive, [charsOf 2 (causeSet (presentCauses s))]⟩) := by
    have state : s.halt.state = .halted := state
    simp only [haltResume, state]
  refine ⟨run rfl rfl, fun state => resumes ?_, fun state => resumes ?_, fun state some => ?_, fun state none => ?accepted,
    fun idle => timer.trans ?_, fun state runs flags ⟨q, moving⟩ => ?expires⟩
  · have state : s.halt.state = .running := state
    simp only [haltResume, state]
  · have state : s.halt.state = .halting := state
    simp only [haltResume, state]
  · refine (resumes (halted state)).trans ?_
    rw [if_neg, causes]
    rw [List.isEmpty_iff, ← causeSet_eq_zero, causes]
    exact some
  case accepted =>
    have empty : (presentCauses s).isEmpty = true := by
      rw [List.isEmpty_iff, ← causeSet_eq_zero, causes]
      exact none
    obtain ⟨running, first, firstPort, further, safe⟩ := resumeStation_halt s
    have sound (own : u.pitchSource = .own) := resumeStation_own (s := s) own
    refine ⟨resumeStation s, (resumes (halted state)).trans (by rw [if_pos empty]), running, first, firstPort, further, safe,
      resumeStation_word s, fun kind => ?_, fun kind => ?_, fun is route acting => ?_,
      fun own => ⟨(sound own).state, (sound own).sound, (sound own).queue⟩, resumeStation_tone, resumeStation_notice,
      fun present quiet room => ?_, resumeStation_staging s, ?_, ?_⟩
    · rw [resumeStation_port]
      exact if_pos kind
    · rw [resumeStation_port]
      exact if_neg kind
    · have port : r.dest.motorPort.isSome = true := by rcases is with is | is | is <;> rw [is] <;> rfl
      rw [resumeStation_entry route port, Entry.suspend, if_pos acting]
      exact ⟨rfl, rfl⟩
    · exact resumeStation_notice_joins present (fun k heard => quiet (.inl ⟨k, heard⟩))
        (fun w mem own => quiet (.inr ⟨w, mem, own.1, own.2⟩)) room
    · obtain ⟨_, _, _, eq⟩ := resuming_only s
      rw [(resumed_updated s).kept.clock, (resumed_kept s).clock, eq]
    · obtain ⟨_, _, _, eq⟩ := resuming_only s
      rw [(resumed_updated s).kept.sensors, (resumed_kept s).sensors, eq]
  case expires =>
    have start : Coasting s (s.setHalt { s.halt with safeTimer := none }) :=
      ⟨rfl, rfl, rfl, flags, fun _ => .inl rfl, .inl ⟨state, fun all => absurd (all q) (by simpa using moving)⟩⟩
    obtain ⟨coasted, all⟩ := coasting_foldl fourPorts start
    have settled (j : Fin 4) := all j (.inl (by fin_cases j <;> simp [fourPorts]))
    refine ⟨_, timer.trans (by rw [if_pos ⟨runs, state⟩]), ?_, coasted.timer, coasted.first, coasted.further,
      fun moves => ?_, fun rests => ?_⟩
    · rcases coasted.state with ⟨-, no⟩ | ⟨ended, -⟩
      · exact absurd settled no
      · exact ended
    · rcases coasted.port p with same | ⟨-, coasts⟩
      · exact absurd (settled p) (by rw [coasted.flags p, same, moves]; decide)
      · exact coasts
    · rcases coasted.port p with same | ⟨moves, -⟩
      · exact same
      · exact absurd (rests.symm.trans moves) (by decide)
  · refine congrArg ends (if_neg fun both => ?_)
    rcases idle with other | stopped
    · exact other both.2
    · exact absurd both.1 (by rw [show s.halt.safeTimer = _ from stopped]; decide)

end Sys2Proof.Machine
end

section
/-! PROOF. The commands of the Station block and the reset of a pending Restart (O45). -/

namespace Sys2Proof.Machine

/-! ### A reset (R186) -/

/-- R186: a reset takes the serial, the record with a store under way, the battery monitor, the kinds held and the
waiting commands from the state it begins at, and nothing else. -/
theorem beginReset_of_serial {b : Bus} {x : Station} {l : Link} {s : State} (serial : b.serial = s.bus.serial)
    (store : l.store = s.link.store) (k : ResetKind) :
    beginReset k { s with bus := b, station := x, link := l } = beginReset k s := by
  unfold beginReset readImage resetImage
  simp only [serial, store]

theorem ends_beginReset (k : ResetKind) (s : State) : ends (beginReset k s) = .next (beginReset k s) := by
  have waits : restartFrameGone (beginReset k s) = false := by
    unfold restartFrameGone
    rw [beginReset_restartPending]
  unfold ends restartAfter
  rw [if_neg (by simp [waits])]

/-! ### How an event ends (R163) -/

theorem ends_free {s : State} (free : s.station.restartPending = none ∨ s.station.restartPending = some .message) :
    ends s = .next s := by
  have waits : restartFrameGone s = false := by
    unfold restartFrameGone
    rcases free with none | message
    · rw [none]
    · rw [message]
  unfold ends restartAfter
  rw [if_neg (by simp [waits])]

theorem restartFrameGone_iff {s : State} {stamp : Nat} (pending : s.station.restartPending = some (.frame stamp)) :
    restartFrameGone s = true ↔ ¬∃ f ∈ s.bus.sending.toList ++ s.bus.queue, f.stamp = stamp := by
  unfold restartFrameGone
  rw [pending]
  simp only [Bool.not_eq_true', List.any_eq_false, beq_iff_eq, not_exists, not_and]

theorem ends_frame {s : State} {stamp : Nat} (pending : s.station.restartPending = some (.frame stamp)) :
    ((∃ f ∈ s.bus.sending.toList ++ s.bus.queue, f.stamp = stamp) → ends s = .next s)
      ∧ ((¬∃ f ∈ s.bus.sending.toList ++ s.bus.queue, f.stamp = stamp) → ends s = .next (beginReset .command s)) := by
  refine ⟨fun held => ?_, fun gone => ?_⟩
  · unfold ends restartAfter
    rw [if_neg fun gone => (restartFrameGone_iff pending).mp gone held]
  · unfold ends restartAfter
    rw [if_pos ((restartFrameGone_iff pending).mpr gone)]

/-! ### The commands -/

theorem atStation_zero (op : State → Taken) (s : State) : atStation 0 op s = op s := if_pos rfl

/-- Settles O45. -/
theorem stationCommands : Obligations.StationCommands := by
  intro via d tk stamp k m s awake restart retry pending noRestart onBus inStation atOnce flags cause fields
  have run {c op t} (block : blockOp c = some (via, atStation 0 op)) (taken : op s = t) : exec c s = ends (answered via t) := by
    rw [exec_of_blockOp block awake, atStation_zero, taken]
  have restarts {t} (taken : stationRestart via s = t) : exec restart s = ends (answered via t) := run rfl taken
  have reset : exec .restartReset s
      = ends (if s.station.restartPending.isSome then beginReset .command s else s) := by
    dsimp only [exec]
    exact State.whenAwake_awake awake _
  have may (none : noRestart) : ¬(s.station.restartPending.isSome = true) := by simp [show s.station.restartPending = _ from none]
  refine ⟨fun waits => ⟨restarts (if_pos waits), ?_⟩, fun none => ?_, fun none now => ?atOnce, fun none told => ?tablet, rfl,
    fun none ⟨bus, up⟩ _ => ?reply, fun none ⟨bus, up⟩ full higher fresh => ?refused, fun sending is waits => ?sent, ends_frame,
    ends_free, fun reply => ?query, ?broadcast, fun on => ?_, fun starts => ?_, fun failed => ?_⟩
  · rw [reset, if_pos waits, ends_beginReset]
  · rw [reset, if_neg (may none)]
  case atOnce =>
    have resets : stationRestart via s = (beginReset .command s, .none) := by
      unfold stationRestart
      rw [if_neg (may none)]
      rcases now with rfl | ⟨rfl, withdrawn⟩
      · rfl
      · exact if_pos withdrawn
    exact (restarts resets).trans (ends_beginReset _ _)
  case tablet =>
    subst told
    exact restarts (if_neg (may none))
  case reply =>
    subst bus
    refine restarts (t := (busReply d tk ⟨.done, []⟩ (awaitRestart (.frame s.bus.nextStamp) s), .none)) ?_
    unfold stationRestart
    rw [if_neg (may none)]
    exact if_neg (by simp [up])
  case refused =>
    subst bus
    have dropped : stationRestart (.bus d tk) s = (passStamp (pending (.frame s.bus.nextStamp)), .none) := by
      unfold stationRestart
      rw [if_neg (may none)]
      refine (if_neg (by simp [up])).trans (congrArg (·, Option.none) ?_)
      exact replyRequest_refused (s := pending (.frame s.bus.nextStamp)) up full higher d _
    refine (restarts dropped).trans (((ends_frame (s := passStamp (pending (.frame s.bus.nextStamp))) rfl).2 ?_).trans ?_)
    · rintro ⟨f, mem, same⟩
      exact fresh f mem same
    · exact congrArg Host.Outcome.next (beginReset_of_serial (s := s) (x := (pending (.frame s.bus.nextStamp)).station)
        (b := { s.bus with nextStamp := s.bus.nextStamp + 1 }) (l := s.link) rfl rfl .command)
  case sent =>
    have row : exec .uartMessageSent s = ends (if s.link.sending.any SentMessage.restart ∧ s.station.restartPending = some .message
        then beginReset .command (s.setLink { s.link with sending := .none }) else s.setLink { s.link with sending := .none }) := by
      dsimp only [exec]
      exact State.whenAwake_awake awake _
    rw [row, if_pos ⟨by simp [sending, is], waits⟩, ends_beginReset]
    exact congrArg Host.Outcome.next (beginReset_of_serial (s := s) (b := s.bus) (x := s.station)
      (l := { s.link with sending := .none }) rfl rfl .command)
  case query =>
    have report : stationReport s = fields := by
      have causes : resetCauseCode s.station.resetCause s.station.recordInvalid = cause := by
        simp only [resetCauseCode, cause]
        cases s.station.recordInvalid <;> cases s.station.resetCause <;> rfl
      have shown : boolNat s.bus.busErrorSeen + 2 * boolNat s.link.present = flags := by
        simp only [flags]
        cases s.bus.busErrorSeen <;> cases s.link.present <;> rfl
      unfold stationReport
      rw [causes, shown]
      rfl
    refine run (c := .queryStation via 0) rfl ?_
    unfold stationQuery
    cases via with
    | broadcast => exact absurd rfl reply
    | _ => rw [report]
  case broadcast =>
    rw [exec_of_blockOp (c := .queryStation .broadcast 0) rfl awake, atStation_zero]
    rfl
  · exact run (c := retry) rfl (by simp only [stationClockRetry, on])
  · exact run (c := retry) rfl (by rcases starts with state | state <;> simp only [stationClockRetry, state])
  · exact run (c := retry) rfl (t := (s.setClock ⟨.onRCStarting, .starting, .off, some 20, none, some via⟩, none))
      (by simp only [stationClockRetry, failed]; rfl)

end Sys2Proof.Machine
end

section
/-! PROOF. What an update of a signal keeps of the bus station and of the audio clock, in a Running station too; and the
audio clock at its loss and its return (R70, R71). -/

namespace Sys2Proof.Machine

/-! ### What every update keeps -/

/-- `t` has the bus station, the audio clock, the voices, the halt record and the clock unit of `s`, and what the tablet
has been told of commands. -/
structure SameStation (s t : State) : Prop where
  bus : t.bus = s.bus
  audio : t.audio = s.audio
  voices : t.voices = s.voices
  halt : t.halt = s.halt
  clock : t.clock = s.clock
  lane : t.lane 1 = s.lane 1
  forwarded : t.link.forwarded = s.link.forwarded

theorem lane_setLane_ne {l k : Fin 4} (other : k ≠ l) (x : Lane) (s : State) : (s.setLane l x).lane k = s.lane k := by
  unfold State.lane State.setLane State.setLink
  exact Vector.getElem_set_ne l.isLt k.isLt fun same => other (Fin.ext same.symm)

/-- The requests that an update can make: frames for the transmit queue, and values for the voices. -/
structure KeptByOffers (I : State → Prop) : Prop where
  other : ∀ {s t}, SameStation s t → I s → I t
  join : ∀ {s} f, s.isWithdrawn = false → I s → I (joinQueue f s).1
  stamp : ∀ {s}, s.isWithdrawn = false → I s → I (passStamp s)
  refresh : ∀ {s} i payload, s.isWithdrawn = false → I s → I (s.setBus { s.bus with queue := refreshFrames i payload s.bus.queue })
  pitch : ∀ {s} v n x, I s → I (valuePitch v n x s)
  volume : ∀ {s} v n x, I s → I (valueVolume v n x s)

section

variable {I : State → Prop} (k : KeptByOffers I) {s : State}
include k

theorem KeptByOffers.same {t : State} (h : I s) (same : SameStation s t) : I t := k.other same h

theorem KeptByOffers.tell {l : Fin 4} (other : 1 ≠ l) (m : OutMsg) (h : I s) : I (tell l m s) :=
  ite_keeps (I := I) (fun _ => k.same h ⟨rfl, rfl, rfl, rfl, rfl, (lane_setLane_ne other _ s), rfl⟩) fun _ => h

theorem KeptByOffers.addFrame {kind : FrameKind} {route : Nat} {payload : List Byte} {o : Option Origin}
    (up : ¬s.isWithdrawn = true) (h : I s) : I (addFrame kind route payload o s).1 := by
  have up : s.isWithdrawn = false := Bool.not_eq_true _ ▸ up
  exact k.join _ up (k.stamp up h)

theorem KeptByOffers.publishRequest (i : Fin 16) (h : I s) : I (publishRequest i s) :=
  ite_keeps (I := I) (fun _ => h) fun up =>
    ite_keeps (fun _ => k.refresh _ _ (Bool.not_eq_true _ ▸ up) h) fun _ => k.addFrame up h

theorem KeptByOffers.goRequest (g : Nat) (h : I s) : I (goRequest g s).1 := by
  unfold Machine.goRequest
  split
  · exact h
  next up =>
    split
    · exact h
    · exact k.addFrame up h

theorem KeptByOffers.replyRequest (d : Nat) (p : List Byte) (h : I s) : I (replyRequest d p s) :=
  ite_keeps (I := I) (fun _ => h) fun up => k.addFrame up h

theorem KeptByOffers.valuePort (p : Fin 4) (n : Fin 16) (v : Int) (h : I s) : I (valuePort p n v s) := by
  unfold Machine.valuePort
  dsimp only
  split
  · split
    · exact k.same h ⟨rfl, rfl, rfl, rfl, rfl, rfl, rfl⟩
    · exact k.same h ⟨rfl, rfl, rfl, rfl, rfl, rfl, rfl⟩
    · exact k.same h ⟨rfl, rfl, rfl, rfl, rfl, rfl, rfl⟩
    · exact h
  · exact h

theorem KeptByOffers.setEntry (n : Fin 16) (e : Entry) (h : I s) : I (s.setEntry n e) :=
  k.same h ⟨rfl, rfl, rfl, rfl, rfl, rfl, rfl⟩

theorem KeptByOffers.goTrigger (n : Fin 16) (g : Nat) (out : Int) (h : I s) : I (goTrigger n g out s).1 := by
  unfold Machine.goTrigger
  dsimp only
  split
  · split
    · split
      · exact k.goRequest _ (k.setEntry _ _ h)
      · exact k.setEntry _ _ h
    · exact h
  · exact k.setEntry _ _ h

theorem KeptByOffers.sendOutput (n : Fin 16) (d : Destination) (out : Int) (h : I s) : I (sendOutput n d out s).1 := by
  cases d with
  | motorPower p => exact k.valuePort p n out h
  | motorSpeed p => exact k.valuePort p n out h
  | motorPosition p => exact k.valuePort p n out h
  | voicePitch v => exact k.pitch v n out h
  | voiceVolume v => exact k.volume v n out h
  | goTrigger g => exact k.goTrigger n g out h

theorem KeptByOffers.takeValue (n : Fin 16) (v : Int) (h : I s) : I (takeValue n v s).1 := by
  unfold Machine.takeValue
  dsimp only
  split
  · exact h
  · exact k.sendOutput _ _ _ (k.setEntry _ _ h)

theorem KeptByOffers.offerValue (src : Nat) (i : Fin 16) (v : Int) (h : I s) : I (offerValue src i v s).1 := by
  suffices all : ∀ (l : List (Fin 16)) (t : State × Nat), I t.1 → I (l.foldl (offerEntry src i v) t).1 from
    all sixteen (s, 0) h
  intro l
  induction l with
  | nil => exact fun _ h => h
  | cons n l ih =>
    refine fun t h => ih _ ?_
    unfold offerEntry
    split
    · exact k.takeValue n v h
    · exact h

theorem KeptByOffers.offerOwn (i : Fin 16) (v : Int) (h : I s) : I (offerOwn i v s).1 := by
  unfold Machine.offerOwn
  split
  · exact k.offerValue _ i v h
  · exact h

theorem KeptByOffers.publishUpdate (i : Fin 16) (h : I s) : I (publishUpdate i s) :=
  ite_keeps (I := I) (fun _ => k.publishRequest i h) fun _ => ite_keeps (fun _ => k.publishRequest i h) fun _ => h

theorem KeptByOffers.watchOwn (i : Fin 16) (v : Int) (h : I s) : I (watchOwn i v s) := by
  have listed (w : List WatchPair) : I (s.setLink { s.link with watch := w }) := k.same h ⟨rfl, rfl, rfl, rfl, rfl, rfl, rfl⟩
  unfold Machine.watchOwn
  split
  · exact h
  · dsimp only
    split
    · exact k.tell (by decide) _ (listed _)
    · exact listed _

theorem KeptByOffers.updateWith {miss : State → State} (each : ∀ {s}, I s → I (miss s)) (i : Fin 16) (v : Int) (h : I s) :
    I (updateWith miss i v s) :=
  afterMisses_keeps (I := I) (t := (_, _)) each (k.watchOwn _ _ (k.publishUpdate _ (k.offerOwn _ _
    (k.same h ⟨rfl, rfl, rfl, rfl, rfl, rfl, rfl⟩))))

theorem KeptByOffers.setStageMiss (h : I s) : I (setStageMiss s) := by
  unfold Machine.setStageMiss
  split
  · exact k.tell (by decide) _ h
  · exact k.tell (by decide) _ (k.updateWith (k.tell (by decide) _) _ _ (k.same h ⟨rfl, rfl, rfl, rfl, rfl, rfl, rfl⟩))

theorem KeptByOffers.updateSignal (i : Fin 16) (v : Int) (h : I s) : I (updateSignal i v s) :=
  k.updateWith k.setStageMiss i v h

/-- R160: the acceptance of a command, on its way back. -/
theorem KeptByOffers.answered_done (told : ∀ m, I s → I (Machine.tell 1 m s)) (via : Via) (h : I s) :
    I (answered via (done s)) := by
  cases via with
  | tablet d tk => exact told _ h
  | bus d tk =>
    show I (busReply d tk ⟨.done, []⟩ s)
    unfold busReply
    exact k.replyRequest _ _ h
  | broadcast => exact h
  | staged => exact h

end

theorem setVoice_kept (v : Fin 3) (x : Voice) (s : State) : VoiceKept s (s.setVoice v x) :=
  ⟨rfl, rfl, rfl, rfl, rfl, rfl, rfl, rfl, rfl, rfl, rfl, rfl, rfl, fun _ _ => rfl⟩

theorem valuePitch_kept (v : Fin 3) (n : Fin 16) (x : Int) (s : State) : VoiceKept s (valuePitch v n x s) := by
  unfold valuePitch
  dsimp only
  split
  · split
    · exact setVoice_kept v _ s
    · split
      · exact (setVoice_kept v _ s).trans (chooseSound_acts v _).kept
      · exact setVoice_kept v _ s
  · exact .refl s

theorem valueVolume_kept (v : Fin 3) (n : Fin 16) (x : Int) (s : State) : VoiceKept s (valueVolume v n x s) := by
  unfold valueVolume
  split
  · exact setVoice_kept v _ s
  · exact .refl s

/-! ### A queued or pending Announce -/

/-- R150: an Announce is in the transmit queue or waits to join it. -/
def State.Announces (s : State) : Prop := (∃ f ∈ s.bus.queue, f.kind = .announce) ∨ s.bus.announcePending = true

theorem State.Announces.of_bus {s t : State} (bus : t.bus = s.bus) (h : s.Announces) : t.Announces := by
  unfold State.Announces
  rw [bus]
  exact h

theorem reportOrigin_bus (o : Option Origin) (r : Option Result) (s : State) : (reportOrigin o r s).bus = s.bus := by
  have told (l : Fin 4) (m : OutMsg) (t : State) : (tell l m t).bus = t.bus := by
    unfold tell
    split <;> rfl
  cases o with
  | none => rfl
  | some o =>
    cases r with
    | none => rfl
    | some r => exact told _ _ _

/-- R137: an Announce that is evicted waits to join again. -/
theorem State.Announces.joinQueue {s : State} (f : Frame) (h : s.Announces) : (joinQueue f s).1.Announces := by
  have joins {q : List Frame} (mem : (∃ g ∈ q, g.kind = .announce) ∨ s.bus.announcePending = true) :
      (s.setBus { s.bus with queue := insertFrame f q }).Announces :=
    mem.imp_left fun ⟨g, there, kind⟩ => ⟨g, mem_insertFrame.mpr (.inr there), kind⟩
  unfold Machine.joinQueue
  split
  · exact joins h
  · split
    · exact h
    next g last =>
      split
      · by_cases announce : g.kind = .announce
        · unfold frameLost
          rw [announce]
          exact .inr rfl
        · have left : (s.setBus { s.bus with queue := insertFrame f s.bus.queue.dropLast }).Announces := by
            refine joins (h.imp_left fun ⟨x, mem, kind⟩ => ⟨x, ?_, kind⟩)
            rw [← List.dropLast_append_getLast? g last, List.mem_append, List.mem_singleton] at mem
            exact mem.resolve_right fun same => announce (same ▸ kind)
          unfold frameLost
          split
          · exact left.of_bus (reportOrigin_bus _ _ _)
          · exact .inr rfl
          · exact left
      · exact h

theorem keptByOffers_announces : KeptByOffers State.Announces where
  other same h := h.of_bus same.bus
  join f _ h := h.joinQueue f
  stamp _ h := h
  refresh i payload _ h := h.imp_left fun ⟨f, mem, kind⟩ => by
    obtain ⟨g, map, same⟩ := refreshFrames_eq_map i payload _
    refine ⟨g f, ?_, (same f).1.trans kind⟩
    show g f ∈ refreshFrames i payload _
    rw [map]
    exact List.mem_map_of_mem mem
  pitch {s} v n x h :=
     h.of_bus (valuePitch_kept v n x s).bus
  volume {s} v n x h := h.of_bus (valueVolume_kept v n x s).bus

/-- R150: an Announce request of a station that is not Withdrawn. -/
theorem announceRequest_announces {s : State} (up : s.isWithdrawn = false) : (announceRequest s).Announces := by
  unfold announceRequest
  rw [if_neg (by simp [up])]
  split
  next queued =>
    obtain ⟨f, mem, kind⟩ := List.any_eq_true.mp queued
    exact .inl ⟨f, mem, by simpa using kind⟩
  · dsimp only
    split
    next joined =>
      unfold addFrame joinQueue at joined ⊢
      split
      · exact .inl ⟨_, mem_insertFrame.mpr (.inl rfl), rfl⟩
      next full =>
        rw [if_neg full] at joined
        split at joined
        · exact absurd joined (by simp)
        next g last =>
          split at joined
          next lower =>
            have lower : 6 < g.kind.code := lower
            exact absurd lower (by cases g.kind <;> decide)
          · exact absurd joined (by simp)
    · exact .inr rfl

/-! ### A withdrawal (R152) -/

/-- R152: the transmit queue of a Withdrawn station takes no frame, whatever is updated. -/
theorem keptByOffers_withdrawn {b : Bus} (withdrawn : b.withdrawn ≠ []) {l : Lane} {n : Nat} :
    KeptByOffers fun s => s.bus = b ∧ s.lane 1 = l ∧ s.link.forwarded = n := by
  have absurd_up {s : State} (h : s.bus = b) (up : s.isWithdrawn = false) : False := by
    have empty : s.bus.withdrawn = [] := by simpa [State.isWithdrawn] using up
    exact withdrawn (h ▸ empty)
  have voices {s t : State} (kept : VoiceKept s t) (h : s.bus = b ∧ s.lane 1 = l ∧ s.link.forwarded = n) :
      t.bus = b ∧ t.lane 1 = l ∧ t.link.forwarded = n :=
    ⟨kept.bus.trans h.1, (kept.lane 1 (by decide)).trans h.2.1, (congrArg Link.forwarded kept.link).trans h.2.2⟩
  exact ⟨fun same h => ⟨same.bus.trans h.1, same.lane.trans h.2.1, same.forwarded.trans h.2.2⟩,
    fun f up h => (absurd_up h.1 up).elim, fun up h => (absurd_up h.1 up).elim, fun _ _ up h => (absurd_up h.1 up).elim,
    fun v n x h => voices (valuePitch_kept v n x _) h, fun v n x h => voices (valueVolume_kept v n x _) h⟩

/-- The commands among frames, each reported to its origin with BusFull, in their order. -/
def reportFull (l : List Frame) (s : State) : State := l.foldl (fun s f => frameDropped .busFull f s) s

theorem reportFull_told (l : List Frame) (s : State) : OnlyTold s (reportFull l s) := by
  induction l generalizing s with
  | nil => exact .refl s
  | cons f l ih => exact (frameDropped_told _ f s).trans (ih _)

theorem tell_setBus (l : Fin 4) (m : OutMsg) (b : Bus) (s : State) : tell l m (s.setBus b) = (tell l m s).setBus b := by
  by_cases present : s.link.present = true
  · rw [tell_present present, tell_present (s := s.setBus b) present]
    rfl
  · have absent : s.link.present = false := Bool.not_eq_true _ ▸ present
    rw [tell_absent absent, tell_absent (s := s.setBus b) absent]

theorem reportOrigin_setBus (o : Option Origin) (r : Option Result) (b : Bus) (s : State) :
    reportOrigin o r (s.setBus b) = (reportOrigin o r s).setBus b := by
  cases o with
  | none => rfl
  | some o =>
    cases r with
    | none => rfl
    | some r =>
      exact tell_setBus 1 _ b (s.setLink { s.link with forwarded := s.link.forwarded - 1 })

theorem frameDropped_setBus (r : Result) (f : Frame) (b : Bus) (s : State) :
    frameDropped r f (s.setBus b) = (frameDropped r f s).setBus b := by
  unfold frameDropped
  split
  · exact reportOrigin_setBus _ _ b s
  · rfl

theorem reportFull_setBus (l : List Frame) (b : Bus) (s : State) :
    reportFull l (s.setBus b) = (reportFull l s).setBus b := by
  induction l generalizing s with
  | nil => rfl
  | cons f l ih =>
    show reportFull l (frameDropped .busFull f (s.setBus b)) = (reportFull l (frameDropped .busFull f s)).setBus b
    rw [frameDropped_setBus, ih]

theorem frameDropped_bus (r : Result) (f : Frame) (s : State) : (frameDropped r f s).bus = s.bus := by
  unfold frameDropped
  split
  · exact reportOrigin_bus _ _ s
  · rfl

theorem reportFull_bus (l : List Frame) (s : State) : (reportFull l s).bus = s.bus := by
  induction l generalizing s with
  | nil => rfl
  | cons f l ih => exact (ih _).trans (frameDropped_bus _ f s)

theorem reportFull_append (l k : List Frame) (s : State) : reportFull (l ++ k) s = reportFull k (reportFull l s) :=
  List.foldl_append

theorem dropSending_eq (s : State) :
    dropSending s = (reportFull s.bus.sending.toList s).setBus { s.bus with sending := none } := by
  unfold dropSending
  split
  next idle =>
    rw [idle]
    show s = s.setBus { s.bus with sending := none }
    rw [← idle]
    rfl
  next f sending =>
    rw [sending, frameDropped_setBus]
    rfl

/-- R152: a station that becomes Withdrawn, before it writes signal 15: its frames dropped, its queue empty. -/
def State.withdrawing (c : WithdrawnCause) (s : State) : State :=
  reportFull (s.bus.sending.toList ++ s.bus.queue) (s.setBus { s.bus with
    withdrawn := addWithdrawn c s.bus.withdrawn, queue := [], sending := none, announcePending := false, lineFaults := 0 })

theorem withdrawing_eq (c : WithdrawnCause) (s : State) : s.withdrawing c
    = (reportFull s.bus.queue (reportFull s.bus.sending.toList s)).setBus { s.bus with
      withdrawn := addWithdrawn c s.bus.withdrawn, queue := [], sending := none, announcePending := false, lineFaults := 0 } := by
  rw [State.withdrawing, reportFull_setBus, reportFull_append]

theorem withdraw_withdrawn {c : WithdrawnCause} {s : State} (withdrawn : s.isWithdrawn = true) :
    withdraw c s = s.setBus { s.bus with withdrawn := addWithdrawn c s.bus.withdrawn } := if_pos withdrawn

theorem withdraw_up {c : WithdrawnCause} {s : State} (up : s.isWithdrawn = false) :
    withdraw c s = writeWithdrawn true (s.withdrawing c) := by
  unfold withdraw
  dsimp only
  rw [if_neg (by simp [up])]
  refine congrArg (writeWithdrawn true) ?_
  rw [dropSending_eq]
  generalize withdrawn : ({ s.bus with withdrawn := addWithdrawn c s.bus.withdrawn } : Bus) = b
  have queue : b.queue = s.bus.queue := by rw [← withdrawn]
  have sending : b.sending = s.bus.sending := by rw [← withdrawn]
  show reportFull b.queue ((reportFull b.sending.toList (s.setBus b)).setBus _) = _
  rw [withdrawing_eq, reportFull_setBus _ b, reportFull_setBus, reportFull_setBus, queue, sending, ← withdrawn]
  rfl

theorem withdrawing_bus (c : WithdrawnCause) (s : State) : (s.withdrawing c).bus = { s.bus with
    withdrawn := addWithdrawn c s.bus.withdrawn, queue := [], sending := none, announcePending := false, lineFaults := 0 } :=
  reportFull_bus _ _

theorem mem_addWithdrawn (c : WithdrawnCause) (l : List WithdrawnCause) : c ∈ addWithdrawn c l := by
  have contains := contains_addWithdrawn c c l
  rw [beq_self_eq_true, Bool.true_or] at contains
  exact List.contains_iff_mem.mp contains

/-- R152: the bus station of a station that withdraws, and what it has reported of its commands. -/
theorem withdraw_up_bus {c : WithdrawnCause} {s : State} (up : s.isWithdrawn = false) :
    (withdraw c s).bus = (s.withdrawing c).bus ∧ (withdraw c s).lane 1 = (s.withdrawing c).lane 1
      ∧ (withdraw c s).link.forwarded = (s.withdrawing c).link.forwarded := by
  rw [withdraw_up up]
  refine (keptByOffers_withdrawn (b := (s.withdrawing c).bus) ?_).updateSignal 15 _ ⟨rfl, rfl, rfl⟩
  rw [withdrawing_bus]
  exact List.ne_nil_of_mem (mem_addWithdrawn c s.bus.withdrawn)

/-- R86, R152: the bit of signal 15 of a station that withdraws. -/
theorem withdraw_up_word {c : WithdrawnCause} {s : State} (up : s.isWithdrawn = false) :
    getBits 6 1 ((withdraw c s).signal 15).value = 1 := by
  rw [withdraw_up up, writeWithdrawn, updateSignal_15_bits _ _ (by decide) (by decide)]
  exact getBits_putBits_same (lo := 6) (width := 1) (v := 1) (by decide) (by decide) _

end Sys2Proof.Machine
end

section
/-! PROOF. The loss of the clock, part by part: the voices and the gate (R71), and what the tablet has been told of its
commands (R140, R152). -/

namespace Sys2Proof.Machine

/-! ### The audio clock at its loss (R71) -/

theorem clockLossVoice_acts (v : Fin 3) (s : State) : VoiceActs v s (clockLossVoice v s) := by
  have quiet : VoiceActs v s (s.setVoice v (s.voice v).quiet) := .setVoice (Voice.quiet_same _)
  have lost : VoiceActs v s (if (nextSound (s.setVoice v (s.voice v).quiet).isRunning (s.voice v)).isSome = true
      then enterWaiting v (s.setVoice v (s.voice v).quiet) else becomeIdle v (s.setVoice v (s.voice v).quiet)) :=
    ite_keeps (I := VoiceActs v s) (fun _ => quiet.trans (enterWaiting_acts v _)) fun _ => quiet.trans (becomeIdle_acts v _)
  unfold clockLossVoice
  dsimp only
  split
  · exact .refl v s
  · exact .refl v s
  · exact lost
  · exact lost
  · exact lost

/-- A voice that sounds (R71). -/
def Voice.Sounding (x : Voice) : Prop := x.state = .attack ∨ x.state = .sustain ∨ x.state = .release

theorem clockLossVoice_still {v : Fin 3} {s : State} (still : ¬(s.voice v).Sounding) : clockLossVoice v s = s := by
  unfold clockLossVoice
  dsimp only
  split
  · rfl
  · rfl
  next state => exact absurd (.inl state) still
  next state => exact absurd (.inr (.inl state)) still
  next state => exact absurd (.inr (.inr state)) still

theorem clockLossVoice_sounding {v : Fin 3} {s : State} (sounding : (s.voice v).Sounding) :
    clockLossVoice v s = if (nextSound s.isRunning (s.voice v)).isSome = true
      then enterWaiting v (s.setVoice v (s.voice v).quiet) else becomeIdle v (s.setVoice v (s.voice v).quiet) := by
  unfold clockLossVoice
  rcases sounding with state | state | state <;> simp only [state] <;> rfl

theorem enterWaiting_off {v : Fin 3} {s : State} (off : s.audio.gate = .off) (lost : s.clock.state ≠ .onPLL) :
    enterWaiting v s = s.setVoice v { (s.voice v).quiet with state := .waiting } :=
  (requestClock_off (s := s.setVoice v { (s.voice v).quiet with state := .waiting }) off v).trans (if_neg lost)

theorem becomeIdle_audio {v : Fin 3} {s : State} (off : s.audio.gate = .off) : (becomeIdle v s).audio = s.audio := by
  have told (l : Fin 4) (m : OutMsg) (t : State) : (tell l m t).audio = t.audio := by
    unfold tell
    split <;> rfl
  unfold becomeIdle
  dsimp only
  split
  · rfl
  · unfold startStopTimer reportIdle
    rw [if_neg (by rw [told]; simp [off])]
    exact told _ _ _

/-- R71: a voice with its audio clock gone and the gate Off. -/
theorem clockLossVoice_off {v : Fin 3} {s : State} (off : s.audio.gate = .off) (lost : s.clock.state ≠ .onPLL) :
    (clockLossVoice v s).audio = s.audio
      ∧ ((s.voice v).Sounding → (clockLossVoice v s).voice v = { (s.voice v).quiet with
          state := if (nextSound s.isRunning (s.voice v)).isSome = true then .waiting else .idle }) := by
  by_cases sounding : (s.voice v).Sounding
  · rw [clockLossVoice_sounding sounding]
    split
    · rw [enterWaiting_off (s := s.setVoice v (s.voice v).quiet) off lost]
      refine ⟨rfl, fun _ => ?_⟩
      rw [State.voice_setVoice, State.voice_setVoice]
      rfl
    · refine ⟨becomeIdle_audio (s := s.setVoice v (s.voice v).quiet) off, fun _ => ?_⟩
      rw [becomeIdle_voice, State.voice_setVoice]
      rfl
  · rw [clockLossVoice_still sounding]
    exact ⟨rfl, fun is => absurd is sounding⟩

/-- The audio clock as its loss leaves it. -/
def Audio.lost (a : Audio) : Audio := { a with gate := .off, startTimer := none, stopTimer := none, speaker := 0 }

theorem audioClockLost_off {s : State} (off : s.audio.gate = .off) : audioClockLost s = s := if_pos off

theorem audioClockLost_on {s : State} (on : s.audio.gate ≠ .off) : audioClockLost s
    = threeVoices.foldl (fun s v => clockLossVoice v s) (s.setAudio s.audio.lost) := if_neg on

theorem audioClockLost_kept (s : State) : VoiceKept s (audioClockLost s) := by
  have lost : VoiceKept s (s.setAudio s.audio.lost) :=
    ⟨rfl, rfl, rfl, rfl, rfl, rfl, rfl, rfl, rfl, rfl, rfl, rfl, rfl, fun _ _ => rfl⟩
  unfold audioClockLost
  split
  · exact .refl s
  · exact foldl_keeps (I := VoiceKept s) (f := fun s v => clockLossVoice v s)
      (fun {t} v h => h.trans (clockLossVoice_acts v t).kept) threeVoices lost

/-- R70, R71: the gate and every voice at the loss of the audio clock. -/
theorem audioClockLost_acts {s : State} (on : s.audio.gate ≠ .off) (lost : s.clock.state ≠ .onPLL) :
    (audioClockLost s).audio = s.audio.lost ∧ ∀ v,
      ((s.voice v).Sounding → (audioClockLost s).voice v = { (s.voice v).quiet with
          state := if (nextSound s.isRunning (s.voice v)).isSome = true then .waiting else .idle })
        ∧ (¬(s.voice v).Sounding → (audioClockLost s).voice v = s.voice v) := by
  let base := s.setAudio s.audio.lost
  let I : State → Prop := fun t => t.audio = s.audio.lost ∧ VoiceKept base t
  have step (v : Fin 3) {t : State} (h : I t) : I (clockLossVoice v t) := by
    have off : t.audio.gate = .off := congrArg Audio.gate h.1
    have clock : t.clock.state ≠ .onPLL := by rw [h.2.clock]; exact lost
    exact ⟨(clockLossVoice_off off clock).1.trans h.1, h.2.trans (clockLossVoice_acts v t).kept⟩
  rw [audioClockLost_on on]
  refine ⟨(foldl_keeps (I := I) (f := fun s v => clockLossVoice v s) (fun {t} v h => step v h) threeVoices
    ⟨rfl, .refl base⟩).1, fun v => ?_⟩
  obtain ⟨u, same, ⟨audio, kept⟩, acted⟩ := foldVoices_voice (f := clockLossVoice) (I := I) (s := base)
    (fun s ne => (clockLossVoice_acts _ s).other ne) step ⟨rfl, .refl base⟩ v
  have own : u.voice v = s.voice v := same
  refine ⟨fun sounding => acted.trans ?_, fun still => acted.trans (by rw [clockLossVoice_still (own ▸ still), own])⟩
  rw [(clockLossVoice_off (congrArg Audio.gate audio) (by rw [kept.clock]; exact lost)).2 (own ▸ sounding), own,
    kept.isRunning]
  rfl

/-! ### What the tablet is told of its commands -/

/-- The Command frames of a queue. -/
def commandsOf (q : List Frame) : List Frame := q.filter fun f => f.kind == .command

/-- `t` has told the tablet of its commands what `s` has, and holds the same Command frames. -/
structure CommandsLeft (s t : State) : Prop where
  lane : t.lane 1 = s.lane 1
  forwarded : t.link.forwarded = s.link.forwarded
  present : t.link.present = s.link.present
  sending : t.bus.sending = s.bus.sending
  commands : commandsOf t.bus.queue = commandsOf s.bus.queue

theorem CommandsLeft.refl (s : State) : CommandsLeft s s := ⟨rfl, rfl, rfl, rfl, rfl⟩

theorem CommandsLeft.trans {s t u : State} (h : CommandsLeft s t) (g : CommandsLeft t u) : CommandsLeft s u :=
  ⟨g.lane.trans h.lane, g.forwarded.trans h.forwarded, g.present.trans h.present, g.sending.trans h.sending,
    g.commands.trans h.commands⟩

theorem CommandsLeft.of_eq {s t : State} (link : t.link = s.link) (bus : t.bus = s.bus) : CommandsLeft s t :=
  ⟨lane_of_link link 1, by rw [link], by rw [link], by rw [bus], by rw [bus]⟩

theorem tell_commandsLeft {l : Fin 4} (other : 1 ≠ l) (m : OutMsg) (s : State) : CommandsLeft s (tell l m s) := by
  unfold tell
  split
  · exact ⟨lane_setLane_ne other _ s, rfl, rfl, rfl, rfl⟩
  · exact .refl s

theorem commandsOf_insertFrame {f : Frame} (other : f.kind ≠ .command) (q : List Frame) :
    commandsOf (insertFrame f q) = commandsOf q := by
  have none : (f.kind == .command) = false := beq_eq_false_iff_ne.mpr other
  induction q with
  | nil => simp [insertFrame, commandsOf, none]
  | cons g q ih =>
    unfold insertFrame
    split
    · simp [commandsOf, none]
    · unfold commandsOf at ih ⊢
      simp only [List.filter_cons, ih]

/-- R137: a Signal or an Event frame leaves the Command frames and what is told of them. -/
theorem publishRequest_commandsLeft (i : Fin 16) (s : State) : CommandsLeft s (publishRequest i s) := by
  have link := publishRequest_link i s
  refine ⟨lane_of_link link 1, by rw [link], by rw [link], ?_, ?_⟩
  · rw [(publishRequest_told i s).offered.kept.bus]
  · have code : 4 ≤ (signalKind i).code := by
      unfold signalKind
      split <;> decide
    have other : signalKind i ≠ .command := fun is => by rw [is] at code; exact absurd code (by decide)
    unfold publishRequest
    dsimp only
    split
    · rfl
    · split
      · show commandsOf (refreshFrames i (charsOf 2 (s.signal i).value) s.bus.queue) = commandsOf s.bus.queue
        unfold commandsOf refreshFrames
        induction s.bus.queue with
        | nil => rfl
        | cons f q ih =>
          rw [List.map_cons, List.filter_cons, List.filter_cons, ih]
          split
          next content =>
            have kind : f.kind = .signal ∨ f.kind = .event := by simpa using (Bool.and_eq_true_iff.mp content).1
            rcases kind with kind | kind <;> simp [kind]
          · rfl
      · unfold addFrame joinQueue
        dsimp only
        split
        · exact commandsOf_insertFrame other _
        · split
          · rfl
          next g last =>
            split
            next higher =>
              have evicted : g.kind ≠ .command := fun is => by
                have higher : (signalKind i).code < g.kind.code := higher
                rw [is] at higher
                exact absurd (show (signalKind i).code < 2 from higher) (by omega)
              have queue : ∀ t : State, (frameLost g t).bus.queue = t.bus.queue := fun t => by
                unfold frameLost
                split
                · rw [reportOrigin_bus]
                · rfl
                · rfl
              rw [queue]
              refine (commandsOf_insertFrame other _).trans ?_
              have last : s.bus.queue.getLast? = some g := last
              show commandsOf s.bus.queue.dropLast = commandsOf s.bus.queue
              conv_rhs => rw [← List.dropLast_append_getLast? g last]
              simp [commandsOf, evicted]
            · rfl

theorem publishUpdate_commandsLeft (i : Fin 16) (s : State) : CommandsLeft s (publishUpdate i s) :=
  ite_keeps (I := CommandsLeft s) (fun _ => publishRequest_commandsLeft i s) fun _ =>
    ite_keeps (fun _ => publishRequest_commandsLeft i s) fun _ => .refl s

theorem watchOwn_commandsLeft (i : Fin 16) (v : Int) (s : State) : CommandsLeft s (watchOwn i v s) := by
  have listed (w : List WatchPair) : CommandsLeft s (s.setLink { s.link with watch := w }) := ⟨rfl, rfl, rfl, rfl, rfl⟩
  unfold watchOwn
  split
  · exact .refl s
  · dsimp only
    split
    · exact (listed _).trans (tell_commandsLeft (l := 3) (by decide) _ _)
    · exact listed _

/-- An update of a station that is not Running leaves the Command frames and what is told of them. -/
theorem updateSignal_commandsLeft {s : State} (still : s.isRunning = false) (i : Fin 16) (v : Int) :
    CommandsLeft s (updateSignal i v s) := by
  rw [updateSignal_idle still]
  obtain ⟨entries, eq⟩ := offerOwn_idle_only (s := s.setSignal i { s.signal i with value := v }) still i v
  have offered : CommandsLeft s (offerOwn i v (s.setSignal i { s.signal i with value := v })).1 := by
    rw [eq]
    exact .of_eq rfl rfl
  refine (offered.trans (publishUpdate_commandsLeft i _)).trans ?_
  exact watchOwn_commandsLeft i v _

theorem tell_lane_eq (l : Fin 4) (m : OutMsg) (s : State) :
    (tell l m s).lane l = if s.link.present = true then (s.lane l).take m else s.lane l := by
  by_cases present : s.link.present = true
  · rw [tell_lane present, if_pos present]
  · have absent : s.link.present = false := Bool.not_eq_true _ ▸ present
    rw [tell_absent absent, if_neg present]

/-- R140: the report of a Command frame depends on the Command lane, its count and the link alone. -/
theorem frameDropped_commands {s t : State} (lane : t.lane 1 = s.lane 1) (forwarded : t.link.forwarded = s.link.forwarded)
    (present : t.link.present = s.link.present) (r : Result) (f : Frame) :
    (frameDropped r f t).lane 1 = (frameDropped r f s).lane 1
      ∧ (frameDropped r f t).link.forwarded = (frameDropped r f s).link.forwarded
      ∧ (frameDropped r f t).link.present = (frameDropped r f s).link.present := by
  unfold frameDropped
  split
  · cases f.origin with
    | none => exact ⟨lane, forwarded, present⟩
    | some o =>
      have report (u : State) : reportOrigin (some o) (some r) u
          = tell 1 (.reply o.dest o.token r.code []) (u.setLink { u.link with forwarded := u.link.forwarded - 1 }) := rfl
      rw [report, report, tell_forwarded, tell_forwarded, tell_present_same, tell_present_same]
      refine ⟨?_, by rw [State.setLink_link, State.setLink_link, forwarded], by rw [State.setLink_link, State.setLink_link, present]⟩
      rw [tell_lane_eq, tell_lane_eq, State.setLink_link, State.setLink_link, present]
      exact congrArg (fun l : Lane => if s.link.present = true then l.take _ else l) lane
  · exact ⟨lane, forwarded, present⟩

theorem reportFull_commands (l : List Frame) {s t : State} (lane : t.lane 1 = s.lane 1)
    (forwarded : t.link.forwarded = s.link.forwarded) (present : t.link.present = s.link.present) :
    (reportFull l t).lane 1 = (reportFull l s).lane 1 ∧ (reportFull l t).link.forwarded = (reportFull l s).link.forwarded := by
  induction l generalizing s t with
  | nil => exact ⟨lane, forwarded⟩
  | cons f l ih =>
    obtain ⟨lane, forwarded, present⟩ := frameDropped_commands lane forwarded present .busFull f
    exact ih lane forwarded present

theorem reportFull_commandsOf (l : List Frame) (s : State) : reportFull (commandsOf l) s = reportFull l s := by
  induction l generalizing s with
  | nil => rfl
  | cons f l ih =>
    by_cases command : f.kind = .command
    · have kept : commandsOf (f :: l) = f :: commandsOf l := List.filter_cons_of_pos (by simp [command])
      rw [kept]
      exact ih _
    · have left : commandsOf (f :: l) = commandsOf l := List.filter_cons_of_neg (by simp [command])
      have same : frameDropped .busFull f s = s := by
        unfold frameDropped
        split
        · exact absurd ‹_› command
        · rfl
      rw [left, ih]
      show reportFull l s = reportFull l (frameDropped .busFull f s)
      rw [same]

end Sys2Proof.Machine
end

section
/-! PROOF. The events of the clock unit (O46). -/

namespace Sys2Proof.Machine

/-! ### A cause while the clock is lost -/

/-- R127: a further cause that coasts no port joins the set and does nothing else. -/
theorem furtherCause_uncoasted {c : CauseKind} {at_ : Option CausePort} (none : ∀ p, coastedBy c at_ p = false) (s : State) :
    furtherCause c at_ s
      = if s.halt.first = some c then s else s.setHalt { s.halt with further := addCause c s.halt.further } := by
  unfold furtherCause fourPorts
  simp [none]

theorem startBreak_idle {s : State} (idle : s.bus.sending = none) :
    startBreak s = s.setBus { s.bus with breakSending := some (s.bus.breakSending.getD 0) } := by
  have abandoned : abandonFrame s = s := by
    unfold abandonFrame
    rw [idle]
  unfold startBreak
  cases breaks : s.bus.breakSending with
  | none => rw [abandoned]; rfl
  | some k =>
    show s = s.setBus { s.bus with breakSending := some k }
    rw [← breaks]
    rfl

theorem haltBreak_commandsLeft {s : State} (idle : s.bus.sending = none) (c : CauseKind) : CommandsLeft s (haltBreak c s) := by
  unfold haltBreak
  split
  · rw [startBreak_idle idle]
    exact ⟨rfl, rfl, rfl, rfl, rfl⟩
  · exact .refl s

theorem commandsOf_withoutGo (q : List Frame) : commandsOf (q.filter fun f => f.kind != .go) = commandsOf q := by
  unfold commandsOf
  rw [List.filter_filter]
  refine List.filter_congr fun f _ => ?_
  cases f.kind <;> rfl

theorem testHalted_commandsLeft (s : State) : CommandsLeft s (testHalted s) := by
  rcases testHalted_cases s with ⟨-, -, eq⟩ | ⟨-, eq⟩
  · rw [eq]
    exact CommandsLeft.trans (t := s.setHalt { s.halt with state := .halted, safeTimer := none }) ⟨rfl, rfl, rfl, rfl, rfl⟩
      (updateSignal_commandsLeft (by simp [State.isRunning]) 15 _)
  · rw [eq]
    exact .refl s

theorem emptied_commandsLeft (s : State) : CommandsLeft s s.emptied := by
  have silent := emptied_laneLeft (l := 1) (by decide) s
  have bus := emptied_bus s
  refine ⟨silent.lane, ?_, silent.present, by rw [bus], ?_⟩
  · obtain ⟨-, -, -, -, -, -, -, link, -⟩ := silenceAll_kept s
    unfold State.emptied
    generalize silenceAll s = t at link
    exact (congrArg Link.forwarded link :)
  · rw [bus]
    exact commandsOf_withoutGo _

/-- R124: a halt entry of a station that sends no frame leaves the Command frames and what is told of them. -/
theorem haltEntry_commandsLeft {s : State} (idle : s.bus.sending = none) (c : CauseKind) (at_ : Option CausePort) :
    CommandsLeft s (haltEntry c at_ s) := by
  have broken : CommandsLeft s (haltBreak c (recordFirst c at_ s)) :=
    CommandsLeft.trans (t := recordFirst c at_ s) ⟨rfl, rfl, rfl, rfl, rfl⟩ (haltBreak_commandsLeft (s := recordFirst c at_ s) idle c)
  have ports : CommandsLeft s (s.haltPorts c at_) := broken.trans (.of_eq (haltPorts_bus c at_ s).2 (haltPorts_bus c at_ s).1)
  have emptied : CommandsLeft s (s.halting c at_) := ports.trans (emptied_commandsLeft _)
  have written : CommandsLeft (s.halting c at_) (writeHaltWord (s.halting c at_)) :=
    updateSignal_commandsLeft (halting_isRunning c at_ s) 15 _
  rw [haltEntry_told]
  unfold State.haltTold notify
  exact ((emptied.trans written).trans (tell_commandsLeft (l := 3) (by decide) _ _)).trans (testHalted_commandsLeft _)

theorem giveCause_commandsLeft {s : State} (idle : s.bus.sending = none) :
    CommandsLeft s (giveCause .clockLost none s) := by
  unfold giveCause
  split
  · exact haltEntry_commandsLeft idle _ _
  · rw [furtherCause_uncoasted fun _ => rfl]
    exact ite_keeps (I := CommandsLeft s) (fun _ => .refl s) fun _ => ⟨rfl, rfl, rfl, rfl, rfl⟩

/-- R70: a halt entry leaves the gate and its start timer. -/
theorem becomeIdle_gate (v : Fin 3) (s : State) : GateKept s (becomeIdle v s) := by
  have told := tell_gate 2 (.progress true (v.val + 1)
    ((s.setVoice v { (s.voice v).quiet with state := .idle }).voice v).queue.length)
    (s.setVoice v { (s.voice v).quiet with state := .idle })
  exact ite_keeps (I := GateKept s) (fun _ => ⟨rfl, rfl⟩) fun _ =>
    ⟨(startStopTimer_gate _).1.trans told.1, (startStopTimer_gate _).2.trans told.2⟩

theorem silenceVoice_gate (v : Fin 3) (s : State) : GateKept s (silenceVoice v s) :=
  becomeIdle_gate v (s.setVoice v { s.voice v with queue := [] })

theorem silenceVoices_gate (s : State) : GateKept s (threeVoices.foldl (fun s v => silenceVoice v s) s) :=
  foldl_keeps (I := GateKept s) (f := fun s v => silenceVoice v s)
    (fun {t} v h => ⟨(silenceVoice_gate v t).1.trans h.1, (silenceVoice_gate v t).2.trans h.2⟩) threeVoices ⟨rfl, rfl⟩

theorem emptied_gate (s : State) : GateKept s s.emptied := by
  have silent := silenceVoices_gate s
  unfold State.emptied silenceAll
  generalize threeVoices.foldl (fun s v => silenceVoice v s) s = t at silent
  exact silent

theorem haltEntry_gate (c : CauseKind) (at_ : Option CausePort) (s : State) : GateKept s (haltEntry c at_ s) := by
  have ports : GateKept s (s.haltPorts c at_) := by
    obtain ⟨_, _, eq⟩ := haltPorts_only c at_ (haltBreak c (recordFirst c at_ s))
    obtain ⟨_, _, broken⟩ := haltBreak_only c (recordFirst c at_ s)
    rw [State.haltPorts, eq, broken]
    exact ⟨rfl, rfl⟩
  have emptied := emptied_gate (s.haltPorts c at_)
  have audio : (haltEntry c at_ s).audio = (s.halting c at_).audio := by
    rw [haltEntry_eq, (testHalted_from _).audio, (told_halting c at_ s).2.2.2]
  unfold GateKept
  rw [audio]
  exact ⟨emptied.1.trans ports.1, emptied.2.trans ports.2⟩

theorem giveCause_gate (s : State) : GateKept s (giveCause .clockLost none s) := by
  unfold giveCause
  split
  · exact haltEntry_gate _ _ s
  · rw [furtherCause_uncoasted fun _ => rfl]
    exact ite_keeps (I := GateKept s) (fun _ => ⟨rfl, rfl⟩) fun _ => ⟨rfl, rfl⟩

theorem startBreak_withdrawn (s : State) : (startBreak s).bus.withdrawn = s.bus.withdrawn := by
  unfold startBreak
  split
  · rfl
  · show (abandonFrame s).bus.withdrawn = _
    rw [(abandonFrame_told s).offered.kept.bus]
    rfl

theorem haltEntry_withdrawn (c : CauseKind) (at_ : Option CausePort) (s : State) :
    (haltEntry c at_ s).bus.withdrawn = s.bus.withdrawn := by
  have broken : (haltBreak c (recordFirst c at_ s)).bus.withdrawn = (recordFirst c at_ s).bus.withdrawn :=
    ite_keeps (I := fun t : State => t.bus.withdrawn = (recordFirst c at_ s).bus.withdrawn) (fun _ => startBreak_withdrawn _)
      fun _ => rfl
  have told := (haltTold_updated c at_ s).kept.bus
  rw [halting_bus] at told
  rw [haltEntry_told, (testHalted_told _).bus]
  dsimp only
  rw [told]
  exact broken

/-- R152: a cause changes no withdrawn cause. -/
theorem giveCause_withdrawn (s : State) : (giveCause .clockLost none s).bus.withdrawn = s.bus.withdrawn := by
  unfold giveCause
  split
  · exact haltEntry_withdrawn _ _ s
  · rw [furtherCause_uncoasted fun _ => rfl]
    exact ite_keeps (I := fun t : State => t.bus.withdrawn = s.bus.withdrawn) (fun _ => rfl) fun _ => rfl

/-- R120, R127: what ClockLost does to the halt record and the voices. -/
theorem giveCause_clockLost (s : State) :
    (giveCause .clockLost none s).isRunning = false
      ∧ (s.halt.state = .running → (giveCause .clockLost none s).halt.first = some .clockLost
          ∧ ∀ v, ((giveCause .clockLost none s).voice v).silent)
      ∧ (s.halt.state ≠ .running → (giveCause .clockLost none s).voices = s.voices
          ∧ (s.halt.first ≠ some .clockLost → .clockLost ∈ (giveCause .clockLost none s).halt.further)) := by
  have stopped : (giveCause .clockLost none s).isRunning = false :=
    Bool.eq_false_iff.mpr (mt (isRunning_iff _).mp (giveCause_notRunning _ _ s))
  refine ⟨stopped, fun running => ?_, fun still => ?_⟩
  · have entry : giveCause .clockLost none s = haltEntry .clockLost none s := if_pos ((isRunning_iff s).mpr running)
    have quiet := haltTold_quiet .clockLost none s
    rw [← haltEntry_told, ← entry] at quiet
    exact ⟨(haltEntry_halt entry).1, (quiet stopped).2.1⟩
  · have further : giveCause .clockLost none s = furtherCause .clockLost none s := if_neg (mt (isRunning_iff s).mp still)
    refine ⟨?_, fun other => ?_⟩
    · rw [further, furtherCause_uncoasted fun _ => rfl]
      exact ite_keeps (I := fun t : State => t.voices = s.voices) (fun _ => rfl) fun _ => rfl
    · have idle : s.isRunning = false := Bool.eq_false_iff.mpr (mt (isRunning_iff s).mp still)
      rw [further]
      exact (furtherCause_record .clockLost .clockLost none idle).2.2.1.mpr (.inr ⟨rfl, other⟩)

/-! ### A withdrawal of a station that is not Running -/

/-- `t` has the voices, the audio clock, the halt record, the clock unit and the Station block of `s`. -/
structure VoicesLeft (s t : State) : Prop where
  voices : t.voices = s.voices
  audio : t.audio = s.audio
  halt : t.halt = s.halt
  clock : t.clock = s.clock
  station : t.station = s.station

theorem VoicesLeft.trans {s t u : State} (h : VoicesLeft s t) (g : VoicesLeft t u) : VoicesLeft s u :=
  ⟨g.voices.trans h.voices, g.audio.trans h.audio, g.halt.trans h.halt, g.clock.trans h.clock, g.station.trans h.station⟩

theorem VoicesLeft.isRunning {s t : State} (h : VoicesLeft s t) : t.isRunning = s.isRunning := by
  unfold State.isRunning
  rw [h.halt]

theorem OnlyTold.voicesLeft {s t : State} (h : OnlyTold s t) : VoicesLeft s t := by
  obtain ⟨_, _, _, _, _, _, rfl⟩ := h
  exact ⟨rfl, rfl, rfl, rfl, rfl⟩

theorem OnlyBusLink.voicesLeft {s t : State} (h : OnlyBusLink s t) : VoicesLeft s t := by
  obtain ⟨_, _, rfl⟩ := h
  exact ⟨rfl, rfl, rfl, rfl, rfl⟩

theorem updateSignal_voicesLeft {s : State} (still : s.isRunning = false) (i : Fin 16) (v : Int) :
    VoicesLeft s (updateSignal i v s) := by
  have update := updateSignal_updated i v s
  obtain ⟨-, voices, audio⟩ := update.idle still
  exact ⟨voices, audio, update.kept.halt, update.kept.clock, update.kept.station⟩

theorem withdrawing_voicesLeft (c : WithdrawnCause) (s : State) : VoicesLeft s (s.withdrawing c) :=
  have ⟨voices, audio, halt, clock, station⟩ := (reportFull_told (s.bus.sending.toList ++ s.bus.queue) (s.setBus { s.bus with
    withdrawn := addWithdrawn c s.bus.withdrawn, queue := [], sending := none, announcePending := false,
    lineFaults := 0 })).voicesLeft
  ⟨voices, audio, halt, clock, station⟩

theorem withdraw_voicesLeft {s : State} (still : s.isRunning = false) (c : WithdrawnCause) : VoicesLeft s (withdraw c s) := by
  by_cases withdrawn : s.isWithdrawn = true
  · rw [withdraw_withdrawn withdrawn]
    exact ⟨rfl, rfl, rfl, rfl, rfl⟩
  · rw [withdraw_up (Bool.not_eq_true _ ▸ withdrawn)]
    have base := withdrawing_voicesLeft c s
    exact base.trans (updateSignal_voicesLeft (base.isRunning.trans still) 15 _)

theorem withdraw_mem (c : WithdrawnCause) (s : State) : c ∈ (withdraw c s).bus.withdrawn := by
  by_cases withdrawn : s.isWithdrawn = true
  · rw [withdraw_withdrawn withdrawn]
    exact mem_addWithdrawn c _
  · rw [(withdraw_up_bus (Bool.not_eq_true _ ▸ withdrawn)).1, withdrawing_bus]
    exact mem_addWithdrawn c _

/-! ### The loss of the clock (R182) -/

/-- R182: the clock unit Failed and the frame in transmission dropped. -/
def State.clockDown (s : State) : State := dropSending (s.setClock s.clock.failed)

/-- R182: ClockLost given, and the station withdrawn for its clock. -/
def State.clockGone (s : State) : State := withdraw .clock (giveCause .clockLost none s.clockDown)

/-- R182: the break sent, where the station hands its halts on. -/
def State.clockBroken (s : State) : State :=
  if s.clockGone.station.propagateHalt then startBreak s.clockGone else s.clockGone

theorem clockFailed_eq (s : State) : clockFailed s = writePll false (audioClockLost s.clockBroken) := rfl

theorem clockDown_voicesLeft (s : State) : VoicesLeft (s.setClock s.clock.failed) s.clockDown := by
  have ⟨voices, audio, halt, clock, station⟩ := (dropSending_told (s.setClock s.clock.failed)).voicesLeft
  exact ⟨voices, audio, halt, clock, station⟩

theorem clockDown_bus (s : State) : s.clockDown.bus = { s.bus with sending := none } := by
  rw [State.clockDown, dropSending_eq]
  rfl

theorem clockCause_halt (s : State) : (giveCause .clockLost none s.clockDown).isRunning = false
    ∧ (s.halt.state = .running → (giveCause .clockLost none s.clockDown).halt.first = some .clockLost
        ∧ ∀ v, ((giveCause .clockLost none s.clockDown).voice v).silent)
    ∧ (s.halt.state ≠ .running → (giveCause .clockLost none s.clockDown).voices = s.voices
        ∧ (s.halt.first ≠ some .clockLost → .clockLost ∈ (giveCause .clockLost none s.clockDown).halt.further)) := by
  have down := clockDown_voicesLeft s
  obtain ⟨stopped, running, still⟩ := giveCause_clockLost s.clockDown
  rw [down.halt, down.voices] at still
  rw [down.halt] at running
  exact ⟨stopped, running, still⟩

theorem clockBroken_voicesLeft (s : State) : VoicesLeft (giveCause .clockLost none s.clockDown) s.clockBroken := by
  have gone : VoicesLeft (giveCause .clockLost none s.clockDown) s.clockGone :=
    withdraw_voicesLeft (clockCause_halt s).1 .clock
  exact ite_keeps (I := VoicesLeft _) (fun _ => gone.trans (startBreak_only s.clockGone).voicesLeft) fun _ => gone

theorem clockGone_station (s : State) : s.clockGone.station = s.station :=
  (withdraw_voicesLeft (clockCause_halt s).1 .clock).station.trans
    ((giveCause_shared _ _ _).station.trans (clockDown_voicesLeft s).station)

/-- R182: the bus station without its frame in transmission. -/
theorem clockCause_commandsLeft (s : State) : CommandsLeft s.clockDown (giveCause .clockLost none s.clockDown) :=
  giveCause_commandsLeft (by rw [clockDown_bus])

theorem clockGone_sending (s : State) : s.clockGone.bus.sending = none := by
  have idle : (giveCause .clockLost none s.clockDown).bus.sending = none :=
    (clockCause_commandsLeft s).sending.trans (by rw [clockDown_bus])
  unfold State.clockGone
  by_cases withdrawn : (giveCause .clockLost none s.clockDown).isWithdrawn = true
  · rw [withdraw_withdrawn withdrawn]
    exact idle
  · rw [(withdraw_up_bus (Bool.not_eq_true _ ▸ withdrawn)).1, withdrawing_bus]

theorem clockBroken_eq (s : State) : s.clockBroken = if s.station.propagateHalt then
    s.clockGone.setBus { s.clockGone.bus with breakSending := some (s.clockGone.bus.breakSending.getD 0) } else s.clockGone := by
  unfold State.clockBroken
  rw [clockGone_station, startBreak_idle (clockGone_sending s)]

theorem clockBroken_link (s : State) : s.clockBroken.link = s.clockGone.link ∧ s.clockBroken.signals = s.clockGone.signals := by
  rw [clockBroken_eq]
  split
  · exact ⟨rfl, rfl⟩
  · exact ⟨rfl, rfl⟩

theorem clockBroken_withdrawn (s : State) : s.clockBroken.bus.withdrawn = s.clockGone.bus.withdrawn
    ∧ s.clockBroken.bus.queue = s.clockGone.bus.queue ∧ s.clockBroken.bus.sending = s.clockGone.bus.sending
    ∧ s.clockBroken.bus.announcePending = s.clockGone.bus.announcePending
    ∧ s.clockBroken.bus.lineFaults = s.clockGone.bus.lineFaults := by
  rw [clockBroken_eq]
  split
  · exact ⟨rfl, rfl, rfl, rfl, rfl⟩
  · exact ⟨rfl, rfl, rfl, rfl, rfl⟩

/-- R182: the last write of a clock failure leaves the bus station and the Command lane: the station is Withdrawn. -/
theorem clockFailed_bus (s : State) : (clockFailed s).bus = s.clockBroken.bus ∧ (clockFailed s).lane 1 = s.clockGone.lane 1
    ∧ (clockFailed s).link.forwarded = s.clockGone.link.forwarded := by
  have kept := audioClockLost_kept s.clockBroken
  have link := (clockBroken_link s).1
  have withdrawn : s.clockBroken.bus.withdrawn ≠ [] := by
    rw [(clockBroken_withdrawn s).1]
    exact List.ne_nil_of_mem (withdraw_mem .clock _)
  rw [clockFailed_eq]
  refine (keptByOffers_withdrawn withdrawn).updateSignal 15 _ ⟨kept.bus, ?_, ?_⟩
  · exact (kept.lane 1 (by decide)).trans (lane_of_link link 1)
  · exact (congrArg Link.forwarded kept.link :).trans (congrArg Link.forwarded link :)

theorem clockFailed_running (s : State) : (audioClockLost s.clockBroken).isRunning = false :=
  (audioClockLost_kept _).isRunning.trans ((clockBroken_voicesLeft s).isRunning.trans (clockCause_halt s).1)

/-- R182: the clock unit and the halt record after a clock failure. -/
theorem clockFailed_halt (s : State) : (clockFailed s).halt = (giveCause .clockLost none s.clockDown).halt
    ∧ (clockFailed s).clock = s.clock.failed := by
  have last := updateSignal_voicesLeft (clockFailed_running s) 15 (pllWord false ((audioClockLost s.clockBroken).signal 15).value)
  have kept := audioClockLost_kept s.clockBroken
  have broken := clockBroken_voicesLeft s
  rw [clockFailed_eq]
  exact ⟨last.halt.trans (kept.halt.trans broken.halt), last.clock.trans (kept.clock.trans (broken.clock.trans
    ((giveCause_shared _ _ _).clock.trans (clockDown_voicesLeft s).clock)))⟩

theorem clockFailed_voices (s : State) : (clockFailed s).voices = (audioClockLost s.clockBroken).voices
    ∧ (clockFailed s).audio = (audioClockLost s.clockBroken).audio :=
  have last := updateSignal_voicesLeft (clockFailed_running s) 15 (pllWord false ((audioClockLost s.clockBroken).signal 15).value)
  ⟨last.voices, last.audio⟩

end Sys2Proof.Machine
end

section
/-! PROOF. The events of the clock unit: the switch to the PLL, and the obligation (O46). -/

namespace Sys2Proof.Machine

/-! ### The end of a retry (R183) -/

theorem answered_done_told (via : Via) (s : State) : OnlyTold s (answered via (done s)) := by
  cases via with
  | tablet d tk => exact tell_told 1 _ s
  | bus d tk => exact replyRequest_told _ _ s
  | broadcast => exact .refl s
  | staged => exact .refl s

theorem finishRetry_told (s : State) : OnlyTold (s.setClock { s.clock with retry := none }) (finishRetry s) := by
  unfold finishRetry
  cases retry : s.clock.retry with
  | none =>
    have same : s.setClock { s.clock with retry := none } = s := by
      rw [← retry]
      rfl
    rw [same]
    exact .refl s
  | some via => exact answered_done_told via _

theorem finishRetry_announces {s : State} (h : s.Announces) : (finishRetry s).Announces := by
  unfold finishRetry
  split
  next via _ =>
    refine keptByOffers_announces.answered_done (fun m g => ?_) via (s := s.setClock { s.clock with retry := none }) h
    refine g.of_bus ?_
    unfold tell
    split <;> rfl
  · exact h

theorem OnlyTold.withdrawn {s t : State} (h : OnlyTold s t) : t.bus.withdrawn = s.bus.withdrawn := by
  rw [h.offered.kept.bus]

/-! ### The gate that opens (R70, R181) -/

/-- The station is on the PLL, and its gate starts or is about to: it is Off while a voice waits. -/
def State.Opens (s : State) : Prop :=
  s.clock.state = .onPLL
    ∧ ((s.audio.gate = .off ∧ ∃ v, (s.voice v).state = .waiting) ∨ (s.audio.gate = .starting ∧ s.audio.startTimer = some 2))

theorem State.Opens.of_eq {s t : State} (clock : t.clock = s.clock) (audio : t.audio = s.audio)
    (voices : ∀ v, (s.voice v).state = .waiting → (t.voice v).state = .waiting) (h : s.Opens) : t.Opens := by
  obtain ⟨onPLL, gate⟩ := h
  refine ⟨by rw [clock]; exact onPLL, ?_⟩
  rw [audio]
  exact gate.imp_left fun ⟨off, v, waits⟩ => ⟨off, v, voices v waits⟩

theorem State.Opens.setVoice {s : State} {v : Fin 3} {x : Voice} (state : (s.voice v).state = .waiting → x.state = .waiting)
    (h : s.Opens) : (s.setVoice v x).Opens := by
  refine State.Opens.of_eq (s := s) rfl rfl (fun w waits => ?_) h
  rw [State.voice_setVoice_eq]
  split
  next same => exact state (same ▸ waits)
  · exact waits

/-- R70: an Idle voice that chooses its sound starts the gate, or lets it start. -/
theorem State.Opens.chooseSound {s : State} {v : Fin 3} (idle : (s.voice v).state = .idle) (h : s.Opens) :
    (chooseSound v s).Opens := by
  have notWaiting : ¬(s.voice v).state = .waiting := by simp [idle]
  unfold Machine.chooseSound
  split
  · unfold becomeIdle
    dsimp only
    rw [if_pos idle]
    exact h.setVoice fun waits => absurd waits notWaiting
  · rw [if_pos (.inl idle)]
    have waits : (s.setVoice v { (s.voice v).quiet with state := .waiting }).Opens := h.setVoice fun _ => rfl
    unfold enterWaiting
    generalize s.setVoice v { (s.voice v).quiet with state := .waiting } = t at waits
    obtain ⟨onPLL, gate⟩ := waits
    rcases gate with ⟨off, -⟩ | ⟨starting, timer⟩
    · rw [requestClock_off off, if_pos onPLL]
      exact ⟨onPLL, .inr ⟨rfl, rfl⟩⟩
    · rw [requestClock_starting starting]
      exact ⟨onPLL, .inr ⟨starting, timer⟩⟩

theorem keptByOffers_opens : KeptByOffers State.Opens where
  other same h := h.of_eq same.clock same.audio fun v waits => by rw [voice_of_voices same.voices]; exact waits
  join {s} f _ h := by
    have left := (joinQueue_told f s).voicesLeft
    exact h.of_eq left.clock left.audio fun v waits => by rw [voice_of_voices left.voices]; exact waits
  stamp _ h := h
  refresh _ _ _ h := h
  pitch {s} v n x h := by
    unfold valuePitch
    dsimp only
    split
    · split
      · exact h.setVoice id
      · split
        next idle =>
          have bound : (s.setVoice v { s.voice v with boundPitch := some x.toNat }).Opens := h.setVoice id
          exact bound.chooseSound (by rw [State.voice_setVoice]; exact idle)
        · exact h.setVoice id
    · exact h
  volume {s} v n x h := by
    unfold valueVolume
    split
    · exact h.setVoice id
    · exact h

/-! ### The switch to the PLL (R181) -/

/-- R153: the Clock cause leaves the set. -/
def State.clockCleared (s : State) : State :=
  s.setBus { s.bus with withdrawn := s.bus.withdrawn.filter fun d => d != .clock }

theorem clearClockCause_cases (s : State) :
    (s.isWithdrawn = true ∧ s.clockCleared.isWithdrawn = false
        ∧ clearClockCause s = announceRequest (writeWithdrawn false s.clockCleared))
      ∨ (¬(s.isWithdrawn = true ∧ s.clockCleared.isWithdrawn = false) ∧ clearClockCause s = s.clockCleared) := by
  by_cases leaves : s.isWithdrawn = true ∧ s.clockCleared.isWithdrawn = false
  · exact .inl ⟨leaves.1, leaves.2, if_pos ⟨leaves.1, Bool.eq_false_iff.mp leaves.2⟩⟩
  · exact .inr ⟨leaves, if_neg fun h => leaves ⟨h.1, Bool.eq_false_iff.mpr h.2⟩⟩

theorem announceRequest_told (s : State) : OnlyTold s (announceRequest s) := by
  unfold announceRequest
  split
  · exact .refl s
  · split
    · exact .refl s
    · dsimp only
      split
      · exact addFrame_told _ _ _ _ s
      · have pending (t : State) : OnlyTold t (t.setBus { t.bus with announcePending := true }) :=
          ⟨t.bus.queue, t.bus.nextStamp, true, t.link.lanes, t.link.watch, t.link.forwarded, rfl⟩
        exact (addFrame_told _ _ _ _ s).trans (pending _)

/-- R153, R86: what leaves Withdrawn, and what stays of it. -/
theorem clearClockCause_updated (s : State) : Updated s.clockCleared (clearClockCause s) := by
  rcases clearClockCause_cases s with ⟨-, -, eq⟩ | ⟨-, eq⟩
  · rw [eq]
    exact (updateSignal_updated 15 _ _).trans (announceRequest_told _).offered.updated
  · rw [eq]
    exact .refl _

theorem clearClockCause_opens {s : State} (h : s.Opens) : (clearClockCause s).Opens := by
  have cleared : s.clockCleared.Opens := h
  rcases clearClockCause_cases s with ⟨-, -, eq⟩ | ⟨-, eq⟩
  · have left := (announceRequest_told (writeWithdrawn false s.clockCleared)).voicesLeft
    rw [eq]
    exact (keptByOffers_opens.updateSignal 15 _ cleared).of_eq left.clock left.audio
      fun v waits => by rw [voice_of_voices left.voices]; exact waits
  · rw [eq]
    exact cleared

/-- R153: a station withdrawn for its clock alone leaves Withdrawn and announces itself. -/
theorem clearClockCause_leaves {s : State} (only : s.bus.withdrawn = [.clock]) :
    getBits 6 1 ((clearClockCause s).signal 15).value = 0 ∧ (clearClockCause s).Announces := by
  have was : s.isWithdrawn = true := by simp [State.isWithdrawn, only]
  have left : s.clockCleared.isWithdrawn = false := by simp [State.clockCleared, State.isWithdrawn, only]
  have still : (writeWithdrawn false s.clockCleared).isWithdrawn = false := by
    unfold State.isWithdrawn writeWithdrawn
    rw [(updateSignal_updated 15 _ _).kept.bus]
    exact left
  rcases clearClockCause_cases s with ⟨-, -, eq⟩ | ⟨no, -⟩
  · rw [eq]
    refine ⟨?_, announceRequest_announces still⟩
    rw [signal_of_signals (announceRequest_told _).offered.signals.1, writeWithdrawn,
      updateSignal_15_bits _ _ (by decide) (by decide)]
    exact getBits_putBits_same (lo := 6) (width := 1) (v := 0) (by decide) (by decide) _
  · exact absurd ⟨was, left⟩ no

theorem audioClockReady_kept (s : State) : VoiceKept s (audioClockReady s) := by
  unfold audioClockReady
  split
  · exact ⟨rfl, rfl, rfl, rfl, rfl, rfl, rfl, rfl, rfl, rfl, rfl, rfl, rfl, fun _ _ => rfl⟩
  · exact .refl s

/-- R181: the gate starts when a voice waits. -/
theorem audioClockReady_opens {s : State} (h : s.Opens) :
    (audioClockReady s).Opens ∧ (audioClockReady s).audio.gate = .starting := by
  obtain ⟨onPLL, gate⟩ := h
  unfold audioClockReady
  rcases gate with ⟨off, v, waits⟩ | ⟨starting, timer⟩
  · have all : v ∈ threeVoices := by fin_cases v <;> simp [threeVoices]
    rw [if_pos ⟨off, List.any_eq_true.mpr ⟨v, all, by simp [waits]⟩⟩]
    exact ⟨⟨onPLL, .inr ⟨rfl, rfl⟩⟩, rfl⟩
  · rw [if_neg fun both => by rw [starting] at both; exact absurd both.1 (by decide)]
    exact ⟨⟨onPLL, .inr ⟨starting, timer⟩⟩, starting⟩

/-- R70: a gate that starts goes on starting through every update. -/
theorem keptByOffers_starts : KeptByOffers fun s => s.audio.gate = .starting ∧ s.audio.startTimer = some 2 where
  other same h := by rw [same.audio]; exact h
  join f _ h := by rw [(joinQueue_told f _).voicesLeft.audio]; exact h
  stamp _ h := h
  refresh _ _ _ h := h
  pitch {s} v n x h := by
    unfold valuePitch
    dsimp only
    split
    · split
      · exact h
      · split
        next idle =>
          have was : ((s.setVoice v { s.voice v with boundPitch := some x.toNat }).voice v).state = .idle := by
            rw [State.voice_setVoice]
            exact idle
          unfold chooseSound
          split
          · unfold becomeIdle
            dsimp only
            rw [if_pos was]
            exact h
          · rw [if_pos (.inl was)]
            unfold enterWaiting
            generalize waits : State.setVoice _ v { (State.voice _ v).quiet with state := .waiting } = t
            have audio : t.audio = s.audio := by
              rw [← waits]
              rfl
            rw [requestClock_starting (by rw [audio]; exact h.1), audio]
            exact h
        · exact h
    · exact h
  volume {s} v n x h := by
    unfold valueVolume
    split <;> exact h

end Sys2Proof.Machine
end

section
/-! PROOF. The obligation on the clock unit (O46). -/

namespace Sys2Proof.Machine

theorem frameDropped_eq_ite (f : Frame) (s : State) :
    frameDropped .busFull f s = if f.kind = .command then reportOrigin f.origin (some .busFull) s else s := by
  unfold frameDropped
  split
  next command => rw [if_pos command]
  next other => rw [if_neg other]

theorem reportFull_eq (l : List Frame) (s : State) : reportFull l s
    = l.foldl (fun t h => if h.kind = .command then reportOrigin h.origin (some .busFull) t else t) s := by
  unfold reportFull
  simp only [frameDropped_eq_ite]

/-- R152, R182: a station that the loss of its clock withdraws tells the tablet of the commands that it drops. -/
theorem clockGone_reports {s : State} (up : s.isWithdrawn = false) :
    s.clockGone.lane 1 = (reportFull (s.bus.sending.toList ++ s.bus.queue) s).lane 1
      ∧ s.clockGone.link.forwarded = (reportFull (s.bus.sending.toList ++ s.bus.queue) s).link.forwarded := by
  have left := clockCause_commandsLeft s
  have still : (giveCause .clockLost none s.clockDown).isWithdrawn = false := by
    unfold State.isWithdrawn
    rw [giveCause_withdrawn, clockDown_bus]
    exact up
  have idle : (giveCause .clockLost none s.clockDown).bus.sending = none := left.sending.trans (by rw [clockDown_bus])
  have commands : commandsOf (giveCause .clockLost none s.clockDown).bus.queue = commandsOf s.bus.queue :=
    left.commands.trans (by rw [clockDown_bus])
  obtain ⟨-, lane, forwarded⟩ := withdraw_up_bus (c := .clock) still
  have down : s.clockDown.lane 1 = (reportFull s.bus.sending.toList s).lane 1
      ∧ s.clockDown.link.forwarded = (reportFull s.bus.sending.toList s).link.forwarded := by
    rw [State.clockDown, dropSending_eq]
    exact reportFull_commands s.bus.sending.toList (s := s) (t := s.setClock s.clock.failed) rfl rfl rfl
  have gone : s.clockGone = withdraw .clock (giveCause .clockLost none s.clockDown) := rfl
  have present : s.clockDown.link.present = (reportFull s.bus.sending.toList s).link.present := by
    rw [(reportFull_told s.bus.sending.toList s).offered.updated.present, State.clockDown,
      (dropSending_told _).offered.updated.present]
    rfl
  rw [gone]
  generalize giveCause .clockLost none s.clockDown = a at left idle commands lane forwarded
  have withdrawing : (a.withdrawing .clock).lane 1 = (reportFull (s.bus.sending.toList ++ s.bus.queue) s).lane 1
      ∧ (a.withdrawing .clock).link.forwarded = (reportFull (s.bus.sending.toList ++ s.bus.queue) s).link.forwarded := by
    rw [State.withdrawing, idle, Option.toList_none, List.nil_append, ← reportFull_commandsOf, commands, reportFull_commandsOf,
      reportFull_append]
    exact reportFull_commands s.bus.queue (left.lane.trans down.1) (left.forwarded.trans down.2) (left.present.trans present)
  exact ⟨lane.trans withdrawing.1, forwarded.trans withdrawing.2⟩

/-- R71: a station that is not Running has no sound left to play at the loss of its audio clock. -/
theorem audioClockLost_stopped {s : State} (lost : s.clock.state ≠ .onPLL) (stopped : s.isRunning = false) (v : Fin 3) :
    (audioClockLost s).audio.gate = .off ∧ (s.audio.gate ≠ .off → (audioClockLost s).audio.startTimer = none)
      ∧ (s.audio.gate ≠ .off ∧ (s.voice v).Sounding →
          (audioClockLost s).voice v = { (s.voice v).quiet with state := .idle })
      ∧ (¬(s.audio.gate ≠ .off ∧ (s.voice v).Sounding) → (audioClockLost s).voice v = s.voice v) := by
  by_cases off : s.audio.gate = .off
  · rw [audioClockLost_off off]
    exact ⟨off, fun on => absurd off on, fun both => absurd off both.1, fun _ => rfl⟩
  · obtain ⟨audio, voices⟩ := audioClockLost_acts off lost
    refine ⟨by rw [audio]; rfl, fun _ => by rw [audio]; rfl, fun both => ?_, fun no => (voices v).2 fun is => no ⟨off, is⟩⟩
    rw [(voices v).1 both.2, stopped]
    rfl

/-- R180, R182: what a failure of the clock leaves of the clock unit and of the halt record. -/
def State.ClockFails (s t : State) : Prop :=
  t.clock.state = .onRCFailed ∧ t.clock.crystal = .stopped ∧ t.clock.pll = .off ∧ t.clock.startTimer = none
    ∧ t.clock.edgeMonitor = none ∧ t.halt.state ≠ .running
    ∧ (s.halt.state = .running → t.halt.first = some .clockLost)
    ∧ (s.halt.state ≠ .running → s.halt.first ≠ some .clockLost → .clockLost ∈ t.halt.further)

theorem State.ClockFails.of_clock {s t : State} {retry : Option Via} (clock : t.clock = { s.clock.failed with retry := retry })
    (stopped : t.halt.state ≠ .running) (first : s.halt.state = .running → t.halt.first = some .clockLost)
    (further : s.halt.state ≠ .running → s.halt.first ≠ some .clockLost → .clockLost ∈ t.halt.further) : s.ClockFails t := by
  unfold State.ClockFails
  rw [clock]
  exact ⟨rfl, rfl, rfl, rfl, rfl, stopped, first, further⟩

theorem clockFailed_fails (s : State) : s.ClockFails (clockFailed s) ∧ (clockFailed s).clock.retry = s.clock.retry := by
  obtain ⟨halt, clock⟩ := clockFailed_halt s
  obtain ⟨stopped, running, still⟩ := clockCause_halt s
  refine ⟨.of_clock clock ?_ ?_ ?_, by rw [clock]; rfl⟩
  · rw [halt]
    exact mt (isRunning_iff _).mpr (Bool.eq_false_iff.mp stopped)
  · rw [halt]
    exact fun is => (running is).1
  · rw [halt]
    exact fun is => (still is).2

/-- R152: the bus station at the loss of its clock. -/
theorem clockFailed_withdraws (s : State) : .clock ∈ (clockFailed s).bus.withdrawn
    ∧ (s.isWithdrawn = false → (clockFailed s).bus.queue = [] ∧ (clockFailed s).bus.sending = none
      ∧ (clockFailed s).bus.announcePending = false ∧ (clockFailed s).bus.lineFaults = 0
      ∧ getBits 6 1 ((clockFailed s).signal 15).value = 1)
    ∧ (s.station.propagateHalt = true → (clockFailed s).bus.breakSending.isSome = true) := by
  have bus := (clockFailed_bus s).1
  obtain ⟨withdrawn, queue, sending, pending, faults⟩ := clockBroken_withdrawn s
  have gone : s.clockGone = withdraw .clock (giveCause .clockLost none s.clockDown) := rfl
  refine ⟨by rw [bus, withdrawn, gone]; exact withdraw_mem .clock _, fun up => ?_, fun breaks => ?_⟩
  · have still : (giveCause .clockLost none s.clockDown).isWithdrawn = false := by
      unfold State.isWithdrawn
      rw [giveCause_withdrawn, clockDown_bus]
      exact up
    have word : getBits 6 1 ((clockFailed s).signal 15).value = getBits 6 1 (s.clockGone.signal 15).value := by
      rw [clockFailed_eq, writePll, updateSignal_15_bits _ _ (by decide) (by decide), pllWord,
        getBits_putBits_other (by decide) (by decide), signal_of_signals (audioClockLost_kept _).signals,
        signal_of_signals (clockBroken_link s).2]
    rw [bus, queue, sending, pending, faults, word, gone]
    have at_ := (withdraw_up_bus (c := .clock) still).1
    have set := withdraw_up_word (c := .clock) still
    generalize giveCause .clockLost none s.clockDown = a at at_ set
    rw [withdrawing_bus] at at_
    rw [at_]
    exact ⟨rfl, rfl, rfl, rfl, set⟩
  · rw [bus, clockBroken_eq, if_pos breaks]
    rfl

theorem clockFailed_pll (s : State) : getBits 8 1 ((clockFailed s).signal 15).value = 0 := by
  rw [clockFailed_eq, writePll, updateSignal_15_bits _ _ (by decide) (by decide)]
  exact getBits_putBits_same (lo := 8) (width := 1) (v := 0) (by decide) (by decide) _

theorem voice_of_clockFailed (v : Fin 3) (s : State) :
    (clockFailed s).voice v = (audioClockLost s.clockBroken).voice v := voice_of_voices (clockFailed_voices s).1 v

/-- R71, R182: the gate and the voices at the loss of the clock. -/
theorem clockFailed_sound (v : Fin 3) (s : State) : (clockFailed s).audio.gate = .off
    ∧ (s.audio.gate ≠ .off → (clockFailed s).audio.startTimer = none)
    ∧ (s.halt.state = .running → ((clockFailed s).voice v).silent)
    ∧ (s.halt.state ≠ .running →
      (s.audio.gate ≠ .off ∧ (s.voice v).Sounding → (clockFailed s).voice v = { (s.voice v).quiet with state := .idle })
        ∧ (¬(s.audio.gate ≠ .off ∧ (s.voice v).Sounding) → (clockFailed s).voice v = s.voice v)) := by
  obtain ⟨stopped, running, still⟩ := clockCause_halt s
  have broken := clockBroken_voicesLeft s
  have clock : s.clockBroken.clock = s.clock.failed :=
    broken.clock.trans ((giveCause_shared _ _ _).clock.trans (clockDown_voicesLeft s).clock)
  have gate : s.clockBroken.audio.gate = s.audio.gate := by
    rw [broken.audio, (giveCause_gate _).1, (clockDown_voicesLeft s).audio]
    rfl
  have lost : s.clockBroken.clock.state ≠ .onPLL := by
    rw [clock]
    exact fun is => by cases is
  obtain ⟨off, timer, sounds, stays⟩ := audioClockLost_stopped lost (broken.isRunning.trans stopped) v
  rw [gate, voice_of_voices broken.voices] at sounds stays
  rw [gate] at timer
  rw [(clockFailed_voices s).2, voice_of_clockFailed]
  refine ⟨off, timer, fun is => ?_, fun is => ?_⟩
  · have silent := (running is).2 v
    rw [stays]
    · exact silent
    · rintro ⟨-, sounding⟩
      rcases sounding with state | state | state <;> exact absurd (silent.1.symm.trans state) (by decide)
  · rw [voice_of_voices (still is).1] at sounds stays
    exact ⟨sounds, stays⟩

/-- R180, R183: a start that fails. -/
theorem startFailed_fails (s : State) : s.ClockFails (startFailed s) ∧ (startFailed s).clock.retry = none
    ∧ (startFailed s).bus.withdrawn = s.bus.withdrawn := by
  obtain ⟨stopped, running, still⟩ := giveCause_clockLost (s.setClock s.clock.failed)
  have clock := (giveCause_shared .clockLost none (s.setClock s.clock.failed)).clock
  have withdrawn := giveCause_withdrawn (s.setClock s.clock.failed)
  have failed : startFailed s = finishRetry (giveCause .clockLost none (s.setClock s.clock.failed)) := rfl
  rw [failed]
  generalize giveCause .clockLost none (s.setClock s.clock.failed) = a at *
  have told := finishRetry_told a
  have halt : (finishRetry a).halt = a.halt := told.voicesLeft.halt
  have ended : (finishRetry a).clock = { s.clock.failed with retry := none } :=
    told.voicesLeft.clock.trans (congrArg (fun c : Clock => { c with retry := none }) clock)
  refine ⟨.of_clock ended ?_ ?_ ?_, by rw [ended], told.withdrawn.trans withdrawn⟩
  · rw [halt]
    exact mt (isRunning_iff _).mpr (Bool.eq_false_iff.mp stopped)
  · rw [halt]
    exact fun is => (running is).1
  · rw [halt]
    exact fun is => (still is).2

/-- R181: the clock unit takes the PLL. -/
def State.switching (s : State) : State := s.setClock { s.clock with state := .onPLL, edgeMonitor := some 1 }

/-- R181: the station on the PLL, its gate started where a voice waits. -/
def State.onPll (s : State) : State := audioClockReady (clearClockCause s.switching)

theorem onPll_kept (s : State) : VoiceKept (clearClockCause s.switching) s.onPll := audioClockReady_kept _

theorem onPll_records (s : State) : s.onPll.clock = { s.clock with state := .onPLL, edgeMonitor := some 1 }
    ∧ s.onPll.halt = s.halt ∧ s.onPll.bus.withdrawn = s.bus.withdrawn.filter (fun d => d != .clock) := by
  have kept := onPll_kept s
  have cleared := (clearClockCause_updated s.switching).kept
  exact ⟨kept.clock.trans cleared.clock, kept.halt.trans cleared.halt, by rw [kept.bus, cleared.bus]; rfl⟩

/-- R181, R183: the switch to the PLL. -/
theorem switched_records (s : State) :
    (finishRetry (writePll true s.onPll)).clock = { s.clock with state := .onPLL, edgeMonitor := some 1, retry := none }
      ∧ (finishRetry (writePll true s.onPll)).bus.withdrawn = s.bus.withdrawn.filter (fun d => d != .clock)
      ∧ getBits 8 1 ((finishRetry (writePll true s.onPll)).signal 15).value = 1
      ∧ (finishRetry (writePll true s.onPll)).halt = s.halt := by
  obtain ⟨clock, halt, withdrawn⟩ := onPll_records s
  have update := updateSignal_updated 15 (pllWord true (s.onPll.signal 15).value) s.onPll
  have told := finishRetry_told (writePll true s.onPll)
  refine ⟨?_, ?_, ?_, ?_⟩
  · refine told.voicesLeft.clock.trans (congrArg (fun c : Clock => { c with retry := none }) (update.kept.clock.trans clock))
  · refine told.withdrawn.trans ((congrArg Bus.withdrawn update.kept.bus :).trans withdrawn)
  · rw [signal_of_signals told.offered.signals.1]
    show getBits 8 1 ((writePll true s.onPll).signal 15).value = 1
    rw [writePll, updateSignal_15_bits _ _ (by decide) (by decide)]
    exact getBits_putBits_same (lo := 8) (width := 1) (v := 1) (by decide) (by decide) _
  · exact told.voicesLeft.halt.trans (update.kept.halt.trans halt)

/-- R153: a station withdrawn for its clock alone is back on the bus at the switch. -/
theorem switched_leaves {s : State} (only : s.bus.withdrawn = [.clock]) :
    getBits 6 1 ((finishRetry (writePll true s.onPll)).signal 15).value = 0
      ∧ (finishRetry (writePll true s.onPll)).Announces := by
  obtain ⟨word, announces⟩ := clearClockCause_leaves (s := s.switching) only
  have kept := onPll_kept s
  have told := finishRetry_told (writePll true s.onPll)
  refine ⟨?_, finishRetry_announces (keptByOffers_announces.updateSignal 15 _ (announces.of_bus kept.bus))⟩
  rw [signal_of_signals told.offered.signals.1]
  show getBits 6 1 ((writePll true s.onPll).signal 15).value = 0
  rw [writePll, updateSignal_15_bits _ _ (by decide) (by decide), pllWord, getBits_putBits_other (by decide) (by decide),
    signal_of_signals kept.signals]
  exact word

/-- R70, R181: the gate starts at the switch when a voice waits. -/
theorem switched_starts {s : State} (off : s.audio.gate = .off) (waits : ∃ v, (s.voice v).state = .waiting) :
    (finishRetry (writePll true s.onPll)).audio.gate = .starting
      ∧ (finishRetry (writePll true s.onPll)).audio.startTimer = some 2 := by
  have opens : s.switching.Opens := ⟨rfl, .inl ⟨off, waits⟩⟩
  obtain ⟨⟨-, gate⟩, starting⟩ := audioClockReady_opens (clearClockCause_opens opens)
  have starts : s.onPll.audio.gate = .starting ∧ s.onPll.audio.startTimer = some 2 := by
    rcases gate with ⟨off, -⟩ | both
    · rw [starting] at off
      exact absurd off (by decide)
    · exact both
  have audio := (finishRetry_told (writePll true s.onPll)).voicesLeft.audio
  rw [audio]
  exact keptByOffers_starts.updateSignal 15 _ starts

/-- R72: a voice has a sound to play while the station is Running: a queued note, or its bound pitch. -/
theorem nextSound_isSome (s : State) (x : Voice) : (nextSound s.isRunning x).isSome = true ↔ s.halt.state = .running
    ∧ ((¬(∃ n, x.pitchSource = .listen n) ∧ x.queue ≠ []) ∨ ((∃ n, x.pitchSource = .listen n) ∧ x.boundPitch.isSome = true)) := by
  by_cases running : s.halt.state = .running
  · have up : s.isRunning = true := (isRunning_iff s).mpr running
    rw [up]
    unfold nextSound
    cases source : x.pitchSource with
    | own => cases queue : x.queue <;> simp [running]
    | listen n => cases bound : x.boundPitch <;> simp [running]
  · have idle : s.isRunning = false := Bool.eq_false_iff.mpr (mt (isRunning_iff s).mp running)
    rw [idle]
    simp [nextSound, running]

/-- Settles O46, by the parts of a clock failure, of a failed start and of the switch to the PLL. -/
theorem clockUnitEvents : Obligations.ClockUnitEvents := by
  unfold Obligations.ClockUnitEvents
  intro v s awake k x sounding listens toPlay silenced starting dropped failed startFails lost
  have reports : dropped = reportFull (s.bus.sending.toList ++ s.bus.queue) s := (reportFull_eq _ s).symm
  have event (f : State → State) {t : State} (taken : f s = t) : s.whenAwake f = ends t := by
    rw [State.whenAwake_awake awake, taken]
  have fails {c : Instr} (run : exec c s = ends (startFailed s)) : startFails c := by
    obtain ⟨clock, retry, withdrawn⟩ := startFailed_fails s
    exact ⟨startFailed s, run, clock, retry, withdrawn⟩
  have loses {c : Instr} (run : exec c s = ends (forwardAfter s.link.forwarded (clockFailed s))) : lost c := by
    obtain ⟨clock, retry⟩ := clockFailed_fails s
    obtain ⟨cause, withdraws, breaks⟩ := clockFailed_withdraws s
    obtain ⟨off, timer, silent, still⟩ := clockFailed_sound v s
    refine ⟨clockFailed s, run, clock, retry, cause, withdraws, fun up => ?_, breaks, off, timer, silent,
      fun is => ?_, clockFailed_pll s⟩
    rotate_left
    · split
      next both => exact (still is).1 both
      next no => exact (still is).2 no
    obtain ⟨-, lane, forwarded⟩ := clockFailed_bus s
    rw [reports]
    exact ⟨lane.trans (clockGone_reports up).1, forwarded.trans (clockGone_reports up).2⟩
  refine ⟨fun on crystal => ?_, fun out => ?_, fun on pll => ?_, fun out => ?_, fun on timer => fails ?_, fun out => ?_,
    fun switches => fails ?_, fun other => ⟨?_, ?_⟩, fun switches => ?_, fun on edge => loses ?_, fun out => ?_,
    fun on => loses ?_, fun other => ?_, audioClockLost_off, fun on other => ?_⟩
  · exact event _ (if_pos ⟨on, crystal⟩)
  · exact event _ (if_neg fun h => out.elim (fun no => no h.1) fun no => no h.2)
  · exact event _ (if_pos ⟨on, pll⟩)
  · exact event _ (if_neg fun h => out.elim (fun no => no h.1) fun no => no h.2)
  · exact event _ (if_pos ⟨on, timer⟩)
  · refine event _ (if_neg fun h => out.elim (fun no => no h.1) fun no => ?_)
    have some : k.startTimer.isSome = true := h.2
    rw [no] at some
    cases some
  · exact event _ (if_pos switches)
  · exact event _ (if_neg other)
  · exact event _ (if_neg other)
  · obtain ⟨clock, withdrawn, pll, halt⟩ := switched_records s
    exact ⟨_, event (t := finishRetry (writePll true s.onPll)) _ (if_pos switches), clock, withdrawn, pll,
      halt, switched_leaves, switched_starts⟩
  · exact event _ (if_pos ⟨on, edge⟩)
  · refine event _ (if_neg fun h => out.elim (fun no => no h.1) fun no => ?_)
    have some : k.edgeMonitor.isSome = true := h.2
    rw [no] at some
    cases some
  · exact event _ (if_pos on)
  · exact event _ (if_neg other)
  · obtain ⟨audio, voices⟩ := audioClockLost_acts on other
    refine ⟨audio, (voices v).2, fun sounds plays => ?_, fun sounds stays => ?_⟩
    · rw [(voices v).1 sounds, if_pos ((nextSound_isSome s x).mpr plays)]
      rfl
    · rw [(voices v).1 sounds, if_neg (mt (nextSound_isSome s x).mp stays)]
      rfl

end Sys2Proof.Machine
end

section
/-! PROOF. The check codes tell a changed character (R188): frames of the bus (O52) and the start record (O47). -/

namespace Sys2Proof.Machine

/-! ### Check codes (R188) -/

theorem eq_of_shiftLeft_eq {w : Nat} {c d : BitVec w} (top : c.msb = d.msb) (rest : c <<< 1 = d <<< 1) : c = d := by
  refine BitVec.eq_of_getLsbD_eq fun i hi => ?_
  by_cases last : i + 1 = w
  · have place : i = w - 1 := by omega
    rw [BitVec.msb_eq_getLsbD_last, BitVec.msb_eq_getLsbD_last] at top
    rw [place]
    exact top
  · have bit := congrArg (fun x : BitVec w => x.getLsbD (i + 1)) rest
    simpa [BitVec.getLsbD_shiftLeft, show i + 1 < w by omega, hi] using bit

/-- A shift of a CRC register by a polynomial with the term 1 loses nothing. -/
theorem crcShift_injective {w : Nat} {p : BitVec w} (odd : p.getLsbD 0 = true) :
    Function.Injective fun c : BitVec w => if c.msb then (c <<< 1) ^^^ p else c <<< 1 := by
  intro c d same
  have low (x : BitVec w) : (if x.msb then (x <<< 1) ^^^ p else x <<< 1).getLsbD 0 = x.msb := by
    cases x.msb <;> simp [BitVec.getLsbD_shiftLeft, odd]
  have top : c.msb = d.msb := by rw [← low c, ← low d]; exact congrArg (fun x : BitVec w => x.getLsbD 0) same
  refine eq_of_shiftLeft_eq top ?_
  dsimp only at same
  rw [top] at same
  by_cases set : d.msb = true
  · rw [if_pos set, if_pos set] at same
    exact (BitVec.xor_left_inj p).mp same
  · rwa [if_neg set, if_neg set] at same

theorem repeat_injective {α : Type} {f : α → α} (inj : Function.Injective f) (n : Nat) :
    Function.Injective (Nat.repeat f n) := by
  induction n with
  | zero => exact fun _ _ h => h
  | succ n ih => exact fun _ _ h => ih (inj h)

theorem crc8Shift_injective : Function.Injective crc8Shift := crcShift_injective (p := 0x07#8) rfl

theorem crc16Shift_injective : Function.Injective crc16Shift := crcShift_injective (p := 0x1021#16) rfl

theorem crc8Byte_injective (c : Byte) : Function.Injective (crc8Byte c) :=
  fun _ _ h => (BitVec.xor_right_inj c).mp (repeat_injective crc8Shift_injective 8 h)

theorem crc8Byte_state_injective (b : Byte) : Function.Injective fun c => crc8Byte c b :=
  fun _ _ h => (BitVec.xor_left_inj b).mp (repeat_injective crc8Shift_injective 8 h)

theorem crc16Byte_injective (c : BitVec 16) : Function.Injective (crc16Byte c) := by
  intro a b h
  have high := (BitVec.xor_right_inj c).mp (repeat_injective crc16Shift_injective 8 h)
  refine BitVec.eq_of_getLsbD_eq fun i hi => ?_
  have bit := congrArg (fun x : BitVec 16 => x.getLsbD (i + 8)) high
  simpa [BitVec.getLsbD_shiftLeft, BitVec.getLsbD_setWidth, show i + 8 < 16 by omega, show i < 16 by omega] using bit

theorem crc16Byte_state_injective (b : Byte) : Function.Injective fun c => crc16Byte c b :=
  fun _ _ h => (BitVec.xor_left_inj _).mp (repeat_injective crc16Shift_injective 8 h)

theorem foldl_state_injective {α β : Type} {step : α → β → α} (state : ∀ b, Function.Injective fun a => step a b) (l : List β) :
    Function.Injective fun a => l.foldl step a := by
  induction l with
  | nil => exact fun _ _ h => h
  | cons x l ih => exact fun _ _ h => state x (ih h)

/-- A fold that loses neither its state nor a character tells one changed character. -/
theorem foldl_set_ne {α β : Type} {step : α → β → α} (state : ∀ b, Function.Injective fun a => step a b)
    (char : ∀ a, Function.Injective (step a)) {l : List β} {i : Nat} {b c : β} (at_ : l[i]? = some c) (changed : c ≠ b)
    (a : α) : (l.set i b).foldl step a ≠ l.foldl step a := by
  induction l generalizing i a with
  | nil => simp at at_
  | cons x l ih =>
    cases i with
    | zero =>
      have head : x = c := by simpa using at_
      exact fun same => changed (head ▸ (char a (foldl_state_injective state l same)).symm)
    | succ i => exact ih (by simpa using at_) (step a x)

theorem crc8_set_ne {l : List Byte} {i : Nat} {b c : Byte} (at_ : l[i]? = some c) (changed : c ≠ b) :
    crc8 (l.set i b) ≠ crc8 l :=
  foldl_set_ne crc8Byte_state_injective crc8Byte_injective at_ changed _

theorem crc16_set_ne {l : List Byte} {i : Nat} {b c : Byte} (at_ : l[i]? = some c) (changed : c ≠ b) :
    crc16 (l.set i b) ≠ crc16 l :=
  foldl_set_ne crc16Byte_state_injective crc16Byte_injective at_ changed _

/-- R188: characters with their CRC-8, one of them changed, do not check. -/
theorem checked_set_ne {l l' : List Byte} {i : Nat} {b c : Byte} (at_ : (l ++ [crc8 l])[i]? = some c) (changed : c ≠ b) :
    (l ++ [crc8 l]).set i b ≠ l' ++ [crc8 l'] := by
  intro same
  have length : l.length = l'.length := by simpa using congrArg List.length same
  rcases Nat.lt_trichotomy i l.length with before | last | beyond
  · rw [List.set_append_left _ _ before] at same
    obtain ⟨chars, check⟩ := List.append_inj same (by simpa using length)
    rw [List.getElem?_append_left before] at at_
    refine crc8_set_ne at_ changed ?_
    rw [chars]
    exact (List.cons.inj check).1.symm
  · rw [List.set_append_right _ _ (by omega)] at same
    obtain ⟨chars, check⟩ := List.append_inj same length
    have place : i - l.length = 0 := by omega
    rw [List.getElem?_append_right (by omega), place] at at_
    rw [place, ← chars] at check
    have own : crc8 l = c := by simpa using at_
    exact changed (own.symm.trans (List.cons.inj check).1.symm)
  · rw [List.getElem?_eq_none (by simpa using beyond)] at at_
    cases at_

/-! ### Frames (R134, R144, R189) -/

theorem readFrameKind_code (k : FrameKind) : readFrameKind k.code = some k := by cases k <;> rfl

theorem readFrameKind_eq_some {n : Nat} {k : FrameKind} (h : readFrameKind n = some k) : k.code = n := by
  unfold readFrameKind at h
  split at h <;> cases h <;> rfl

theorem FrameKind.code_lt (k : FrameKind) : k.code < 7 := by cases k <;> decide

theorem rangesOk_bounds {k : FrameKind} {route : Nat} {payload : List Byte} (ok : rangesOk k route payload = true) :
    route < 16 ∧ 1 ≤ payload.length ∧ payload.length ≤ 12 := by
  cases k <;> simp [rangesOk] at ok <;> omega

/-- R134: the characters of a frame before its check character. -/
def frameBody (number : Option Nat) (f : Frame) : List Byte :=
  BitVec.ofNat 8 (16 * f.kind.code + number.getD 0) :: BitVec.ofNat 8 (16 * f.route + f.payload.length) :: f.payload

theorem encodeFrame_eq (number : Option Nat) (f : Frame) :
    encodeFrame number f = frameBody number f ++ [crc8 (frameBody number f)] := rfl

theorem frameBody_length (number : Option Nat) (f : Frame) : (frameBody number f).length = f.payload.length + 2 := rfl

/-- R144, R189: a frame within the ranges of Table 8-2 reads back. -/
theorem readFrame_encodeFrame {number : Nat} {f : Frame} (known : number < 16)
    (ok : rangesOk f.kind f.route f.payload = true) :
    readFrame (encodeFrame (some number) f) = some ⟨f.kind, number, f.route, f.payload⟩ := by
  obtain ⟨route, -, short⟩ := rangesOk_bounds ok
  have code := f.kind.code_lt
  have c0 : fieldU (encodeFrame (some number) f) 0 1 = 16 * f.kind.code + number := by
    simp [encodeFrame, fieldU, readU]
    omega
  have c1 : fieldU (encodeFrame (some number) f) 1 1 = 16 * f.route + f.payload.length := by
    simp [encodeFrame, fieldU, readU]
    omega
  have payload : ((encodeFrame (some number) f).drop 2).take f.payload.length = f.payload := by simp [encodeFrame]
  have check : (encodeFrame (some number) f)[f.payload.length + 2]?
      = some (crc8 ((encodeFrame (some number) f).take (f.payload.length + 2))) := by
    rw [encodeFrame_eq, ← frameBody_length (some number) f]
    simp
  have length : (encodeFrame (some number) f).length = f.payload.length + 3 := by simp [encodeFrame]
  have low : (16 * f.route + f.payload.length) % 16 = f.payload.length := by omega
  have kind : (16 * f.kind.code + number) / 16 = f.kind.code := by omega
  have source : (16 * f.kind.code + number) % 16 = number := by omega
  have high : (16 * f.route + f.payload.length) / 16 = f.route := by omega
  unfold readFrame
  dsimp only
  rw [c0, c1, low, if_pos ⟨short, length, check⟩, kind, readFrameKind_code, payload, source, high]
  exact if_pos ok

theorem byte_of_toNat {b : Byte} {n : Nat} (h : b.toNat = n) : b = BitVec.ofNat 8 n := by
  rw [← h, BitVec.ofNat_toNat, BitVec.setWidth_eq]

/-- R144: characters that read as a frame are that frame's characters. -/
theorem readFrame_eq_some {chars : List Byte} {h : Heard} (reads : readFrame chars = some h) :
    chars = encodeFrame (some h.source) ⟨h.kind, h.route, h.payload, 0, none, false⟩ ∧ h.source < 16
      ∧ rangesOk h.kind h.route h.payload = true := by
  unfold readFrame at reads
  dsimp only at reads
  split at reads
  next whole =>
    obtain ⟨short, length, check⟩ := whole
    split at reads
    · cases reads
    next kind code =>
      split at reads
      next ok =>
        cases reads
        refine ⟨?_, Nat.mod_lt _ (by decide), ok⟩
        obtain _ | ⟨a, _ | ⟨b, rest⟩⟩ := chars
        · simp at length
        · simp at length
        have c0 : fieldU (a :: b :: rest) 0 1 = a.toNat := by simp [fieldU, readU]
        have c1 : fieldU (a :: b :: rest) 1 1 = b.toNat := by simp [fieldU, readU]
        rw [c1] at short length check ok ⊢
        rw [c0] at code ⊢
        have size : rest.length = b.toNat % 16 + 1 := by simpa using length
        obtain ⟨last, final⟩ := List.length_eq_one_iff.mp (show (rest.drop (b.toNat % 16)).length = 1 by simp [size])
        have split_ : rest = rest.take (b.toNat % 16) ++ [last] := by rw [← final, List.take_append_drop]
        have kept : (rest.take (b.toNat % 16)).length = b.toNat % 16 := by simp [size]
        have head : a = BitVec.ofNat 8 (16 * kind.code + a.toNat % 16) :=
          byte_of_toNat (by rw [readFrameKind_eq_some code]; omega)
        have second : b = BitVec.ofNat 8 (16 * (b.toNat / 16) + (rest.take (b.toNat % 16)).length) :=
          byte_of_toNat (by rw [kept]; omega)
        have sum : last = crc8 (a :: b :: rest.take (b.toNat % 16)) := by
          have at_ : (a :: b :: rest)[b.toNat % 16 + 2]? = some last := by
            have : rest[b.toNat % 16]? = some last := by
              rw [split_, List.getElem?_append_right (by omega), kept]
              simp
            simpa using this
          rw [at_] at check
          simpa using check
        show a :: b :: rest = encodeFrame (some (a.toNat % 16))
          ⟨kind, b.toNat / 16, rest.take (b.toNat % 16), 0, none, false⟩
        rw [encodeFrame_eq]
        unfold frameBody
        dsimp only [Option.getD_some]
        rw [← head, ← second, ← sum]
        exact congrArg (fun l => a :: b :: l) split_
      · cases reads
  · cases reads

/-- Settles O52, by the reading of a frame's characters and the CRC-8 of changed ones. -/
theorem framesReadBack : Obligations.FramesReadBack := by
  unfold Obligations.FramesReadBack
  intro number f chars h i b known sent
  refine ⟨fun ok => ⟨readFrame_encodeFrame known ok, by simp [sent, encodeFrame]⟩, fun reads => ?_, fun ok changed => ?_⟩
  · obtain ⟨eq, source, ok⟩ := readFrame_eq_some reads
    obtain ⟨-, some, short⟩ := rangesOk_bounds ok
    have length : chars.length = h.payload.length + 3 := by
      rw [eq]
      simp [encodeFrame]
    exact ⟨eq, source, ok, by omega, by omega⟩
  · obtain ⟨c, at_, differs⟩ : ∃ c, sent[i]? = some c ∧ c ≠ b := by
      cases at_ : sent[i]? with
      | none => simp [at_] at changed
      | some c => exact ⟨c, rfl, by simpa [at_] using changed⟩
    refine Option.eq_none_iff_forall_not_mem.mpr fun h reads => ?_
    exact checked_set_ne at_ differs (readFrame_eq_some reads).1

/-! ### The start record (R184, R193) -/

theorem charsOf_injective {k n m : Nat} (small : n < 256 ^ k) (small' : m < 256 ^ k)
    (same : charsOf k (n : Int) = charsOf k (m : Int)) : n = m := by
  rw [← readU_charsOf_nat small, same, readU_charsOf_nat small']

theorem recordOf_length (bytes : List Byte) : (recordOf bytes).length = bytes.length + 2 := by simp [recordOf]

theorem recordOf_checks {bytes : List Byte} (whole : bytes.length = 30) : StartRecord.checks ⟨recordOf bytes, false⟩ = true := by
  have kept : (recordOf bytes).take 30 = bytes := by simp [recordOf, ← whole]
  simp [StartRecord.checks, recordOf_length, whole, kept]

theorem fields_of_unchecked {r : StartRecord} (no : r.checks = false) : r.fields = none := by
  simp [StartRecord.fields, no]

/-- R188: a byte that is not what was stored makes the record invalid. -/
theorem checks_of_changed {bytes : List Byte} (whole : bytes.length = 30) {k : Nat} {b c : Byte} (at_ : bytes[k]? = some c)
    (changed : c ≠ b) : StartRecord.checks ⟨bytes.set k b ++ (recordOf bytes).drop 30, false⟩ = false := by
  have tail : (recordOf bytes).drop 30 = charsOf 2 (crc16 bytes).toNat := by simp [recordOf, ← whole]
  have kept : (bytes.set k b ++ (recordOf bytes).drop 30).take 30 = bytes.set k b := by simp [← whole]
  have differs : (bytes.set k b ++ (recordOf bytes).drop 30) ≠ recordOf (bytes.set k b) := by
    rw [tail, recordOf]
    intro same
    have sums := charsOf_injective (crc16 bytes).isLt (crc16 (bytes.set k b)).isLt ((List.append_right_inj _).mp same)
    exact crc16_set_ne at_ changed (BitVec.eq_of_toNat_eq sums.symm)
  simp only [StartRecord.checks, kept, beq_eq_false_iff_ne.mpr differs, Bool.and_false]

theorem getD_of_lt {bytes : List Byte} {k : Nat} (inside : k < bytes.length) : bytes[k]? = some (bytes.getD k 0) := by
  rw [List.getD_eq_getElem?_getD, List.getElem?_eq_getElem inside]
  rfl

theorem fieldU_one (bytes : List Byte) (i : Nat) : fieldU bytes i 1 = (bytes.getD i 0).toNat := by
  have drop : (bytes.drop i)[0]? = bytes[i]? := by simp
  rw [List.getD_eq_getElem?_getD, ← drop, fieldU]
  cases bytes.drop i with
  | nil => rfl
  | cons b rest => simp [readU]

theorem fieldU_two {bytes : List Byte} {i : Nat} :
    fieldU bytes i 2 = (bytes.getD i 0).toNat + 256 * (bytes.getD (i + 1) 0).toNat := by
  have drop : (bytes.drop i)[0]? = bytes[i]? := by simp
  have next : (bytes.drop i)[1]? = bytes[i + 1]? := by simp
  rw [List.getD_eq_getElem?_getD, List.getD_eq_getElem?_getD, ← drop, ← next, fieldU]
  obtain _ | ⟨a, _ | ⟨b, rest⟩⟩ := bytes.drop i <;> simp [readU]

theorem getD_recordOf {bytes : List Byte} {i : Nat} (inside : i < bytes.length) :
    (recordOf bytes).getD i 0 = bytes.getD i 0 := by
  simp [recordOf, List.getD_eq_getElem?_getD, List.getElem?_append_left inside]

/-- Table 12-8: a motor kind by its code. -/
def motorKindOf (n : Nat) : MotorKind := if n = 0 then .none else if n = 1 then .plain else .encoded

def sensorKindOf (n : Nat) : SensorKind := if n = 0 then .off else if n = 1 then .switch else if n = 2 then .level else .touch

theorem readMotorKind_eq {n : Nat} (small : n < 4) : readMotorKind n = if n = 3 then none else some (motorKindOf n) := by
  interval_cases n <;> rfl

theorem readSensorKind_eq {n : Nat} (small : n < 4) : readSensorKind n = some (sensorKindOf n) := by
  interval_cases n <;> rfl

theorem bitsOf_pair_lt (b lo : Nat) : bitsOf b lo 2 < 4 := Nat.mod_lt _ (by decide)

theorem readSensorKinds_eq (b : Nat) : readSensorKinds b = some #v[sensorKindOf (bitsOf b 0 2), sensorKindOf (bitsOf b 2 2),
    sensorKindOf (bitsOf b 4 2), sensorKindOf (bitsOf b 6 2)] := by
  unfold readSensorKinds
  simp only [readSensorKind_eq (bitsOf_pair_lt b _)]

theorem readMotorKinds_whole {b : Nat} (whole : ∀ i : Fin 4, bitsOf b (2 * i.val) 2 ≠ 3) :
    readMotorKinds b = some #v[motorKindOf (bitsOf b 0 2), motorKindOf (bitsOf b 2 2), motorKindOf (bitsOf b 4 2),
      motorKindOf (bitsOf b 6 2)] := by
  have kind (i : Fin 4) : readMotorKind (bitsOf b (2 * i.val) 2) = some (motorKindOf (bitsOf b (2 * i.val) 2)) := by
    rw [readMotorKind_eq (bitsOf_pair_lt b _), if_neg (whole i)]
  have h0 := kind 0
  have h1 := kind 1
  have h2 := kind 2
  have h3 := kind 3
  simp only [Fin.val_zero, Fin.val_one, Fin.val_two, show (3 : Fin 4).val = 3 from rfl, Nat.mul_zero, Nat.mul_one,
    Nat.reduceMul] at h0 h1 h2 h3
  simp only [readMotorKinds, h0, h1, h2, h3]

theorem readMotorKinds_unknown {b : Nat} {i : Fin 4} (unknown : bitsOf b (2 * i.val) 2 = 3) : readMotorKinds b = none := by
  have kind : readMotorKind (bitsOf b (2 * i.val) 2) = none := by rw [unknown]; rfl
  unfold readMotorKinds
  split
  next k0 k1 k2 k3 =>
    have known : readMotorKind (bitsOf b (2 * i.val) 2) ≠ none := by
      fin_cases i
      · exact fun is => nomatch k0.symm.trans is
      · exact fun is => nomatch k1.symm.trans is
      · exact fun is => nomatch k2.symm.trans is
      · exact fun is => nomatch k3.symm.trans is
    exact absurd kind known
  · rfl

theorem bitsOf_pair (b i : Nat) : bitsOf b (2 * i) 2 = b / 4 ^ i % 4 := by
  norm_num [bitsOf, pow_mul]

/-- Settles O47, by the check of the record and the codes of its fields. -/
theorem startRecordReadsBack : Obligations.StartRecordReadsBack := by
  unfold Obligations.StartRecordReadsBack
  intro bytes k b r length stored n two motor sensor flag target whole
  have checks : stored.checks = true := recordOf_checks length
  have byte {i : Nat} (inside : i < 30) : (recordOf bytes).getD i 0 = bytes.getD i 0 := getD_recordOf (by omega)
  have one {i : Nat} (inside : i < 30) : fieldU (recordOf bytes) i 1 = n i := by rw [fieldU_one, byte inside]
  have pair {i : Nat} (inside : i + 1 < 30) : readTarget (recordOf bytes) i = target i := by
    rw [readTarget, fieldU_two, byte (by omega), byte inside]
  refine ⟨by rw [recordOf_length, length], checks, fun known => ?_, fun unknown => ?_, fun torn => ?_, fun changed => ?_⟩
  · have motors := readMotorKinds_whole (b := n 1) fun i => by rw [bitsOf_pair]; exact known i
    show StartRecord.fields ⟨recordOf bytes, false⟩ = _
    unfold StartRecord.fields
    rw [if_pos checks]
    simp only [one (show 0 < 30 by decide), one (show 1 < 30 by decide), one (show 2 < 30 by decide),
      one (show 3 < 30 by decide), one (show 4 < 30 by decide), pair (show 5 + 1 < 30 by decide),
      pair (show 7 + 1 < 30 by decide), pair (show 9 + 1 < 30 by decide), pair (show 11 + 1 < 30 by decide),
      motors, readSensorKinds_eq, bitsOf_pair _ 0, bitsOf_pair _ 1, bitsOf_pair _ 2, bitsOf_pair _ 3]
    rw [show bitsOf (n 0) 0 4 = n 0 % 16 by simp [bitsOf]]
    rfl
  · obtain ⟨i, three⟩ := not_forall_not.mp unknown
    have motors : readMotorKinds (n 1) = none := readMotorKinds_unknown (i := i) (by rw [bitsOf_pair]; exact three)
    show StartRecord.fields ⟨recordOf bytes, false⟩ = _
    unfold StartRecord.fields
    rw [if_pos checks, one (by decide), motors]
  · exact fields_of_unchecked (by simp [StartRecord.checks, torn])
  · exact fields_of_unchecked (checks_of_changed length (getD_of_lt (by omega)) changed)

end Sys2Proof.Machine
end

section
/-! PROOF. A completed frame goes to the blocks that act on it (O54). -/

namespace Sys2Proof.Machine

/-! ### Dispatch by kind (R145, R146) -/

theorem commandFrame_other {own : Option Origin} {h : Heard} {s : State} (all : h.route ≠ 0) (other : s.isOwn h.route = false) :
    commandFrame own h s = s := if_neg fun is => is.elim all fun mine => by rw [other] at mine; cases mine

/-- R158, R159: the command of a completed Command frame for this station or for every station. -/
theorem commandFrame_mine {own : Option Origin} {h : Heard} {s : State} (mine : h.route = 0 ∨ s.isOwn h.route = true) :
    commandFrame own h s = carryOut (commandVia own h) (fieldU h.payload 0 1 / 16) (fieldU h.payload 0 1 % 16)
      (fieldU h.payload 1 1) (h.payload.drop 3) s := if_pos mine

theorem commandVia_own {o : Origin} {h : Heard} (all : h.route = 0) :
    commandVia (some o) h = .tablet o.dest o.token := if_pos all

theorem commandVia_other {h : Heard} (all : h.route = 0) : commandVia none h = .broadcast := if_pos all

theorem commandVia_one {own : Option Origin} {h : Heard} (one : h.route ≠ 0) :
    commandVia own h = .bus h.source (fieldU h.payload 2 1) := if_neg one

theorem dispatchFrame_go {own : Option Frame} {h : Heard} {s : State} (kind : h.kind = .go) :
    dispatchFrame own h s = goApplied (readU h.payload) s := by
  simp only [dispatchFrame, kind]

theorem dispatchFrame_command {own : Option Frame} {h : Heard} {s : State} (kind : h.kind = .command) :
    dispatchFrame own h s = commandFrame (own.bind Frame.origin) h s := by
  simp only [dispatchFrame, kind]

theorem dispatchFrame_reply {own : Option Frame} {h : Heard} {s : State} (kind : h.kind = .reply) :
    dispatchFrame own h s = replyFrame h s := by
  simp only [dispatchFrame, kind]

theorem dispatchFrame_signal {own : Option Frame} {h : Heard} {s : State} {i : Fin 16} (kind : h.kind = .signal ∨ h.kind = .event)
    (route : h.route = i.val) : dispatchFrame own h s = match own with
      | some _ => ownPublished i (readS h.payload) s
      | none => signalFrame i h s := by
  have small : h.route < 16 := route ▸ i.isLt
  have index : (⟨h.route, small⟩ : Fin 16) = i := Fin.ext route
  unfold dispatchFrame
  rcases kind with kind | kind <;> simp only [kind, dif_pos small, index] <;> rfl

theorem dispatchFrame_announce_own {f : Frame} {h : Heard} {s : State} (kind : h.kind = .announce) :
    dispatchFrame (some f) h s = s := by
  simp only [dispatchFrame, kind]

theorem dispatchFrame_announce {h : Heard} {s : State} (kind : h.kind = .announce) :
    dispatchFrame none h s = if s.isOwn h.source then duplicateCheck (fieldU h.payload 0 4) s else s := by
  simp only [dispatchFrame, kind]

theorem afterMisses_pair (miss : State → State) (t : State) (n : Nat) : afterMisses miss (t, n) = Nat.repeat miss n t := rfl

theorem signalFrame_eq (i : Fin 16) (h : Heard) (s : State) : signalFrame i h s
    = Nat.repeat setStageMiss (offerValue h.source i (readS h.payload) s).2
        (watchHeard h.source i.val (readS h.payload) (offerValue h.source i (readS h.payload) s).1) := by
  unfold signalFrame
  dsimp only
  generalize offerValue h.source i (readS h.payload) s = t
  obtain ⟨t, refused⟩ := t
  exact afterMisses_pair setStageMiss _ refused

theorem isOwn_iff (s : State) (n : Nat) : s.isOwn n = true ↔ s.bus.number = some n := beq_iff_eq

/-! ### A frame heard whole (R144) -/

/-- R144: the bus station once a frame has been heard whole. -/
def State.heardWhole (s : State) : State := setBusReceiver .hunting s

theorem frameCompletion_deaf {chars : List Byte} {s : State} (awake : s.resetHeld = [])
    (deaf : ¬(s.bus.receiver = .inFrame ∧ s.bus.breakSending = none)) : exec (.frameCompletion chars) s = ends s := by
  dsimp only [exec]
  rw [execFrameCompletion, State.whenAwake_awake awake, if_neg deaf]

theorem frameCompletion_unread {chars : List Byte} {s : State} (awake : s.resetHeld = [])
    (ready : s.bus.receiver = .inFrame ∧ s.bus.breakSending = none) (unread : readFrame chars = none) :
    exec (.frameCompletion chars) s = ends (markBusError s.heardWhole) := by
  dsimp only [exec]
  rw [execFrameCompletion, State.whenAwake_awake awake, if_pos ready]
  simp only [unread]
  rfl

/-- R144, R145: a frame that reads is dispatched, this station's own once it has left transmission. -/
theorem frameCompletion_read {chars : List Byte} {h : Heard} {s : State} (awake : s.resetHeld = [])
    (ready : s.bus.receiver = .inFrame ∧ s.bus.breakSending = none) (reads : readFrame chars = some h) :
    exec (.frameCompletion chars) s = ends (forwardAfter s.link.forwarded (match ownFrame chars s with
      | some f => dispatchFrame (some f) h (ownCompleted f s.heardWhole)
      | none => dispatchFrame none h s.heardWhole)) := by
  have own : ownFrame chars (setBusReceiver .hunting s) = ownFrame chars s := rfl
  dsimp only [exec]
  rw [execFrameCompletion, State.whenAwake_awake awake, if_pos ready]
  simp only [reads, own]
  cases ownFrame chars s <;> rfl

theorem ownFrame_own {chars : List Byte} {f : Frame} {s : State} (sending : s.bus.sending = some f)
    (same : encodeFrame s.bus.number f = chars) : ownFrame chars s = some f := by
  simp [ownFrame, sending, same]

theorem ownFrame_other {chars : List Byte} {s : State} (other : ∀ g ∈ s.bus.sending, encodeFrame s.bus.number g ≠ chars) :
    ownFrame chars s = none := by
  cases sending : s.bus.sending with
  | none => simp [ownFrame, sending]
  | some g => simpa [ownFrame, sending] using other g (by simp [sending])

theorem withdraw_halt (c : WithdrawnCause) (s : State) : (withdraw c s).halt = s.halt := by
  by_cases withdrawn : s.isWithdrawn = true
  · rw [withdraw_withdrawn withdrawn]
    rfl
  · rw [withdraw_up (Bool.not_eq_true _ ▸ withdrawn)]
    exact (updateSignal_updated 15 _ _).kept.halt.trans (withdrawing_voicesLeft c s).halt

/-- Settles O54, by the dispatch of each kind of frame. -/
theorem frameCompletionDispatches : Obligations.FrameCompletionDispatches := by
  unfold Obligations.FrameCompletionDispatches
  intro chars h f i o s awake b ready c base reads own other left told after value signal at_ carried mine serial taken passed
  have ownRow (is : own) : c = ends (after (dispatchFrame (some f) h told)) := by
    obtain ⟨⟨ready, reads⟩, sending, same⟩ := is
    refine (frameCompletion_read awake ready reads).trans ?_
    rw [ownFrame_own sending same]
    have completed : ownCompleted f s.heardWhole = told := by
      show reportOrigin f.origin none left = told
      cases origin : f.origin <;> simp [told, reportOrigin, origin]
    dsimp only
    rw [completed]
  have otherRow (is : other) : c = ends (after (dispatchFrame none h base)) := by
    obtain ⟨⟨ready, reads⟩, differs⟩ := is
    refine (frameCompletion_read awake ready reads).trans ?_
    rw [ownFrame_other differs]
    rfl
  have ranges {reads' : reads} : rangesOk h.kind h.route h.payload = true := (readFrame_eq_some reads'.2).2.2
  have group (is : reads) (kind : h.kind = .go) : readU h.payload = at_ 0 := by
    have ok := ranges (reads' := is)
    rw [kind] at ok
    have one : h.payload.length = 1 := by
      simp [rangesOk] at ok
      exact ok.1.1.2
    obtain ⟨x, eq⟩ := List.length_eq_one_iff.mp one
    simp [at_, eq, readU]
  have toldBus : told.bus = left.bus := by
    dsimp only [told]
    split <;> rfl
  have toldSignals : told.signals = s.signals := by
    dsimp only [told]
    split <;> rfl
  have ownBase : ∀ n, base.isOwn n = true ↔ b.number = some n := isOwn_iff base
  have ownTold (n : Nat) : told.isOwn n = true ↔ b.number = some n := by
    rw [isOwn_iff, toldBus]
    rfl
  have notMine {t : State} (own : ∀ n, t.isOwn n = true ↔ b.number = some n) (no : ¬mine) : t.isOwn h.route = false :=
    Bool.eq_false_iff.mpr fun is => no ((own _).mp is)
  have reply {t : State} (own : ∀ n, t.isOwn n = true ↔ b.number = some n) :
      (mine → replyFrame h t = passed t) ∧ (¬mine → replyFrame h t = t) := by
    refine ⟨fun is => ?_, fun no => if_neg fun is => no ((own _).mp is)⟩
    rw [replyFrame, if_pos ((own _).mpr is), fieldU_one, fieldU_one]
  have carried_ {t : State} {origin : Option Origin} (is : h.route = 0 ∨ t.isOwn h.route = true) :
      commandFrame origin h t = carried (commandVia origin h) t := by
    rw [commandFrame_mine is, fieldU_one, fieldU_one]
  refine ⟨frameCompletion_deaf awake, frameCompletion_unread awake, fun is kind => ?_, fun is kind => ?_, fun is sig => ?_,
    fun is sig => ?_, fun is kind all origin => ?_, fun is kind all => ?_, fun is kind one me => ?_, fun is kind one no => ?_,
    fun is kind one no => ?_, fun is kind me => ?_, fun is kind no => ?_, fun is kind me => ?_, fun is kind no => ?_,
    fun is kind => ?_, fun is kind no => ?_, fun is kind me lower => ?_, fun is kind me higher => ?_⟩
  · rw [ownRow is, dispatchFrame_go kind, group is.1 kind]
  · rw [otherRow is, dispatchFrame_go kind, group is.1 kind]
  · rw [ownRow is, dispatchFrame_signal sig.1 sig.2]
    show ends (after (ownPublished i value told)) = _
    rw [ownPublished, signal_of_signals toldSignals]
  · rw [otherRow is, dispatchFrame_signal sig.1 sig.2]
    exact congrArg (fun t => ends (after t)) (signalFrame_eq i h base)
  · rw [ownRow is, dispatchFrame_command kind, carried_ (.inl all), Option.bind_some, origin, commandVia_own all]
  · rw [otherRow is, dispatchFrame_command kind, carried_ (.inl all), Option.bind_none, commandVia_other all]
  · rw [otherRow is, dispatchFrame_command kind, carried_ (.inr ((ownBase _).mpr me)), commandVia_one one, fieldU_one]
  · rw [ownRow is, dispatchFrame_command kind, commandFrame_other one (notMine ownTold no)]
  · rw [otherRow is, dispatchFrame_command kind, commandFrame_other one (notMine ownBase no)]
  · rw [ownRow is, dispatchFrame_reply kind, (reply ownTold).1 me]
  · rw [ownRow is, dispatchFrame_reply kind, (reply ownTold).2 no]
  · rw [otherRow is, dispatchFrame_reply kind, (reply ownBase).1 me]
  · rw [otherRow is, dispatchFrame_reply kind, (reply ownBase).2 no]
  · rw [ownRow is, dispatchFrame_announce_own kind]
  · rw [otherRow is, dispatchFrame_announce kind, if_neg (mt (ownBase _).mp no)]
  · have announced : duplicateCheck (fieldU h.payload 0 4) base = announceRequest base := if_pos lower
    rw [otherRow is, dispatchFrame_announce kind, if_pos ((ownBase _).mpr me), announced]
  · have notLower : ¬base.bus.serial.toNat < fieldU h.payload 0 4 := by
      have : fieldU h.payload 0 4 < base.bus.serial.toNat := higher
      omega
    have duplicate : duplicateCheck (fieldU h.payload 0 4) base = withdraw .duplicate base :=
      (if_neg notLower).trans (if_pos higher)
    refine ⟨withdraw .duplicate base, ?_, withdraw_mem _ _, withdraw_halt _ _, fun up => ?_⟩
    · rw [otherRow is, dispatchFrame_announce kind, if_pos ((ownBase _).mpr me), duplicate]
    · have bus := (withdraw_up_bus (c := .duplicate) (s := base) up).1
      rw [withdrawing_bus] at bus
      rw [bus]
      exact ⟨rfl, rfl, rfl, withdraw_up_word (s := base) up⟩

end Sys2Proof.Machine
end

section
/-! PROOF. The line, the start of frames, timeouts, abandoned frames, breaks and withdrawal (O53). -/

namespace Sys2Proof.Machine

/-! ### Frames by kind -/

theorem FrameKind.expires_iff (k : FrameKind) : k.expires = true ↔ k = .command ∨ k = .reply := by
  cases k <;> simp [FrameKind.expires]

/-- R136: the identities that a frame can share: a Go's group, an Announce, the signal of a Signal or Event frame. -/
theorem Frame.sameIdentity_iff (f g : Frame) : f.sameIdentity g = true
    ↔ (f.kind = .go ∧ g.kind = .go ∧ g.payload = f.payload) ∨ (f.kind = .announce ∧ g.kind = .announce)
      ∨ ((f.kind = .signal ∨ f.kind = .event) ∧ (g.kind = .signal ∨ g.kind = .event) ∧ g.route = f.route) := by
  unfold Frame.sameIdentity
  cases f.kind <;> cases g.kind <;> simp [eq_comm (a := g.payload), eq_comm (a := g.route)]

theorem frameDropped_command {f : Frame} (command : f.kind = .command) (r : Result) (s : State) :
    frameDropped r f s = reportOrigin f.origin (some r) s := by
  simp only [frameDropped, command]

theorem frameDropped_other {f : Frame} (other : f.kind ≠ .command) (r : Result) (s : State) : frameDropped r f s = s := by
  unfold frameDropped
  split
  · exact absurd ‹_› other
  · rfl

/-! ### A frame abandoned (R140) -/

/-- R140: the station without its frame in transmission. -/
def State.cut (s : State) : State := s.setBus { s.bus with sending := none }

/-- R140: the cases of an abandoned frame, in their order. -/
theorem abandonFrame_eq {f : Frame} {s : State} (sending : s.bus.sending = some f) :
    abandonFrame s = if s.isWithdrawn then frameDropped .busFull f s.cut
      else if f.kind = .go ∧ ¬s.isRunning then s.cut
      else if (s.bus.queue.any fun g => f.sameIdentity g) then s.cut
      else if f.expired then frameDropped .busTimeout f s.cut
      else if (joinQueue f s.cut).2 then (joinQueue f s.cut).1 else frameLost f (joinQueue f s.cut).1 := by
  have dropped : dropSending s = frameDropped .busFull f s.cut := by
    unfold dropSending
    simp only [sending]
    rfl
  unfold abandonFrame
  simp only [sending, dropped]
  rfl

/-- R140: the frame of a station on the bus that has no reason to drop it, and no twin in the queue. -/
structure Stays (f : Frame) (s : State) : Prop where
  sending : s.bus.sending = some f
  up : s.isWithdrawn = false
  running : f.kind = .go → s.halt.state = .running

theorem Stays.abandoned {f : Frame} {s : State} (h : Stays f s) : abandonFrame s
    = if (s.bus.queue.any fun g => f.sameIdentity g) then s.cut
      else if f.expired then frameDropped .busTimeout f s.cut
      else if (joinQueue f s.cut).2 then (joinQueue f s.cut).1 else frameLost f (joinQueue f s.cut).1 := by
  rw [abandonFrame_eq h.sending, if_neg (by simp [h.up]), if_neg]
  rintro ⟨go, halted⟩
  exact halted ((isRunning_iff s).mpr (h.running go))

theorem Stays.twin {f : Frame} {s : State} (h : Stays f s) (twin : ∃ g ∈ s.bus.queue, f.sameIdentity g = true) :
    abandonFrame s = s.cut := by
  rw [h.abandoned, if_pos (List.any_eq_true.mpr twin)]

theorem Stays.alone {f : Frame} {s : State} (h : Stays f s) (alone : ∀ g ∈ s.bus.queue, f.sameIdentity g = false) :
    abandonFrame s = if f.expired then frameDropped .busTimeout f s.cut
      else if (joinQueue f s.cut).2 then (joinQueue f s.cut).1 else frameLost f (joinQueue f s.cut).1 := by
  rw [h.abandoned, if_neg]
  rw [List.any_eq_true]
  rintro ⟨g, mem, same⟩
  rw [alone g mem] at same
  cases same

theorem Stays.expired {f : Frame} {s : State} (h : Stays f s) (ages : f.kind = .command ∨ f.kind = .reply)
    (expired : f.expired = true) : abandonFrame s = frameDropped .busTimeout f s.cut := by
  rw [h.alone fun g _ => ?_, if_pos expired]
  refine Bool.eq_false_iff.mpr fun same => ?_
  have := (Frame.sameIdentity_iff f g).mp same
  rcases ages with kind | kind <;> simp [kind] at this

/-- R140, R137: the frame returns to a queue with room. -/
theorem Stays.returns_room {f : Frame} {s : State} (h : Stays f s) (alone : ∀ g ∈ s.bus.queue, f.sameIdentity g = false)
    (fresh : f.expired = false) (room : s.bus.queue.length < 8) :
    abandonFrame s = s.cut.setBus { s.cut.bus with queue := insertFrame f s.bus.queue } := by
  rw [h.alone alone, if_neg (by simp [fresh]), joinQueue_of_room (s := s.cut) room]
  rfl

/-- R140, R137: the frame finds the queue full of frames of no higher code. -/
theorem Stays.returns_refused {f : Frame} {s : State} (h : Stays f s) (alone : ∀ g ∈ s.bus.queue, f.sameIdentity g = false)
    (fresh : f.expired = false) (full : 8 ≤ s.bus.queue.length) (low : ∀ g ∈ s.bus.queue, g.kind.code ≤ f.kind.code) :
    abandonFrame s = frameLost f s.cut := by
  rw [h.alone alone, if_neg (by simp [fresh]), joinQueue_refused (s := s.cut) full low]
  rfl

/-- R140, R137: the frame evicts the last one of the queue. -/
theorem Stays.returns_evicts {f g : Frame} {s : State} (h : Stays f s) (alone : ∀ g ∈ s.bus.queue, f.sameIdentity g = false)
    (fresh : f.expired = false) (full : 8 ≤ s.bus.queue.length) (last : s.bus.queue.getLast? = some g)
    (lower : f.kind.code < g.kind.code) : abandonFrame s
      = frameLost g (s.cut.setBus { s.cut.bus with queue := insertFrame f s.bus.queue.dropLast }) := by
  rw [h.alone alone, if_neg (by simp [fresh]), joinQueue_evicts (s := s.cut) full last lower]
  rfl

theorem frameLost_bus (g : Frame) (s : State) :
    (frameLost g s).bus = { s.bus with announcePending := s.bus.announcePending || g.kind == .announce } := by
  have same {k : FrameKind} (other : k ≠ .announce) :
      s.bus = { s.bus with announcePending := s.bus.announcePending || k == .announce } := by
    rw [beq_eq_false_iff_ne.mpr other, Bool.or_false]
  unfold frameLost
  split
  next kind => rw [reportOrigin_bus, kind]; exact same (by decide)
  next kind => rw [kind, show (FrameKind.announce == FrameKind.announce) = true from rfl, Bool.or_true]; rfl
  next command announce => exact same announce

/-! ### The rows of the 200 ms (R138) -/

theorem queueTimeout_queued {place : Nat} {f : Frame} {s : State} (awake : s.resetHeld = [])
    (at_ : s.bus.queue[place]? = some f) : exec (.queueTimeout (.queued place)) s = ends (if f.kind.expires
      then forwardAfter s.link.forwarded
        (frameDropped .busTimeout f (s.setBus { s.bus with queue := s.bus.queue.eraseIdx place })) else s) := by
  dsimp only [exec]
  rw [execQueueTimeout, State.whenAwake_awake awake]
  simp only [at_]

theorem queueTimeout_nothing {place : Nat} {s : State} (awake : s.resetHeld = []) (at_ : s.bus.queue[place]? = none) :
    exec (.queueTimeout (.queued place)) s = ends s := by
  dsimp only [exec]
  rw [execQueueTimeout, State.whenAwake_awake awake]
  simp only [at_]

theorem queueTimeout_sending {f : Frame} {s : State} (awake : s.resetHeld = []) (sending : s.bus.sending = some f) :
    exec (.queueTimeout .sending) s = ends (if f.kind.expires
      then s.setBus { s.bus with sending := some { f with expired := true } } else s) := by
  dsimp only [exec]
  rw [execQueueTimeout, State.whenAwake_awake awake]
  simp only [sending]

theorem queueTimeout_idle {s : State} (awake : s.resetHeld = []) (sending : s.bus.sending = none) :
    exec (.queueTimeout .sending) s = ends s := by
  dsimp only [exec]
  rw [execQueueTimeout, State.whenAwake_awake awake]
  simp only [sending]

/-! ### The obligation -/

/-- Settles O53, by the rows of the line and the cases of an abandoned frame. -/
theorem busLineAndSending : Obligations.BusLineAndSending := by
  unfold Obligations.BusLineAndSending
  intro f g rest place why c o s awake b after idle inFrame quiet mayStart set ages cut faulted abandoned content twin stays
    returns error more told
  have event (f : State → State) {t : State} (taken : f s = t) : s.whenAwake f = ends t := by
    rw [State.whenAwake_awake awake, taken]
  have breaks (h : ¬quiet) : b.breakSending.isSome = true := Option.isSome_iff_ne_none.mpr h
  have silent (h : quiet) : ¬b.breakSending.isSome = true := by
    rw [show b.breakSending = none from h]
    exact fun is => by cases is
  have kindAges : f.kind.expires = true ↔ ages := f.kind.expires_iff
  have twinIff (h : Frame) : f.sameIdentity h = true ↔ twin h := f.sameIdentity_iff h
  have remains (h : stays) : Stays f s := ⟨h.1, h.2.1, h.2.2⟩
  have lone (h : returns) : ∀ g ∈ s.bus.queue, f.sameIdentity g = false :=
    fun g mem => Bool.eq_false_iff.mpr fun same => h.2.1 g mem ((twinIff g).mp same)
  refine ⟨fun on => ⟨?_, ?_, ?_, ?_⟩, fun off out => ?_, fun off is => ?_, fun off is => ?_, fun busy => ?_, fun out => ?_,
    fun is kind => ?_, fun is kind => ?_, fun is notBreak notGap => ?_, fun may queue => ?_, fun no => ?_,
    fun pending room up => ?_, fun no => ?_, fun at_ kind => ?_, fun at_ kind => ?_, fun no => ?_, fun sending kind => ?_,
    fun no => ?_, fun none => ⟨?_, ?_⟩, fun sending => ?_, fun sending few => ?_, fun sending many => ?_,
    fun sending gone other => ?_, fun sending go halted => ?_, fun sending gone command => ?_, fun is same => ?_,
    fun is command expired => ?_, fun is reply expired => ?_, fun is room => ?_, fun is full low => ?_,
    fun is full last lower => ?_, withdraw_withdrawn, fun up => ?_, rfl, rfl, fun off => ?_, fun on => ?_, fun off => ?_,
    fun on => ?_, fun off => ⟨?_, ?_⟩⟩
  · dsimp only [exec]
    exact event _ (if_pos (breaks on))
  · dsimp only [exec]
    exact event _ (if_neg fun both => on both.2)
  · dsimp only [exec]
    exact event _ (if_neg fun all => on all.2.2.1)
  · dsimp only [exec]
    exact event _ (if_neg on)
  · dsimp only [exec]
    refine event _ ((if_neg (silent off)).trans ?_)
    cases receiver : s.bus.receiver with
    | inFrame => exact absurd receiver out
    | hunting => rfl
    | idle => rfl
  · dsimp only [exec]
    refine event _ ((if_neg (silent off)).trans ?_)
    rw [show s.bus.receiver = .inFrame from is]
    rfl
  · dsimp only [exec]
    exact event _ (if_pos ⟨is, off⟩)
  · dsimp only [exec]
    exact event _ (if_neg fun both => busy both.1)
  · dsimp only [error, exec]
    exact event _ (if_neg out)
  · dsimp only [error, exec]
    exact event _ ((if_pos is).trans (by rw [kind]))
  · dsimp only [error, exec]
    exact event _ ((if_pos is).trans (by rw [kind]; rfl))
  · dsimp only [error, exec]
    refine event _ ((if_pos is).trans ?_)
    cases why with
    | framingBreak => exact absurd rfl notBreak
    | earlyGap => exact absurd rfl notGap
    | markBit => rfl
    | payloadLength => rfl
    | framingShort => rfl
    | check => rfl
  · dsimp only [exec]
    obtain ⟨is, up, off, idles⟩ := may
    refine event _ ((if_pos ⟨is, Bool.eq_false_iff.mp up, off, idles⟩).trans ?_)
    rw [show s.bus.queue = f :: rest from queue]
  · dsimp only [exec]
    rcases no with no | empty
    · exact event _ (if_neg fun all => no ⟨all.1, Bool.eq_false_iff.mpr all.2.1, all.2.2⟩)
    · refine event _ ?_
      dsimp only
      split
      · rw [show s.bus.queue = [] from empty]
      · rfl
  · dsimp only [exec]
    exact event _ (if_pos ⟨pending, room, Bool.eq_false_iff.mp up⟩)
  · dsimp only [exec]
    refine event _ (if_neg fun all => ?_)
    rcases no with none | full | gone
    · rw [show s.bus.announcePending = false from none] at all
      exact absurd all.1 (by decide)
    · exact absurd all.2.1 (Nat.not_lt.mpr full)
    · exact all.2.2 gone
  · rw [queueTimeout_queued awake at_, if_pos (kindAges.mpr (.inr kind)), frameDropped_other (by rw [kind]; decide)]
  · rw [queueTimeout_queued awake at_, if_pos (kindAges.mpr (.inl kind)), frameDropped_command kind]
  · rcases no with none | ⟨at_, young⟩
    · exact queueTimeout_nothing awake none
    · rw [queueTimeout_queued awake at_, if_neg (mt kindAges.mp young)]
  · rw [queueTimeout_sending awake sending, if_pos (kindAges.mpr kind)]
  · rcases no with none | ⟨sending, young⟩
    · exact queueTimeout_idle awake none
    · rw [queueTimeout_sending awake sending, if_neg (mt kindAges.mp young)]
  · dsimp only [exec]
    exact event _ (if_neg (by rw [show s.bus.sending = .none from none]; exact fun is => by cases is))
  · dsimp only [exec]
    exact event _ (if_neg (by rw [show s.bus.sending = .none from none]; exact fun is => by cases is))
  · dsimp only [exec]
    exact event _ (if_pos (Option.isSome_of_eq_some sending))
  · dsimp only [exec]
    refine event _ ((if_pos (Option.isSome_of_eq_some sending)).trans ?_)
    exact congrArg (forwardAfter s.link.forwarded) (if_pos few)
  · dsimp only [exec]
    refine event _ ((if_pos (Option.isSome_of_eq_some sending)).trans ?_)
    exact congrArg (forwardAfter s.link.forwarded) (if_neg (Nat.not_lt.mpr (Nat.succ_le_succ many)))
  · rw [show abandoned = _ from abandonFrame_eq sending, if_pos gone, frameDropped_other other]
    rfl
  · by_cases gone : s.isWithdrawn = true
    · rw [show abandoned = _ from abandonFrame_eq sending, if_pos gone, frameDropped_other (by rw [go]; decide)]
      rfl
    · rw [show abandoned = _ from abandonFrame_eq sending, if_neg gone,
        if_pos ⟨go, mt (isRunning_iff s).mp halted⟩]
      rfl
  · rw [show abandoned = _ from abandonFrame_eq sending, if_pos gone, frameDropped_command command]
    rfl
  · obtain ⟨h, mem, same⟩ := same
    exact (remains is).twin ⟨h, mem, (twinIff h).mpr same⟩
  · rw [show abandoned = _ from (remains is).expired (.inl command) expired, frameDropped_command command]
    rfl
  · rw [show abandoned = _ from (remains is).expired (.inr reply) expired, frameDropped_other (by rw [reply]; decide)]
    rfl
  · have joined : abandoned = _ := (remains is.1).returns_room (lone is) is.2.2 room
    refine ⟨by rw [joined]; rfl, by rw [joined]; exact insertFrame_perm f b.queue, fun ordered => ?_⟩
    rw [joined]
    exact queueOrdered_insertFrame ordered (lone is)
  · rw [show abandoned = _ from (remains is.1).returns_refused (lone is) is.2.2 full low]
    unfold frameLost
    cases f.kind <;> rfl
  · have evicted : abandoned = _ := (remains is.1).returns_evicts (lone is) is.2.2 full last lower
    rw [evicted, frameLost_bus]
    refine ⟨rfl, ?_, rfl⟩
    refine ((insertFrame_perm f b.queue.dropLast).append_right [g]).trans (.of_eq ?_)
    rw [List.cons_append, List.dropLast_append_getLast? g last]
  · rw [withdraw_up up]
    have same : s.withdrawing c = told := reportFull_eq _ _
    rw [same]
    rfl
  · dsimp only [exec]
    exact event _ (if_pos off)
  · dsimp only [exec]
    exact event _ (if_pos (breaks on))
  · dsimp only [exec]
    exact event _ (if_neg (silent off))
  · unfold Machine.startBreak
    cases sending : s.bus.breakSending with
    | none => exact absurd sending on
    | some k => rfl
  · rw [Machine.startBreak, show s.bus.breakSending = none from off]
    rfl
  · rw [Machine.startBreak, show s.bus.breakSending = none from off]
    exact abandonFrame_sending s

end Sys2Proof.Machine
end

section
/-! PROOF. The messages of the tablet link at the head of their lanes (O49). -/

namespace Sys2Proof.Machine

/-! ### Lanes -/

theorem setLane_lane (l : Fin 4) (s : State) : s.setLane l (s.lane l) = s := by
  have lanes : s.link.lanes.set l (s.lane l) = s.link.lanes := Vector.set_getElem_self _
  show { s with link := { s.link with lanes := s.link.lanes.set l (s.lane l) } } = s
  rw [lanes]

theorem setLane_setLane (l : Fin 4) (x y : Lane) (s : State) : (s.setLane l x).setLane l y = s.setLane l y := by
  show { s with link := { s.link with lanes := (s.link.lanes.set l x).set l y } } = _
  rw [Vector.set_set]
  rfl

/-- R174: a message joins a lane that is not Batched. -/
theorem Lane.join_of_other {x : Lane} (other : x.mode ≠ .batched) (m : OutMsg) :
    x.join m = { x with outbound := x.outbound ++ [⟨m, x.mode == .immediate⟩] } := by
  simp [Lane.join, other]

/-! ### A status request (R168) -/

/-- R168: the status message of a FIFO is released. -/
def releaseStatus (q : List OutSlot) : List OutSlot :=
  q.map fun y => if y.msg = .status then { y with released := true } else y

theorem linkStatusRequest_eq (s : State) : linkStatusRequest s
    = (statusAsk s).setLane 0 { (statusAsk s).lane 0 with outbound := releaseStatus ((statusAsk s).lane 0).outbound } := rfl

theorem releaseStatus_none {q : List OutSlot} (none : ∀ y ∈ q, y.msg ≠ .status) : releaseStatus q = q :=
  (List.map_congr_left fun y mem => if_neg (none y mem)).trans (List.map_id q)

theorem statusAsk_waits {s : State} (waits : ∃ y ∈ (s.lane 0).outbound, y.msg = .status) : statusAsk s = s := by
  obtain ⟨y, mem, status⟩ := waits
  exact if_pos (List.any_eq_true.mpr ⟨y, mem, by simp [status]⟩)

theorem statusAsk_asks {s : State} (none : ∀ y ∈ (s.lane 0).outbound, y.msg ≠ .status) : statusAsk s = tell 0 .status s := by
  refine if_neg fun any => ?_
  obtain ⟨y, mem, status⟩ := List.any_eq_true.mp any
  exact none y mem (beq_iff_eq.mp status)

/-- R168: a status request at a lane 0 with room that is not Batched. -/
theorem linkStatusRequest_joins {s : State} (present : s.link.present = true)
    (none : ∀ y ∈ (s.lane 0).outbound, y.msg ≠ .status) (room : (s.lane 0).outbound.length < 6)
    (other : (s.lane 0).mode ≠ .batched) :
    linkStatusRequest s = s.setLane 0 { s.lane 0 with outbound := (s.lane 0).outbound ++ [⟨.status, true⟩] } := by
  have told : statusAsk s = s.setLane 0 { s.lane 0 with
      outbound := (s.lane 0).outbound ++ [⟨.status, (s.lane 0).mode == .immediate⟩] } := by
    rw [statusAsk_asks none, tell_present present, Lane.take_of_room rfl room, Lane.join_of_other other]
  have released : releaseStatus ((s.lane 0).outbound ++ [⟨.status, (s.lane 0).mode == .immediate⟩])
      = (s.lane 0).outbound ++ [⟨.status, true⟩] := by
    show List.map _ _ = _
    rw [List.map_append]
    exact congrArg (fun q => q ++ [(⟨.status, true⟩ : OutSlot)]) (releaseStatus_none none)
  rw [linkStatusRequest_eq, told, State.lane_setLane, setLane_setLane, released]

theorem linkStatusRequest_waits {s : State} (waits : ∃ y ∈ (s.lane 0).outbound, y.msg = .status) :
    linkStatusRequest s = s.setLane 0 { s.lane 0 with outbound := releaseStatus (s.lane 0).outbound } := by
  rw [linkStatusRequest_eq, statusAsk_waits waits]

theorem linkStatusRequest_absent {s : State} (absent : s.link.present = false)
    (none : ∀ y ∈ (s.lane 0).outbound, y.msg ≠ .status) : linkStatusRequest s = s := by
  rw [linkStatusRequest_eq, statusAsk_asks none, tell_absent absent, releaseStatus_none none]
  exact setLane_lane 0 s

/-! ### Lane modes (R168, R174) -/

theorem linkSetLaneMode_of_mode {l : Fin 4} {mode : Nat} {m : LaneMode} (known : readLaneMode mode = some m) (interval : Nat)
    (s : State) : linkSetLaneMode l.val mode interval s
      = s.setLane l ((s.lane l).withMode m (clampN 10 2550 (10 * interval))) := by
  unfold linkSetLaneMode
  rw [dif_pos l.isLt, known]

theorem readLaneMode_none {mode : Nat} (beyond : 3 ≤ mode) : readLaneMode mode = none := by
  obtain ⟨n, rfl⟩ := Nat.exists_eq_add_of_le' beyond
  rfl

theorem linkSetLaneMode_bad {lane mode : Nat} (bad : 4 ≤ lane ∨ 3 ≤ mode) (interval : Nat) (s : State) :
    linkSetLaneMode lane mode interval s = markBad s := by
  unfold linkSetLaneMode
  by_cases known : lane < 4
  · rw [dif_pos known, readLaneMode_none (bad.resolve_left (Nat.not_le.mpr known))]
  · rw [dif_neg known]

/-! ### The watch list (R175) -/

theorem listed_iff (st ix : Nat) (watch : List WatchPair) :
    watch.any (WatchPair.is st ix) = true ↔ ∃ w ∈ watch, w.station = st ∧ w.index = ix := by
  simp [WatchPair.is]

theorem not_is (station index : Nat) (w : WatchPair) : (!w.is station index) = (w.station != station || w.index != index) := by
  simp [WatchPair.is, bne]

/-- Settles O49, by the messages of the link and the end of a store. -/
theorem linkMessages : Obligations.LinkMessages := by
  unfold Obligations.LinkMessages
  intro l lane mode interval token station index bytes job s awake k x bad ms released zero waits st ix listed c store answer
  have event (f : State → State) {t : State} (taken : f s = t) : s.whenAwake f = ends t := by
    rw [State.whenAwake_awake awake, taken]
  have absent (no : ¬waits) : ∀ y ∈ (s.lane 0).outbound, y.msg ≠ .status := fun y mem is => no ⟨y, mem, is⟩
  have listedIff : k.watch.any (WatchPair.is st ix) = true ↔ listed := listed_iff st ix k.watch
  refine ⟨fun present no room other => ?_, fun is => ?_, fun gone no => ?_, fun is => ?_, fun is => ?_, fun is => ?_,
    fun is => ?_, ?_, fun beyond => ?_, fun is => ?_, fun no room => ?_, fun no full => ?_, ?_, ?_, fun whole free => ?_,
    fun whole busy => ?_, fun short => ?_, fun none => ?_, fun some => ?_⟩
  · exact event _ (linkStatusRequest_joins present (absent no) room other)
  · exact event _ (linkStatusRequest_waits is)
  · exact event _ (linkStatusRequest_absent gone (absent no))
  · exact event _ (linkSetLaneMode_of_mode (m := .immediate) (by rw [is]; rfl) interval s)
  · exact event _ (linkSetLaneMode_of_mode (m := .batched) (by rw [is]; rfl) interval s)
  · exact event _ (linkSetLaneMode_of_mode (m := .quiet) (by rw [is]; rfl) interval s)
  · exact event _ (linkSetLaneMode_bad is interval s)
  · exact event _ (dif_pos l.isLt)
  · exact event _ (dif_neg (Nat.not_lt.mpr beyond))
  · exact event _ (if_pos (listedIff.mpr is))
  · exact event _ ((if_neg (mt listedIff.mp no)).trans (if_pos room))
  · exact event _ ((if_neg (mt listedIff.mp no)).trans (if_neg (Nat.not_lt.mpr full)))
  · refine event _ ?_
    unfold linkWatchRemove
    simp only [not_is]
    rfl
  · exact event _ rfl
  · exact event _ ((if_neg (not_not.mpr whole)).trans (if_neg (by rw [show s.link.store = none from free]; simp)))
  · exact event _ ((if_neg (not_not.mpr whole)).trans (if_pos busy))
  · exact event _ (if_pos short)
  · dsimp only [exec]
    refine event _ ?_
    rw [show s.link.store = .none from none]
  · dsimp only [exec]
    refine event _ ?_
    rw [show s.link.store = .some job from some]
    rfl

end Sys2Proof.Machine
end

section
/-! PROOF. The tablet receiver: messages valid and bad, and their bodies at the head of their lanes (O50). -/

namespace Sys2Proof.Machine

/-! ### Messages in characters (R166, R188, R190) -/

/-- R190: the header character of a message. -/
def messageHeader (l : Fin 4) (n : Nat) : Byte := BitVec.ofNat 8 (64 * l.val + n)

theorem messageHeader_toNat (l : Fin 4) {n : Nat} (short : n ≤ 32) : (messageHeader l n).toNat = 64 * l.val + n := by
  have := l.isLt
  simp only [messageHeader, BitVec.toNat_ofNat]
  omega

/-- R166, R190: characters framed as a message read as that message exactly when the check character is the CRC-8. -/
theorem readMessage_framed (l : Fin 4) {body : List Byte} (short : body.length ≤ 32) (check : Byte) :
    readMessage (0x7E#8 :: (messageHeader l body.length :: body) ++ [check])
      = if check = crc8 (messageHeader l body.length :: body) then some (l, body) else none := by
  have field : fieldU (0x7E#8 :: (messageHeader l body.length :: body) ++ [check]) 1 1 = 64 * l.val + body.length := by
    simpa [fieldU, readU] using messageHeader_toNat l short
  have low : (64 * l.val + body.length) % 64 = body.length := by omega
  have high : (64 * l.val + body.length) / 64 = l.val := by omega
  have length : (0x7E#8 :: (messageHeader l body.length :: body) ++ [check]).length = body.length + 3 := by simp
  have last : (0x7E#8 :: (messageHeader l body.length :: body) ++ [check])[body.length + 2]? = some check := by simp
  have checked : ((0x7E#8 :: (messageHeader l body.length :: body) ++ [check]).drop 1).take (body.length + 1)
      = messageHeader l body.length :: body := by simp
  have inner : ((0x7E#8 :: (messageHeader l body.length :: body) ++ [check]).drop 2).take body.length = body := by simp
  unfold readMessage
  simp only [field, low, high, length, last, checked, inner]
  by_cases same : check = crc8 (messageHeader l body.length :: body)
  · rw [if_pos same, dif_pos ⟨rfl, short, trivial, congrArg some same, l.isLt⟩]
  · rw [if_neg same, dif_neg fun h => same (Option.some.inj h.2.2.2.1)]

/-- R190: the characters of a message. -/
def framedMessage (l : Fin 4) (body : List Byte) : List Byte :=
  0x7E#8 :: (messageHeader l body.length :: body) ++ [crc8 (messageHeader l body.length :: body)]

theorem readMessage_framedMessage (l : Fin 4) {body : List Byte} (short : body.length ≤ 32) :
    readMessage (framedMessage l body) = some (l, body) :=
  (readMessage_framed l short _).trans (if_pos rfl)

theorem readMessage_torn (l : Fin 4) {body : List Byte} (short : body.length ≤ 32) {flip : Byte} (differs : flip ≠ 0#8) :
    readMessage (0x7E#8 :: (messageHeader l body.length :: body)
      ++ [crc8 (messageHeader l body.length :: body) ^^^ flip]) = none := by
  refine (readMessage_framed l short _).trans (if_neg fun same => differs ?_)
  exact (BitVec.xor_right_inj (crc8 (messageHeader l body.length :: body))).mp (same.trans (BitVec.xor_zero).symm)

/-! ### A message that arrives (R167) -/

/-- R166, R178: the link that has received a valid message. -/
def State.linkReady (s : State) : State := (setReceiver .ready s).linkPresent

/-- R167: a lane whose only message is `body`. -/
def State.linkQueued (s : State) (l : Fin 4) (body : List Byte) : State :=
  s.linkReady.setLane l { s.lane l with inbound := [body] }

theorem tabletMessageValid_hunting {chars : List Byte} {s : State} (awake : s.resetHeld = [])
    (hunting : s.link.receiver = .hunting) : exec (.tabletMessageValid chars) s = ends s := by
  dsimp only [exec]
  rw [execTabletMessageValid, State.whenAwake_awake awake, if_pos hunting]

theorem tabletMessageValid_unread {chars : List Byte} {s : State} (awake : s.resetHeld = [])
    (ready : s.link.receiver ≠ .hunting) (unread : readMessage chars = none) :
    exec (.tabletMessageValid chars) s = ends (setReceiver .hunting (markBad s)) := by
  dsimp only [exec]
  rw [execTabletMessageValid, State.whenAwake_awake awake, if_neg ready, unread]

theorem tabletMessageValid_read {chars : List Byte} {l : Fin 4} {body : List Byte} {s : State} (awake : s.resetHeld = [])
    (ready : s.link.receiver ≠ .hunting) (reads : readMessage chars = some (l, body)) :
    exec (.tabletMessageValid chars) s = ends (receiveMessage l body (setReceiver .ready s)) := by
  dsimp only [exec]
  rw [execTabletMessageValid, State.whenAwake_awake awake, if_neg ready, reads]

theorem receiveMessage_full {l : Fin 4} {body : List Byte} {s : State} (full : 6 ≤ (s.lane l).inbound.length) :
    receiveMessage l body (setReceiver .ready s) = s.linkReady.setLane l { s.lane l with overrun := true } :=
  if_neg (Nat.not_lt.mpr full)

theorem receiveMessage_room {l : Fin 4} {body : List Byte} {s : State} (room : (s.lane l).inbound.length < 6) :
    receiveMessage l body (setReceiver .ready s)
      = drainLane l (s.linkReady.setLane l { s.lane l with inbound := (s.lane l).inbound ++ [body] }) := if_pos room

theorem removeHead_linkQueued {l : Fin 4} {s : State} (alone : (s.lane l).inbound = []) (body : List Byte) :
    removeHead l (s.linkQueued l body) = s.linkReady := by
  have removed : (s.linkQueued l body).setLane l { (s.linkQueued l body).lane l with
      inbound := ((s.linkQueued l body).lane l).inbound.tail } = s.linkReady := by
    unfold State.linkQueued
    rw [State.lane_setLane, setLane_setLane]
    show s.linkReady.setLane l { s.lane l with inbound := [] } = _
    rw [← alone]
    exact setLane_lane l s.linkReady
  unfold removeHead
  dsimp only
  rw [removed, if_neg]
  rintro ⟨six, -⟩
  rw [State.linkQueued, State.lane_setLane] at six
  cases six

/-- R167: a message that finds its lane empty is taken, or waits. -/
theorem tabletMessageValid_alone {l : Fin 4} {body : List Byte} {s : State} (awake : s.resetHeld = [])
    (ready : s.link.receiver ≠ .hunting) (short : body.length ≤ 32) (alone : (s.lane l).inbound = []) :
    exec (.tabletMessageValid (framedMessage l body)) s
      = ends ((takeHead l body (s.linkQueued l body)).getD (s.linkQueued l body)) := by
  have queued : s.linkReady.setLane l { s.lane l with inbound := (s.lane l).inbound ++ [body] } = s.linkQueued l body := by
    rw [alone]
    rfl
  have inbound : ((s.linkQueued l body).lane l).inbound = [body] := by
    rw [State.linkQueued, State.lane_setLane]
  rw [tabletMessageValid_read awake ready (readMessage_framedMessage l short), receiveMessage_room (by rw [alone]; decide),
    queued, drainLane, inbound]
  show ends (drain l 1 (s.linkQueued l body)) = _
  unfold drain
  rw [inbound]
  dsimp only
  cases takeHead l body (s.linkQueued l body) with
  | none => rfl
  | some t => rfl

theorem tabletMessage_taken {l : Fin 4} {body : List Byte} {s t : State} (awake : s.resetHeld = [])
    (ready : s.link.receiver ≠ .hunting) (short : body.length ≤ 32) (alone : (s.lane l).inbound = [])
    (takes : takeHead l body (s.linkQueued l body) = some t) : exec (.tabletMessageValid (framedMessage l body)) s = ends t := by
  rw [tabletMessageValid_alone awake ready short alone, takes]
  rfl

theorem tabletMessage_waits {l : Fin 4} {body : List Byte} {s : State} (awake : s.resetHeld = [])
    (ready : s.link.receiver ≠ .hunting) (short : body.length ≤ 32) (alone : (s.lane l).inbound = [])
    (waits : takeHead l body (s.linkQueued l body) = none) :
    exec (.tabletMessageValid (framedMessage l body)) s = ends (s.linkQueued l body) := by
  rw [tabletMessageValid_alone awake ready short alone, waits]
  rfl

/-! ### Bodies (R168 to R171, R175, R190) -/

theorem isLocal_iff {dest : Byte} {s : State} :
    s.isLocal dest.toNat = true ↔ dest = 15#8 ∨ s.bus.number = some dest.toNat := by
  have fifteen : dest.toNat = 15 ↔ dest = 15#8 := by bv_omega
  simp [State.isLocal, State.isOwn, fifteen]

/-- R169, R190: a command's body at the head of the Command lane. -/
theorem takeCommandHead_command {dest bi code token : Byte} {args : List Byte} (known : dest.toNat < 16)
    (short : args.length ≤ 9) (s : State) : takeCommandHead (dest :: bi :: code :: token :: args) s
      = takeCommand dest.toNat bi.toNat code.toNat token.toNat args s := by
  have b0 : fieldU (dest :: bi :: code :: token :: args) 0 1 = dest.toNat := by simp [fieldU, readU]
  have b1 : fieldU (dest :: bi :: code :: token :: args) 1 1 = bi.toNat := by simp [fieldU, readU]
  have b2 : fieldU (dest :: bi :: code :: token :: args) 2 1 = code.toNat := by simp [fieldU, readU]
  have b3 : fieldU (dest :: bi :: code :: token :: args) 3 1 = token.toNat := by simp [fieldU, readU]
  have shape : dest.toNat / 16 = 0 ∧ 4 ≤ (dest :: bi :: code :: token :: args).length
      ∧ (dest :: bi :: code :: token :: args).length ≤ 13 := by
    simp
    omega
  unfold takeCommandHead
  simp only [b0, b1, b2, b3]
  rw [if_pos shape, Nat.mod_eq_of_lt known]
  rfl

/-- R171, R190: a StoreStartRecord's body at the head of the Command lane. -/
theorem takeCommandHead_store {dest token : Byte} {bytes : List Byte} (known : dest.toNat < 16) (whole : bytes.length = 30)
    (s : State) : takeCommandHead (BitVec.ofNat 8 (16 + dest.toNat) :: token :: bytes) s
      = some (linkStore token.toNat bytes (removeHead 1 s)) := by
  have b0 : fieldU (BitVec.ofNat 8 (16 + dest.toNat) :: token :: bytes) 0 1 = 16 + dest.toNat := by
    simp [fieldU, readU]
    omega
  have b1 : fieldU (BitVec.ofNat 8 (16 + dest.toNat) :: token :: bytes) 1 1 = token.toNat := by simp [fieldU, readU]
  have type : (16 + dest.toNat) / 16 = 1 := by omega
  unfold takeCommandHead
  simp only [b0, b1, type]
  rw [if_neg (by simp), if_pos ⟨trivial, by simp [whole]⟩]
  rfl

/-- R170, R190: a note's body at the head of the Sound lane. -/
theorem takeSoundHead_note {dest voice token : Byte} {record : List Byte} (known : dest.toNat < 16)
    (whole : record.length = 6) (s : State) : takeSoundHead (dest :: voice :: token :: record) s
      = if s.isLocal dest.toNat then
          if voiceFull voice.toNat s then none
          else some (carryOut (.tablet dest.toNat token.toNat) 3 voice.toNat 48 record (removeHead 2 s))
        else if s.link.forwarded < 2 then
          some (commandRequest ⟨dest.toNat, token.toNat⟩ (noteTarget voice.toNat) 48 record (removeHead 2 s))
        else none := by
  have b0 : fieldU (dest :: voice :: token :: record) 0 1 = dest.toNat := by simp [fieldU, readU]
  have b1 : fieldU (dest :: voice :: token :: record) 1 1 = voice.toNat := by simp [fieldU, readU]
  have b2 : fieldU (dest :: voice :: token :: record) 2 1 = token.toNat := by simp [fieldU, readU]
  have tail : (dest :: voice :: token :: record).drop 3 = record := rfl
  have nine : ¬(dest :: voice :: token :: record).length ≠ 9 := by simp [whole]
  unfold takeSoundHead
  simp only [b0, b1, b2, tail, Nat.mod_eq_of_lt known]
  rw [if_neg nine]

theorem voiceFull_own {v : Fin 3} {s : State} : voiceFull (v.val + 1) s = decide (8 ≤ (s.voice v).queue.length) :=
  dif_pos (by omega)

/-- Table 12-4: the bodies that name a message of their lane. -/
def NamesMessage (l : Fin 4) (body : List Byte) : Prop :=
  (l = 0 ∧ (((body.getD 0 0).toNat = 0 ∧ body.length = 1) ∨ ((body.getD 0 0).toNat = 1 ∧ body.length = 4)
      ∨ ((body.getD 0 0).toNat = 2 ∧ body.length = 2)))
    ∨ (l = 1 ∧ (((body.getD 0 0).toNat < 16 ∧ 4 ≤ body.length ∧ body.length ≤ 13)
      ∨ (16 ≤ (body.getD 0 0).toNat ∧ (body.getD 0 0).toNat < 32 ∧ body.length = 32)))
    ∨ (l = 2 ∧ body.length = 9)
    ∨ (l = 3 ∧ (((body.getD 0 0).toNat ≤ 1 ∧ body.length = 3) ∨ ((body.getD 0 0).toNat = 2 ∧ body.length = 1)))

theorem map_toNat_shape {body : List Byte} {n : Nat} {ns : List Nat} (shape : body.map BitVec.toNat = n :: ns) :
    (body.getD 0 0).toNat = n ∧ body.length = ns.length + 1 := by
  obtain ⟨b, bs, rfl, rfl, rfl⟩ := List.map_eq_cons_iff.mp shape
  simp

/-- R168: a body of lane 0 that names no message. -/
theorem takeLinkMessage_bad {body : List Byte} (no : ¬NamesMessage 0 body) (s : State) : takeLinkMessage body s = markBad s := by
  unfold takeLinkMessage
  split
  next shape => exact absurd (.inl ⟨rfl, .inl (map_toNat_shape shape)⟩) no
  next shape => exact absurd (.inl ⟨rfl, .inr (.inl (map_toNat_shape shape))⟩) no
  next shape => exact absurd (.inl ⟨rfl, .inr (.inr (map_toNat_shape shape))⟩) no
  next => rfl

/-- R175: a body of lane 3 that names no message. -/
theorem takeWatchMessage_bad {body : List Byte} (no : ¬NamesMessage 3 body) (s : State) : takeWatchMessage body s = markBad s := by
  have names (h : ((body.getD 0 0).toNat ≤ 1 ∧ body.length = 3) ∨ ((body.getD 0 0).toNat = 2 ∧ body.length = 1)) :
      NamesMessage 3 body := .inr (.inr (.inr ⟨rfl, h⟩))
  unfold takeWatchMessage
  split
  next shape =>
    obtain ⟨type, size⟩ := map_toNat_shape shape
    exact absurd (names (.inl ⟨by omega, size⟩)) no
  next shape =>
    obtain ⟨type, size⟩ := map_toNat_shape shape
    exact absurd (names (.inl ⟨by omega, size⟩)) no
  next shape => exact absurd (names (.inr (map_toNat_shape shape))) no
  next => rfl

/-- R169: a body of the Command lane that names no message. -/
theorem takeCommandHead_bad {body : List Byte} (no : ¬NamesMessage 1 body) (s : State) :
    takeCommandHead body s = some (markBad (removeHead 1 s)) := by
  have names (h : ((body.getD 0 0).toNat < 16 ∧ 4 ≤ body.length ∧ body.length ≤ 13)
      ∨ (16 ≤ (body.getD 0 0).toNat ∧ (body.getD 0 0).toNat < 32 ∧ body.length = 32)) : NamesMessage 1 body :=
    .inr (.inl ⟨rfl, h⟩)
  unfold takeCommandHead
  simp only [fieldU_one]
  rw [if_neg, if_neg]
  · rintro ⟨type, size⟩
    exact no (names (.inr ⟨by omega, by omega, size⟩))
  · rintro ⟨type, size⟩
    exact no (names (.inl ⟨by omega, size⟩))

/-- R167: a head that names no message of its lane. -/
theorem takeHead_bad {l : Fin 4} {body : List Byte} (no : ¬NamesMessage l body) (s : State) :
    takeHead l body s = some (markBad (removeHead l s)) := by
  have lanes : ∀ l : Fin 4, l = 0 ∨ l = 1 ∨ l = 2 ∨ l = 3 := by decide
  obtain rfl | rfl | rfl | rfl := lanes l
  · exact congrArg some (takeLinkMessage_bad no _)
  · exact takeCommandHead_bad no s
  · exact if_pos fun size => no (.inr (.inr (.inl ⟨rfl, size⟩)))
  · exact congrArg some (takeWatchMessage_bad no _)

theorem noteTarget_named {voice : Nat} (named : voice < 16) : noteTarget voice = 48 + voice := by
  rw [noteTarget, if_pos named]

/-- R170: a voice that an index cannot hold goes out as an index of no voice. -/
theorem noteTarget_unnamed {voice : Nat} (beyond : 16 ≤ voice) :
    ∃ index : Fin 16, (index.val = 0 ∨ 4 ≤ index.val) ∧ noteTarget voice = 48 + index.val := by
  have small := (Config.voiceNibble voice).isLt
  have target : noteTarget voice = 48 + badVoiceIndex (Config.voiceNibble voice) := by
    rw [noteTarget, if_neg (Nat.not_lt.mpr beyond)]
  rw [target]
  unfold badVoiceIndex
  split
  · exact ⟨0, .inl rfl, rfl⟩
  next other =>
    have positive : (Config.voiceNibble voice).val ≠ 0 := fun zero => other (Fin.ext zero)
    refine ⟨⟨(Config.voiceNibble voice).val + 3, by omega⟩, .inr ?_, rfl⟩
    show 4 ≤ (Config.voiceNibble voice).val + 3
    omega

theorem markBad_of_receiver {r : TabletReceiver} {s : State} (is : s.link.receiver = r) :
    markBad s = s.setLink { s.link with badSeen := true, receiver := r } := by
  rw [← is]
  rfl

/-- Settles O50, by the message that its characters carry and the body's rule at the head of its lane. -/
theorem tabletReceiverTakesMessages : Obligations.TabletReceiverTakesMessages := by
  unfold Obligations.TabletReceiverTakesMessages
  intro l body flip why dest bi code token args v voice s awake short few known header framed torn k present marked hunting
    inbound command onCommand note onSound onVoice asNote alone here queued taken size type names
  have readyIs : s.linkReady = present := rfl
  clear_value present
  subst readyIs
  have queuedIs : (s.linkQueued : Fin 4 → List Byte → State) = queued := rfl
  clear_value queued
  subst queuedIs
  have commandIs : exec (.tabletMessageValid (framedMessage 1 command)) s = onCommand := rfl
  clear_value onCommand
  subst commandIs
  have soundIs : exec (.tabletMessageValid (framedMessage 2 note)) s = onSound := rfl
  clear_value onSound
  subst soundIs
  have voiceIs : exec (.tabletMessageValid (framedMessage 2 (dest :: voice :: token :: args))) s = onVoice := rfl
  clear_value onVoice
  subst voiceIs
  have event (f : State → State) {t : State} (took : f s = t) : s.whenAwake f = ends t := by
    rw [State.whenAwake_awake awake, took]
  have row {c : Instr} {f : State → State} (isRow : exec c s.linkReady = s.linkReady.whenAwake f) :
      exec c s.linkReady = ends (f s.linkReady) := by
    rw [isRow, State.whenAwake_awake (s := s.linkReady) awake]
  have commandShort : command.length ≤ 32 := by simp [command]; omega
  have local_ (lane : Fin 4) (b : List Byte) : (s.linkQueued lane b).isLocal dest.toNat = true ↔ here := isLocal_iff
  have remote (lane : Fin 4) (b : List Byte) (no : ¬here) : ¬(s.linkQueued lane b).isLocal dest.toNat = true :=
    mt (local_ lane b).mp no
  have commandTakes (empty : alone 1) : takeHead 1 command (s.linkQueued 1 command)
      = if (s.linkQueued 1 command).isLocal dest.toNat then some (carryOut (.tablet dest.toNat token.toNat) (bi.toNat / 16)
          (bi.toNat % 16) code.toNat args s.linkReady)
        else if k.forwarded < 2 then some (commandRequest ⟨dest.toNat, token.toNat⟩ bi.toNat code.toNat args s.linkReady)
        else none := by
    rw [← removeHead_linkQueued empty command]
    exact takeCommandHead_command known few _
  have noteTakes (voice : Byte) (six : args.length = 6) (empty : alone 2) :
      takeHead 2 (dest :: voice :: token :: args) (s.linkQueued 2 (dest :: voice :: token :: args))
        = if (s.linkQueued 2 (dest :: voice :: token :: args)).isLocal dest.toNat then
            if voiceFull voice.toNat s then none
            else some (carryOut (.tablet dest.toNat token.toNat) 3 voice.toNat 48 args s.linkReady)
          else if k.forwarded < 2 then
            some (commandRequest ⟨dest.toNat, token.toNat⟩ (noteTarget voice.toNat) 48 args s.linkReady)
          else none := by
    rw [← removeHead_linkQueued empty (dest :: voice :: token :: args)]
    exact takeSoundHead_note known six _
  have voiceNumber : (BitVec.ofNat 8 (v.val + 1)).toNat = v.val + 1 := by
    have := v.isLt
    rw [BitVec.toNat_ofNat]
    omega
  have noteShort (voice : Byte) (six : args.length = 6) : (dest :: voice :: token :: args).length ≤ 32 := by simp [six]
  have takes {lane : Fin 4} {b : List Byte} {c : Instr} {f : State → State} (isRow : exec c s.linkReady = s.linkReady.whenAwake f)
      (short : b.length ≤ 32) (body : ∀ t, takeHead lane b t = some (f (removeHead lane t))) : taken lane b c := by
    intro ready empty
    rw [row isRow]
    refine tabletMessage_taken awake ready short empty ?_
    rw [body, removeHead_linkQueued empty]
  refine ⟨readMessage_framedMessage l short, rfl, fun hunts => tabletMessageValid_hunting awake hunts,
    fun ready differs => tabletMessageValid_unread awake ready (readMessage_torn l short differs),
    fun ready full => ?_, fun ready room => ?_, fun ready empty is => ?_, fun ready empty no room => ?_,
    fun ready empty no full => ?_, fun ready empty six is room => ?_, fun ready empty six is full => ?_,
    fun ready empty six no room named => ?_, fun ready empty six no room beyond => ?_,
    takes rfl (by decide) fun t => rfl, takes rfl (by simp) fun t => rfl, takes rfl (by simp) fun t => rfl,
    takes rfl (by simp) fun t => rfl, takes rfl (by simp) fun t => rfl, takes rfl (by decide) fun t => rfl,
    fun whole => takes rfl (by simp [whole]) (takeCommandHead_store known whole), fun ready empty no => ?_, fun hunts => ?_,
    fun ready cutShort => ?_, fun ready other => ?_, fun hunts => ?_, fun ready => ⟨?_, ?_, ?_⟩, fun inside => ⟨?_, ?_⟩,
    fun hunts => ?_, ?_⟩
  · refine (tabletMessageValid_read awake ready (readMessage_framedMessage l short)).trans ?_
    rw [receiveMessage_full full]
  · refine (tabletMessageValid_read awake ready (readMessage_framedMessage l short)).trans ?_
    rw [receiveMessage_room room]
  · exact tabletMessage_taken awake ready commandShort empty
      ((commandTakes empty).trans (if_pos ((local_ _ _).mpr is)))
  · exact tabletMessage_taken awake ready commandShort empty
      ((commandTakes empty).trans ((if_neg (remote _ _ no)).trans (if_pos room)))
  · exact tabletMessage_waits awake ready commandShort empty
      ((commandTakes empty).trans ((if_neg (remote _ _ no)).trans (if_neg (Nat.not_lt.mpr full))))
  · refine tabletMessage_taken awake ready (noteShort _ six) empty
      ((noteTakes _ six empty).trans ((if_pos ((local_ _ _).mpr is)).trans ?_))
    rw [voiceNumber, voiceFull_own, if_neg (by simpa using room)]
  · refine tabletMessage_waits awake ready (noteShort _ six) empty
      ((noteTakes _ six empty).trans ((if_pos ((local_ _ _).mpr is)).trans (if_pos ?_)))
    rw [voiceNumber, voiceFull_own]
    exact decide_eq_true full
  · refine tabletMessage_taken awake ready (noteShort _ six) empty
      ((noteTakes _ six empty).trans ((if_neg (remote _ _ no)).trans ((if_pos room).trans ?_)))
    rw [noteTarget_named named]
  · obtain ⟨index, other, target⟩ := noteTarget_unnamed beyond
    refine ⟨index, other, tabletMessage_taken awake ready (noteShort _ six) empty
      ((noteTakes _ six empty).trans ((if_neg (remote _ _ no)).trans ((if_pos room).trans ?_)))⟩
    rw [target]
  · refine tabletMessage_taken awake ready short empty ((takeHead_bad no _).trans ?_)
    rw [removeHead_linkQueued empty]
    rfl
  · dsimp only [exec]
    exact event _ (if_pos hunts)
  · dsimp only [exec]
    refine event _ ((if_neg ready).trans ?_)
    rw [if_pos cutShort]
    rfl
  · dsimp only [exec]
    refine event _ ((if_neg ready).trans ?_)
    rw [if_neg other]
    rfl
  · dsimp only [exec]
    refine event _ ?_
    rw [show s.link.receiver = .hunting from hunts]
    rfl
  · dsimp only [exec]
    refine event _ ?_
    rw [show s.link.receiver = .ready from ready]
    rfl
  · dsimp only [exec]
    refine event _ ?_
    refine Eq.trans ?_ (markBad_of_receiver ready)
    rw [show s.link.receiver = .ready from ready]
    rfl
  · dsimp only [exec]
    refine event _ ?_
    rw [show s.link.receiver = .ready from ready]
    rfl
  · dsimp only [exec]
    refine event _ ?_
    rw [show s.link.receiver = .inMessage from inside]
    rfl
  · dsimp only [exec]
    refine event _ ?_
    rw [show s.link.receiver = .inMessage from inside]
    rfl
  · dsimp only [exec]
    refine event _ ?_
    rw [show s.link.receiver = .hunting from hunts]
    rfl
  · dsimp only [exec]
    refine event _ ?_
    cases receiver : s.link.receiver with
    | hunting => exact markBad_of_receiver receiver
    | ready => rfl
    | inMessage => rfl

end Sys2Proof.Machine
end

section
/-! PROOF. The outbound FIFOs, waiting heads and the UART transmitter (O51). -/

namespace Sys2Proof.Machine

/-! ### Outbound FIFOs (R172, R174) -/

/-- R174: the FIFO that a message has joined. -/
def Lane.joined (x : Lane) (q : List OutSlot) (m : OutMsg) : List OutSlot :=
  if x.mode = .batched ∧ 5 ≤ q.length then releaseSlots (q ++ [⟨m, true⟩]) else q ++ [⟨m, x.mode == .immediate⟩]

theorem Lane.join_eq (x : Lane) (m : OutMsg) : x.join m = { x with outbound := x.joined x.outbound m } := by
  have length : (x.outbound ++ [(⟨m, x.mode == .immediate⟩ : OutSlot)]).length = x.outbound.length + 1 := by simp
  unfold Lane.join Lane.joined
  dsimp only
  rw [length]
  by_cases fills : x.mode = .batched ∧ 5 ≤ x.outbound.length
  · rw [if_pos fills, if_pos ⟨fills.1, Nat.succ_le_succ fills.2⟩]
    simp [releaseSlots]
  · rw [if_neg fills, if_neg fun h => fills ⟨h.1, Nat.le_of_succ_le_succ h.2⟩]

theorem Lane.take_of_pair {x : Lane} {m : OutMsg} (pair : (x.outbound.any fun y => m.samePair y.msg) = true) :
    x.take m = { x with outbound := mergeSlots m x.outbound } := if_pos pair

theorem Lane.take_of_no_pair {x : Lane} {m : OutMsg} (other : (x.outbound.any fun y => m.samePair y.msg) = false)
    (room : x.outbound.length < 6) : x.take m = x.join m := by
  rw [Lane.take, if_neg (by simp [other]), if_pos room]

theorem dropTelemetry_append {front back : List OutSlot} {y : OutSlot} (none : (front.any fun x => x.msg.isTelemetry) = false)
    (telemetry : y.msg.isTelemetry = true) : dropTelemetry (front ++ y :: back) = front ++ back := by
  induction front with
  | nil =>
    show dropTelemetry (y :: back) = back
    unfold dropTelemetry
    rw [if_pos telemetry]
  | cons x front ih =>
    obtain ⟨head, tail⟩ : x.msg.isTelemetry = false ∧ (front.any fun x => x.msg.isTelemetry) = false := by simpa using none
    show dropTelemetry (x :: (front ++ y :: back)) = x :: (front ++ back)
    unfold dropTelemetry
    rw [if_neg (by simp [head]), ih tail]

/-- R172: telemetry at a FIFO full of other pairs takes the place of the oldest telemetry. -/
theorem Lane.take_evicts {x : Lane} {m : OutMsg} {front back : List OutSlot} {y : OutSlot}
    (other : (x.outbound.any fun y => m.samePair y.msg) = false) (full : 6 ≤ x.outbound.length) (new : m.isTelemetry = true)
    (queue : x.outbound = front ++ y :: back) (none : (front.any fun x => x.msg.isTelemetry) = false)
    (telemetry : y.msg.isTelemetry = true) :
    x.take m = { x with outbound := x.joined (front ++ back) m, dropped := true } := by
  have any : (x.outbound.any fun x => x.msg.isTelemetry) = true := by
    rw [queue]
    simp [telemetry]
  rw [Lane.take, if_neg (by simp [other]), if_neg (Nat.not_lt.mpr full), if_pos (by simp [new, any]), queue,
    dropTelemetry_append none telemetry, Lane.join_eq]
  rfl

theorem OutMsg.isTelemetry_of_samePair {m n : OutMsg} (same : m.samePair n = true) : n.isTelemetry = true := by
  cases m with
  | telemetry => cases n with
    | telemetry => rfl
    | _ => cases same
  | _ => cases same

/-- R172: telemetry at a FIFO full of other messages is dropped. -/
theorem Lane.take_drops {x : Lane} {m : OutMsg} (full : 6 ≤ x.outbound.length)
    (none : (x.outbound.any fun x => x.msg.isTelemetry) = false) : x.take m = { x with dropped := true } := by
  have other : ¬(x.outbound.any fun y => m.samePair y.msg) = true := by
    intro any
    obtain ⟨y, mem, same⟩ := List.any_eq_true.mp any
    exact absurd (OutMsg.isTelemetry_of_samePair same) (by simpa using List.any_eq_false.mp none y mem)
  rw [Lane.take, if_neg other, if_neg (Nat.not_lt.mpr full), if_neg (by simp [none])]

/-! ### Waiting heads (R169, R170) -/

theorem removeHead_one {l : Fin 4} {body : List Byte} {s : State} (one : (s.lane l).inbound = [body]) :
    removeHead l s = s.setLane l { s.lane l with inbound := [] } := by
  unfold removeHead
  dsimp only
  rw [one, if_neg fun h => by cases h.1]
  rfl

theorem drainLane_empty {l : Fin 4} {s : State} (empty : (s.lane l).inbound = []) : drainLane l s = s := by
  rw [drainLane, empty]
  rfl

theorem drainLane_one {l : Fin 4} {body : List Byte} {s : State} (one : (s.lane l).inbound = [body]) :
    drainLane l s = (takeHead l body s).getD s := by
  rw [drainLane, one]
  show drain l 1 s = _
  unfold drain
  rw [one]
  dsimp only
  cases takeHead l body s with
  | none => rfl
  | some t => rfl

theorem commandRequest_laneLeft {l : Fin 4} (other : l ≠ 1) (o : Origin) (b c : Nat) (args : List Byte) (s : State) :
    LaneLeft l s (commandRequest o b c args s) := by
  have added (f : FrameKind) (r : Nat) (p : List Byte) (o : Option Origin) : LaneLeft l s (addFrame f r p o s).1 :=
    LaneLeft.trans (t := passStamp s) (.of_link rfl) (joinQueue_laneLeft other _ _)
  unfold commandRequest
  dsimp only
  split
  · exact tell_laneLeft other _ s
  · split
    · exact (added _ _ _ _).trans ⟨rfl, rfl, rfl⟩
    · exact (added _ _ _ _).trans (tell_laneLeft other _ _)

/-! ### The transmitter (R173) -/

theorem firstReleased_none {q : List OutSlot} (held : ∀ y ∈ q, y.released = false) : firstReleased q = none := by
  unfold firstReleased
  rw [List.find?_eq_none.mpr fun y mem => by simp [held y mem]]
  rfl

theorem firstReleased_append {front back : List OutSlot} {m : OutMsg} (none : ∀ y ∈ front, y.released = false) :
    firstReleased (front ++ ⟨m, true⟩ :: back) = some m := by
  unfold firstReleased
  rw [List.find?_append, List.find?_eq_none.mpr fun y mem => by simp [none y mem]]
  rfl

theorem dropReleased_append {front back : List OutSlot} {m : OutMsg} (none : ∀ y ∈ front, y.released = false) :
    dropReleased (front ++ ⟨m, true⟩ :: back) = front ++ back := by
  induction front with
  | nil => rfl
  | cons x front ih =>
    show dropReleased (x :: (front ++ ⟨m, true⟩ :: back)) = x :: (front ++ back)
    unfold dropReleased
    rw [if_neg (by simp [none x List.mem_cons_self]), ih fun y mem => none y (List.mem_cons_of_mem _ mem)]

/-- R173: the lowest-numbered lane with a released message. -/
theorem nextMessage_append {s : State} {l : Fin 4} {m : OutMsg} {before : List (Fin 4)} (after : List (Fin 4))
    (below : ∀ j ∈ before, firstReleased (s.lane j).outbound = none) (own : firstReleased (s.lane l).outbound = some m) :
    nextMessage s (before ++ l :: after) = some (l, m) := by
  induction before with
  | nil =>
    show nextMessage s (l :: after) = _
    unfold nextMessage
    rw [own]
  | cons j before ih =>
    show nextMessage s (j :: (before ++ l :: after)) = _
    unfold nextMessage
    rw [below j List.mem_cons_self]
    exact ih fun i mem => below i (List.mem_cons_of_mem _ mem)

theorem fourPorts_split (l : Fin 4) : ∃ before after, fourPorts = before ++ l :: after ∧ ∀ j ∈ before, j < l := by
  obtain rfl | rfl | rfl | rfl : l = 0 ∨ l = 1 ∨ l = 2 ∨ l = 3 := by fin_cases l <;> decide
  · exact ⟨[], [1, 2, 3], rfl, by decide⟩
  · exact ⟨[0], [2, 3], rfl, by decide⟩
  · exact ⟨[0, 1], [3], rfl, by decide⟩
  · exact ⟨[0, 1, 2], [], rfl, by decide⟩

theorem nextMessage_first {s : State} {l : Fin 4} {m : OutMsg} {front back : List OutSlot}
    (below : ∀ j, j < l → ∀ y ∈ (s.lane j).outbound, y.released = false) (queue : (s.lane l).outbound = front ++ ⟨m, true⟩ :: back)
    (none : ∀ y ∈ front, y.released = false) : nextMessage s fourPorts = some (l, m) := by
  obtain ⟨before, after, split_, lower⟩ := fourPorts_split l
  rw [split_]
  exact nextMessage_append after (fun j mem => firstReleased_none (below j (lower j mem)))
    (by rw [queue]; exact firstReleased_append none)

theorem nextMessage_none {s : State} (none : ∀ j, ∀ y ∈ (s.lane j).outbound, y.released = false) (ls : List (Fin 4)) :
    nextMessage s ls = Option.none := by
  induction ls with
  | nil => rfl
  | cons l ls ih =>
    unfold nextMessage
    rw [firstReleased_none (none l)]
    exact ih

theorem uartMessageStart_first {s : State} {l : Fin 4} {m : OutMsg} (awake : s.resetHeld = []) (free : s.link.sending = none)
    (next : nextMessage s fourPorts = some (l, m)) : exec .uartMessageStart s = ends (beginMessage l m s) := by
  dsimp only [exec]
  rw [execUartMessageStart, State.whenAwake_awake awake, if_neg (by rw [free]; simp), next]

theorem uartMessageStart_nothing {s : State} (awake : s.resetHeld = [])
    (none : ∀ j, ∀ y ∈ (s.lane j).outbound, y.released = false) : exec .uartMessageStart s = ends s := by
  dsimp only [exec]
  rw [execUartMessageStart, State.whenAwake_awake awake, nextMessage_none none]
  exact congrArg ends (ite_self s)

/-! ### The bodies of messages (R168, R190) -/

theorem charsOf_one (n : Nat) : charsOf 1 (n : Int) = [BitVec.ofNat 8 n] := by
  show [BitVec.ofInt 8 (n : Int)] = _
  rw [BitVec.ofInt_natCast]

theorem charsOf_two (n : Nat) : charsOf 2 (n : Int) = [BitVec.ofNat 8 n, BitVec.ofNat 8 (n / 256)] := by
  show [BitVec.ofInt 8 (n : Int), BitVec.ofInt 8 ((n : Int) / 256)] = _
  rw [BitVec.ofInt_natCast, show ((n : Int) / 256) = ((n / 256 : Nat) : Int) from rfl, BitVec.ofInt_natCast]

theorem lanes_toList (s : State) : s.link.lanes.toList = [s.lane 0, s.lane 1, s.lane 2, s.lane 3] := by
  unfold State.lane
  generalize s.link.lanes = lanes
  obtain ⟨⟨l⟩, size⟩ := lanes
  obtain _ | ⟨a, _ | ⟨b, _ | ⟨c, _ | ⟨d, _ | _⟩⟩⟩⟩ := l <;> simp at size
  rfl

/-- The weight of a flag in a status word. -/
def flagWeight (b : Bool) (n : Nat) : Nat := if b then n else 0

theorem flagWeight_eq (b : Bool) (n : Nat) : flagWeight b n = n * boolNat b := by
  cases b <;> simp [flagWeight, boolNat]

/-- R168: the fill levels and overrun flags of a status message. -/
def State.statusFills (s : State) : Nat :=
  (s.lane 0).inbound.length + 8 * (s.lane 1).inbound.length + 64 * (s.lane 2).inbound.length
    + 512 * (s.lane 3).inbound.length + flagWeight (s.lane 0).overrun 4096 + flagWeight (s.lane 1).overrun 8192
    + flagWeight (s.lane 2).overrun 16384 + flagWeight (s.lane 3).overrun 32768

/-- R168: the dropped flags of a status message, with those of the watch list and of bad messages. -/
def State.statusFlags (s : State) : Nat :=
  flagWeight (s.lane 0).dropped 1 + flagWeight (s.lane 1).dropped 2 + flagWeight (s.lane 2).dropped 4
    + flagWeight (s.lane 3).dropped 8 + flagWeight s.link.watchFull 16 + flagWeight s.link.badSeen 32

theorem statusBody_eq (s : State) : statusBody s.link = [BitVec.ofNat 8 s.statusFills, BitVec.ofNat 8 (s.statusFills / 256),
    BitVec.ofNat 8 s.statusFlags, BitVec.ofNat 8 s.link.forwarded] := by
  have fills : s.link.lanes.toList.foldr (fun l n => l.inbound.length + 8 * n) 0
      + 4096 * flagBits (s.link.lanes.toList.map Lane.overrun) = s.statusFills := by
    rw [lanes_toList]
    simp only [State.statusFills, flagWeight_eq, flagBits, List.foldr, List.map]
    ring
  have flags : flagBits (s.link.lanes.toList.map Lane.dropped) + 16 * boolNat s.link.watchFull + 32 * boolNat s.link.badSeen
      = s.statusFlags := by
    rw [lanes_toList]
    simp only [State.statusFlags, flagWeight_eq, flagBits, List.foldr, List.map]
    ring
  unfold statusBody
  dsimp only
  rw [fills, flags, charsOf_one, charsOf_one, charsOf_two]
  rfl

end Sys2Proof.Machine
end

section
/-! PROOF. The transmitter, the timers and the loss of the tablet link (O51). -/

namespace Sys2Proof.Machine

/-! ### A message begins (R168, R173) -/

theorem beginMessage_other {l : Fin 4} {m : OutMsg} {s : State} {front back : List OutSlot} (other : m ≠ .status)
    (queue : (s.lane l).outbound = front ++ ⟨m, true⟩ :: back) (none : ∀ y ∈ front, y.released = false) :
    beginMessage l m s = (s.setLane l { s.lane l with outbound := front ++ back }).setLink
      { (s.setLane l { s.lane l with outbound := front ++ back }).link with
        sending := some ⟨l, frameMessage l (m.body s.link), m.isRestartReply⟩ } := by
  unfold beginMessage
  dsimp only
  rw [if_neg other, queue, dropReleased_append none]

/-- R168: the link that has begun a status message. -/
def State.statusBegun (s : State) (l : Fin 4) (q : List OutSlot) : State :=
  (clearFlags (s.setLane l { s.lane l with outbound := q })).setLink
    { (clearFlags (s.setLane l { s.lane l with outbound := q })).link with
      sending := some ⟨l, frameMessage l (statusBody s.link), false⟩ }

theorem beginMessage_status {l : Fin 4} {s : State} {front back : List OutSlot}
    (queue : (s.lane l).outbound = front ++ ⟨.status, true⟩ :: back) (none : ∀ y ∈ front, y.released = false) :
    beginMessage l .status s = s.statusBegun l (front ++ back) := by
  unfold beginMessage
  dsimp only
  rw [if_pos rfl, queue, dropReleased_append none]
  rfl

theorem statusBegun_lane (s : State) (l : Fin 4) (q : List OutSlot) (j : Fin 4) : (s.statusBegun l q).lane j
    = { (s.setLane l { s.lane l with outbound := q }).lane j with overrun := false, dropped := false } := by
  show (Vector.map _ _)[j] = _
  exact Vector.getElem_map ..

theorem OutMsg.body_restartReply (k : Link) (station token : Nat) :
    (OutMsg.restartReply station token).body k = [BitVec.ofNat 8 station, BitVec.ofNat 8 token, 0#8] := by
  show charsOf 1 (station : Int) ++ charsOf 1 (token : Int) ++ charsOf 1 (0 : Nat) = _
  rw [charsOf_one, charsOf_one, charsOf_one]
  rfl

theorem OutMsg.body_reply (k : Link) (station token result : Nat) (data : List Byte) :
    (OutMsg.reply station token result data).body k
      = BitVec.ofNat 8 station :: BitVec.ofNat 8 token :: BitVec.ofNat 8 result :: data := by
  show charsOf 1 (station : Int) ++ charsOf 1 (token : Int) ++ charsOf 1 (result : Int) ++ data = _
  rw [charsOf_one, charsOf_one, charsOf_one]
  rfl

theorem OutMsg.body_progress (k : Link) (idle : Bool) (voice left : Nat) : (OutMsg.progress idle voice left).body k
    = [if idle then 1#8 else 0#8, BitVec.ofNat 8 voice, BitVec.ofNat 8 left] := by
  show charsOf 1 ((boolNat idle : Nat) : Int) ++ charsOf 1 (voice : Int) ++ charsOf 1 (left : Int) = _
  rw [charsOf_one, charsOf_one, charsOf_one]
  cases idle <;> rfl

theorem OutMsg.body_telemetry (k : Link) (station index : Nat) (value : Int) : (OutMsg.telemetry station index value).body k
    = [0#8, BitVec.ofNat 8 station, BitVec.ofNat 8 index, BitVec.ofInt 8 value, BitVec.ofInt 8 (value / 256)] := by
  show charsOf 1 (0 : Nat) ++ charsOf 1 (station : Int) ++ charsOf 1 (index : Int) ++ charsOf 2 value = _
  rw [charsOf_one, charsOf_one, charsOf_one]
  rfl

theorem OutMsg.body_notice (k : Link) (type first second : Nat) : (OutMsg.notice type first second).body k
    = [1#8, BitVec.ofNat 8 type, BitVec.ofNat 8 first, BitVec.ofNat 8 second] := by
  show charsOf 1 (1 : Nat) ++ charsOf 1 (type : Int) ++ charsOf 1 (first : Int) ++ charsOf 1 (second : Int) = _
  rw [charsOf_one, charsOf_one, charsOf_one, charsOf_one]
  rfl

/-! ### Holds and the loss of the link (R176, R178) -/

theorem signals_getD {i : Nat} (small : i < 16) (s : State) :
    (s.signals.toList.map Signal.value).getD i 0 = (s.signal ⟨i, small⟩).value := by
  simp [State.signal, small]

theorem motorDriven_iff (m : Mode) :
    m.motorDriven = true ↔ m = .power ∨ m = .speed ∨ m = .position ∨ m = .pattern := by
  cases m <;> simp [Mode.motorDriven]

theorem anyDriven_iff (s : State) : (fourPorts.any fun p => (s.port p).mode.motorDriven) = true
    ↔ ∃ p, (s.port p).mode = .power ∨ (s.port p).mode = .speed ∨ (s.port p).mode = .position
      ∨ (s.port p).mode = .pattern := by
  have all (p : Fin 4) : p ∈ fourPorts := by fin_cases p <;> decide
  rw [List.any_eq_true]
  constructor
  · rintro ⟨p, -, driven⟩
    exact ⟨p, (motorDriven_iff _).mp driven⟩
  · rintro ⟨p, driven⟩
    exact ⟨p, all p, (motorDriven_iff _).mpr driven⟩

theorem watchHoldExpiry_nothing {place : Nat} {s : State} (awake : s.resetHeld = [])
    (still : s.link.watch[place]? = none ∨ ∃ w, s.link.watch[place]? = some w ∧ w.hold = .stopped) :
    exec (.watchHoldExpiry place) s = ends s := by
  dsimp only [exec]
  rw [execWatchHoldExpiry, State.whenAwake_awake awake]
  rcases still with none | ⟨⟨station, index, hold⟩, at_, stopped⟩
  · rw [none]
  · cases stopped
    rw [at_]

theorem watchHoldExpiry_running {place : Nat} {w : WatchPair} {deferred : Bool} {s : State} (awake : s.resetHeld = [])
    (at_ : s.link.watch[place]? = some w) (running : w.hold = .running deferred) :
    exec (.watchHoldExpiry place) s = ends (
      let t := s.setLink { s.link with
        watch := s.link.watch.set place { w with hold := if deferred then .running false else .stopped } }
      if h : deferred ∧ w.index < 16 then
        tell 3 (.telemetry w.station w.index (s.signal ⟨w.index, h.2⟩).value) t
      else t) := by
  obtain ⟨station, index, hold⟩ := w
  cases running
  dsimp only [exec]
  rw [execWatchHoldExpiry, State.whenAwake_awake awake, at_]

/-- Settles O51, by the FIFO's rule, the head's rule and the transmitter's choice. -/
theorem linkTransmitterAndTimers : Obligations.LinkTransmitterAndTimers := by
  unfold Obligations.LinkTransmitterAndTimers
  intro l m front back bi code token args dest v place station index value y w s awake k x start freeBelow chosen command note
    emptied remote held lost driven characters fill if_ overs drop fills flags byte layout restarts news telemetry pair q joined
  have telemetryIs : (fun z : OutSlot => z.msg.isTelemetry) = telemetry := by
    funext ⟨m, released⟩
    cases m <;> rfl
  clear_value telemetry
  subst telemetryIs
  have pairIs : (fun z : OutSlot => news.samePair z.msg) = pair := by
    funext ⟨m, released⟩
    cases m with
    | telemetry a b value => exact congrArg₂ (· && ·) (Bool.beq_comm) (Bool.beq_comm)
    | _ => rfl
  clear_value pair
  subst pairIs
  have joinedIs : (fun x q m => Lane.joined x q m) = joined := rfl
  clear_value joined
  subst joinedIs
  have event (f : State → State) {t : State} (took : f s = t) : s.whenAwake f = ends t := by
    rw [State.whenAwake_awake awake, took]
  have body : m.body k = layout m := by
    cases m with
    | status => exact statusBody_eq s
    | reply st tk result data => exact OutMsg.body_reply k st tk result data
    | restartReply st tk => exact OutMsg.body_restartReply k st tk
    | progress idle voice left => exact OutMsg.body_progress k idle voice left
    | telemetry st ix value => exact OutMsg.body_telemetry k st ix value
    | notice type first second => exact OutMsg.body_notice k type first second
  have restartsIs : m.isRestartReply = restarts := by cases m <;> rfl
  have distant (far : remote) : ¬s.isLocal dest.toNat = true := fun is => (isLocal_iff.mp is).elim far.2.1 far.2.2
  have near (here : dest = 15#8) : dest.toNat < 16 := by
    rw [here]
    decide
  have voiceNumber : (BitVec.ofNat 8 (v.val + 1)).toNat = v.val + 1 := by
    have := v.isLt
    rw [BitVec.toNat_ofNat]
    omega
  have begins (h : chosen) : start = ends (beginMessage l m s) :=
    uartMessageStart_first awake h.1 (nextMessage_first h.2.1 h.2.2.1 h.2.2.2)
  refine ⟨fun absent => tell_absent absent l m, fun present other room => ?_, fun present other full => ?_,
    fun present same => ?_, fun present none room => ?_, fun present none full queue before is => ?_,
    fun present full none => ?_, fun far few head empty room => ?_, fun far few head empty full => ?_,
    fun here six head room => ?_, fun here six head full => ?_, fun busy => ?_, fun free none => uartMessageStart_nothing awake none,
    fun is other => ?_, fun is status => ?_, fun not => ?_, fun some => ?_, fun none => ?_, fun at_ running => ?_,
    fun at_ running small => ?_, fun still => watchHoldExpiry_nothing awake (still.imp_right fun h => ⟨w, h⟩), fun none => ?_,
    fun some stays => ?_, fun some halts drives => ?_⟩
  · rw [tell_present present, Lane.take_of_room other room, Lane.join_eq]
  · rw [tell_present present, Lane.take_of_full other full]
  · rw [tell_present present, Lane.take_of_pair same]
    rfl
  · rw [tell_present present, Lane.take_of_no_pair none room, Lane.join_eq]
  · rw [tell_present present, Lane.take_evicts none full rfl queue before is]
  · rw [tell_present present, Lane.take_drops full none]
  · have taken : drainLane 1 s = commandRequest ⟨dest.toNat, token.toNat⟩ bi.toNat code.toNat args (emptied 1) := by
      rw [drainLane_one head]
      show (takeCommandHead command s).getD s = _
      rw [takeCommandHead_command far.1 few, takeCommand, if_neg (distant far), if_pos room, removeHead_one head]
      rfl
    have left : (drainLane 1 s).lane 2 = s.lane 2 := by
      rw [taken, (commandRequest_laneLeft (by decide) _ _ _ _ _).lane]
      exact lane_setLane_ne (by decide) _ s
    refine event takeHeads ?_
    rw [takeHeads, drainLane_empty (by rw [left]; exact empty), taken]
  · have taken : drainLane 1 s = s := by
      rw [drainLane_one head]
      show (takeCommandHead command s).getD s = _
      rw [takeCommandHead_command far.1 few, takeCommand, if_neg (distant far), if_neg (Nat.not_lt.mpr full)]
      rfl
    refine event takeHeads ?_
    rw [takeHeads, taken, drainLane_empty empty]
  · refine event (drainLane 2) ?_
    rw [drainLane_one head]
    show (takeSoundHead note s).getD s = _
    rw [takeSoundHead_note (near here) six, if_pos (isLocal_iff.mpr (.inl here)), voiceNumber, voiceFull_own,
      if_neg (by simpa using room), removeHead_one head, here]
    rfl
  · refine event (drainLane 2) ?_
    rw [drainLane_one head]
    show (takeSoundHead note s).getD s = _
    rw [takeSoundHead_note (near here) six, if_pos (isLocal_iff.mpr (.inl here)), voiceNumber, voiceFull_own,
      if_pos (decide_eq_true full)]
    rfl
  · dsimp only [start, exec]
    exact event _ (if_pos busy)
  · rw [begins is, beginMessage_other other is.2.2.1 is.2.2.2, show m.body s.link = layout m from body, restartsIs]
    rfl
  · subst status
    have sent : (s.statusBegun l (front ++ back)).link.sending = .some ⟨l, characters (layout .status), false⟩ := by
      rw [← body]
      rfl
    refine ⟨s.statusBegun l (front ++ back), ?_, sent, rfl, rfl, fun j => ?_, ?_, ?_⟩
    · rw [begins is, beginMessage_status is.2.2.1 is.2.2.2]
    · rw [statusBegun_lane]
      refine ⟨rfl, rfl, ?_⟩
      by_cases own : j = l
      · rw [own, State.lane_setLane]
      · rw [lane_setLane_ne own]
    · rw [statusBegun_lane, State.lane_setLane]
    · rw [← sent]
      rfl
  · dsimp only [exec]
    exact event _ (if_neg not)
  · dsimp only [exec]
    refine event _ ((if_pos some).trans ?_)
    dsimp only
    rw [releaseLane, State.lane_setLane, setLane_setLane]
    rfl
  · dsimp only [exec]
    exact event _ (if_neg (by rw [show (s.lane l).timer = Option.none from none]; simp))
  · rw [watchHoldExpiry_running awake at_ running]
    exact congrArg ends (dif_neg fun h => by cases h.1)
  · rw [watchHoldExpiry_running awake at_ running, signals_getD small]
    exact congrArg ends (dif_pos ⟨rfl, small⟩)
  · dsimp only [exec]
    exact event _ (if_neg (by rw [show s.link.timer = Option.none from none]; simp))
  · dsimp only [exec]
    refine event _ ((if_pos some).trans (if_neg fun both => ?_))
    rcases stays with off | still
    · exact absurd (off.symm.trans both.1) (by decide)
    · exact still ((anyDriven_iff s).mp both.2)
  · dsimp only [exec]
    exact event _ ((if_pos some).trans (if_pos ⟨halts, (anyDriven_iff s).mpr drives⟩))

end Sys2Proof.Machine
end

section
/-! PROOF. What a reset sets, at its beginning and at its end (O48). -/

namespace Sys2Proof.Machine

/-- A write of a signal that no entry hears, that nothing publishes and that no own pair watches. -/
theorem updateSignal_alone {i : Fin 16} {s : State} (v : Int) (unheard : ∀ n, ¬State.hears s.bus.number i s n)
    (free : s.bus.queue = []) (off : (s.signal i).policy = .off) (unwatched : s.link.watch = []) :
    updateSignal i v s = s.setSignal i { s.signal i with value := v } := by
  have stored : ∀ n, ¬State.hears s.bus.number i (s.setSignal i { s.signal i with value := v }) n := unheard
  have quiet : ¬((s.setSignal i { s.signal i with value := v }).signal i).Asks i := by
    rw [State.signal_setSignal]
    rintro ⟨policy, -⟩
    exact policy.elim (fun is => by rw [off] at is; cases is) fun is => by rw [off] at is; cases is
  unfold updateSignal updateWith
  rw [offerOwn_unheard v stored]
  dsimp only
  rw [publishUpdate_quiet (by simp [State.signalQueued, free]) quiet,
    watchOwn_unlisted v (s := s.setSignal i { s.signal i with value := v })
      fun w mem => absurd (show w ∈ s.link.watch from mem) (by simp [unwatched])]
  rfl

/-! ### The image of a reset -/

/-- R186: every block of `t` holds the value of its reset table, by the fields `f` of the start record. -/
structure ResetTo (f : StartFields) (invalid : Bool) (cause : ResetKind) (r : StartRecord) (serial : BitVec 32)
    (pending : List Instr) (t : State) : Prop where
  port : ∀ p, t.port p = Port.fresh f.motorKinds[p]
  sensor : ∀ p, t.sensor p = Sensor.fresh f.sensorKinds[p] f.tuneTargets[p] f.tuneAtStart[p]
  voice : ∀ v, t.voice v = Voice.fresh
  audio : t.audio = Audio.fresh
  signal : ∀ i, i ≠ 12 → i ≠ 15 → t.signal i = Signal.fresh
  battery : { t.signal 12 with value := 0 } = Signal.fresh
  status : t.signal 15 = Signal.freshStatus
  entry : ∀ n, t.entry n = Entry.fresh
  staging : t.staging = []
  stageMiss : t.stageMiss = false
  halt : t.halt = Halt.fresh
  bus : t.bus = Bus.fresh serial f.number
  link : t.link = Link.fresh f.linkTimeout f.haltOnLoss
  clock : t.clock = Clock.fresh
  station : t.station = ⟨cause, invalid, none, f.propagateHalt⟩
  hot : t.hot = false
  record : t.record = r
  pending : t.pending = pending

theorem resetImage_signal (f : StartFields) (invalid : Bool) (kind : ResetKind) (s : State) (i : Fin 16) :
    (resetImage f invalid kind s).signal i = if i = 15 then Signal.freshStatus else Signal.fresh := by
  show ((Vector.replicate 16 Signal.fresh).set 15 Signal.freshStatus)[i] = _
  by_cases last : i = 15
  · rw [if_pos last, last]
    exact Vector.getElem_set_self ..
  · rw [if_neg last]
    have apart : (15 : Nat) ≠ i.val := fun is => last (Fin.ext is.symm)
    refine (Vector.getElem_set_ne (hi := by decide) (hj := i.isLt) apart).trans ?_
    exact Vector.getElem_replicate ..

theorem resetImage_sensor (f : StartFields) (invalid : Bool) (kind : ResetKind) (s : State) (p : Fin 4) :
    (resetImage f invalid kind s).sensor p = Sensor.fresh f.sensorKinds[p] f.tuneTargets[p] f.tuneAtStart[p] := by
  simp [State.sensor, resetImage]

theorem resetImage_resetTo (f : StartFields) (invalid : Bool) (kind : ResetKind) (s : State) :
    ResetTo f invalid kind s.record s.bus.serial s.pending (resetImage f invalid kind s) where
  port := resetImage_port f invalid kind s
  sensor := resetImage_sensor f invalid kind s
  voice := resetImage_voice f invalid kind s
  audio := rfl
  signal i _ other := by rw [resetImage_signal, if_neg other]
  battery := by rw [resetImage_signal, if_neg (by decide)]; rfl
  status := by rw [resetImage_signal, if_pos rfl]
  entry := resetImage_entry f invalid kind s
  staging := rfl
  stageMiss := rfl
  halt := rfl
  bus := rfl
  link := rfl
  clock := rfl
  station := rfl
  hot := rfl
  record := rfl
  pending := rfl

/-- R184: the fields of the record, or the factory defaults and the straps. -/
theorem readImage_resetTo (kind : ResetKind) (straps : Nat) (s : State) :
    ResetTo (s.record.fields.getD (StartFields.factory straps)) s.record.fields.isNone kind s.record s.bus.serial s.pending
      (readImage kind straps s) := by
  unfold readImage
  cases fields : s.record.fields with
  | none => exact resetImage_resetTo _ _ _ s
  | some f => exact resetImage_resetTo _ _ _ s

theorem readImage_resetHeld (kind : ResetKind) (straps : Nat) (s : State) :
    (readImage kind straps s).resetHeld = s.resetHeld := by
  unfold readImage
  split <;> rfl

/-- R185: the record that the beginning of a reset leaves. -/
def State.cutRecord (s : State) : StartRecord := ⟨s.record.bytes, s.record.torn || s.link.store.isSome⟩

/-- R185, R186: the station as a reset begins, its blocks not yet set. -/
def State.resetBegun (kind : ResetKind) (s : State) : State :=
  { s with
    record := s.cutRecord
    resetHeld := if s.resetHeld.contains kind then s.resetHeld else s.resetHeld ++ [kind] }

theorem beginReset_eq (kind : ResetKind) (s : State) : beginReset kind s = readImage kind 0 (s.resetBegun kind) := rfl

/-- R186: a reset that begins. -/
theorem beginReset_begins (kind : ResetKind) (s : State) :
    ResetTo (s.cutRecord.fields.getD (StartFields.factory 0)) s.cutRecord.fields.isNone kind s.cutRecord s.bus.serial s.pending
        (beginReset kind s)
      ∧ kind ∈ (beginReset kind s).resetHeld ∧ ∀ j ∈ s.resetHeld, j ∈ (beginReset kind s).resetHeld := by
  rw [beginReset_eq]
  refine ⟨readImage_resetTo kind 0 (s.resetBegun kind), ?_, fun j mem => ?_⟩
  · rw [readImage_resetHeld]
    dsimp only [State.resetBegun]
    split
    next held => simpa using held
    · simp
  · rw [readImage_resetHeld]
    dsimp only [State.resetBegun]
    split
    · exact mem
    · exact List.mem_append_left _ mem

/-! ### The end of a reset (R62) -/

/-- R62: the seeding reading of the battery monitor. -/
def Battery.seeded (v : Int) : Battery :=
  Battery.checked { filtered := v, ceiling := supplyCeiling v, percentage := supplyPercentage v, lowCount := 0, low := false }

theorem Battery.seeded_low (v : Int) : (Battery.seeded v).low = false := by
  unfold Battery.seeded Battery.checked
  dsimp only
  rw [if_neg (by decide)]
  split <;> rfl

theorem Battery.seeded_fields (v : Int) : (Battery.seeded v).filtered = v ∧ (Battery.seeded v).ceiling = supplyCeiling v
    ∧ (Battery.seeded v).percentage = supplyPercentage v := by
  unfold Battery.seeded Battery.checked
  dsimp only
  rw [if_neg (by decide)]
  split
  · split <;> exact ⟨rfl, rfl, rfl⟩
  · exact ⟨rfl, rfl, rfl⟩

/-- R62: the seeding reading of a part whose ports coast, whose entries are free and whose queues are empty. -/
theorem batteryTakes_seeds {s : State} (coast : ∀ p, (s.port p).mode = .coast) (free : ∀ n, s.entry n = Entry.fresh)
    (queue : s.bus.queue = []) (watch : s.link.watch = []) (off : (s.signal 12).policy = .off) (v : Int) :
    ∃ ports, (∀ p, ports[p] = s.port p) ∧ batteryTakes v { s with battery := ⟨v, 1000, 100, 0, false⟩ }
      = State.setSignal { s with battery := Battery.seeded v, ports := ports } 12 { s.signal 12 with value := min v 32767 } := by
  let taken : State := { s with battery := ⟨v, supplyCeiling v, supplyPercentage v, 0, false⟩ }
  have ports (p : Fin 4) : (reclampPorts 1000 taken).port p = s.port p := by
    by_cases falls : taken.battery.ceiling < 1000
    · rw [reclampPorts_falls falls]
      refine if_neg fun driven => ?_
      rw [show (taken.port p).mode = .coast from coast p] at driven
      cases driven
    · rw [reclampPorts, if_neg falls]
      rfl
  have clamped := reclampPorts_only 1000 taken
  have checked : undervoltageCheck (reclampPorts 1000 taken)
      = { s with battery := Battery.seeded v, ports := (reclampPorts 1000 taken).ports } := by
    have battery : (reclampPorts 1000 taken).battery = taken.battery := by rw [clamped]
    have whole : { reclampPorts 1000 taken with battery := Battery.seeded v }
        = { s with battery := Battery.seeded v, ports := (reclampPorts 1000 taken).ports } := by
      generalize (reclampPorts 1000 taken).ports = q at clamped
      rw [clamped]
    rw [undervoltageCheck_holds fun fails => by rw [battery] at fails; exact Nat.not_succ_le_zero 0 fails.2.2, battery]
    exact whole
  refine ⟨(reclampPorts 1000 taken).ports, ports, ?_⟩
  show updateSignal 12 (min v 32767) (undervoltageCheck (reclampPorts 1000 taken)) = _
  rw [checked]
  refine updateSignal_alone _ (fun n hears => ?_) queue off watch
  have fresh : (s.entry n).acting = true := hears.1
  rw [free n] at fresh
  cases fresh

theorem finishReset_ends (kind : ResetKind) (straps millivolts : Nat) (s : State) :
    ResetTo (s.record.fields.getD (StartFields.factory straps)) s.record.fields.isNone kind s.record s.bus.serial s.pending
        (finishReset kind straps millivolts s)
      ∧ (finishReset kind straps millivolts s).resetHeld = []
      ∧ (finishReset kind straps millivolts s).battery = Battery.seeded millivolts
      ∧ ((finishReset kind straps millivolts s).signal 12).value = min (millivolts : Int) 32767 := by
  have image : ResetTo (s.record.fields.getD (StartFields.factory straps)) s.record.fields.isNone kind s.record s.bus.serial
      s.pending (readImage kind straps { s with resetHeld := [] }) := readImage_resetTo kind straps { s with resetHeld := [] }
  have held : (readImage kind straps { s with resetHeld := [] }).resetHeld = [] := readImage_resetHeld _ _ _
  have finish : finishReset kind straps millivolts s = batteryTakes millivolts
      { readImage kind straps { s with resetHeld := [] } with battery := ⟨millivolts, 1000, 100, 0, false⟩ } := rfl
  rw [finish]
  generalize readImage kind straps { s with resetHeld := [] } = t at image held
  obtain ⟨ports, same, eq⟩ := batteryTakes_seeds (s := t) (fun p => by rw [image.port]; rfl) image.entry
    (by rw [image.bus]; rfl) (by rw [image.link]; rfl) (congrArg Signal.policy image.battery :) (millivolts : Int)
  rw [eq]
  refine ⟨?_, held, by rw [State.setSignal_battery], by rw [State.signal_setSignal]⟩
  exact {
    port := fun p => (same p).trans (image.port p)
    sensor := image.sensor
    voice := image.voice
    audio := image.audio
    signal := fun i other last => (State.signal_setSignal_ne _ _ (Ne.symm other)).trans (image.signal i other last)
    battery := by rw [State.signal_setSignal]; exact image.battery
    status := (State.signal_setSignal_ne _ _ (by decide)).trans image.status
    entry := image.entry
    staging := image.staging
    stageMiss := image.stageMiss
    halt := image.halt
    bus := image.bus
    link := image.link
    clock := image.clock
    station := image.station
    hot := image.hot
    record := image.record
    pending := image.pending }

theorem supplyCeiling_natCast (mv : Nat) : supplyCeiling mv
    = if 7200 ≤ mv then 1000 else if mv < 6000 then 400 else 400 + (mv - 6000) * 600 / 1200 := by
  have over_ : ((mv : Int) - 6000).toNat = mv - 6000 := by omega
  have full : (7200 : Int) ≤ mv ↔ 7200 ≤ mv := by omega
  have low : (mv : Int) < 6000 ↔ mv < 6000 := by omega
  simp only [supplyCeiling, over_, full, low]

theorem supplyPercentage_natCast (mv : Nat) : supplyPercentage mv
    = if 7200 ≤ mv then 100 else if mv < 6000 then 40 else 40 + (mv - 6000) * 60 / 1200 := by
  have over_ : ((mv : Int) - 6000).toNat = mv - 6000 := by omega
  have full : (7200 : Int) ≤ mv ↔ 7200 ≤ mv := by omega
  have low : (mv : Int) < 6000 ↔ mv < 6000 := by omega
  simp only [supplyPercentage, over_, full, low]

theorem Bus.fresh_eq (serial : BitVec 32) (number : Nat) : Bus.fresh serial number = {
    number := if number ≠ 0 ∧ number ≠ 15 then some number else none, serial := serial, queue := [], sending := none,
    lineFaults := 0, withdrawn := if number ≠ 0 ∧ number ≠ 15 then [.clock] else [.clock, .unnumbered],
    announcePending := false, busErrorSeen := false, receiver := .hunting, breakSending := none, breakCount := 0,
    nextStamp := 0 } := by
  unfold Bus.fresh
  by_cases named : number ≠ 0 ∧ number ≠ 15
  · rw [if_pos named, if_pos named, if_neg (by tauto), if_neg (by tauto)]
  · rw [if_neg named, if_neg named, if_pos (by tauto), if_pos (by tauto)]

/-- Settles O48, by the reset values of every block at the beginning and the end of a reset. -/
theorem resetsSetEveryBlock : Obligations.ResetsSetEveryBlock := by
  unfold Obligations.ResetsSetEveryBlock
  intro kind straps mv p v i s record image begins ceiling percentage others
  have image_ {t : State} {cause : ResetKind} {number : Nat} {r : StartRecord}
      (h : ResetTo (r.fields.getD (StartFields.factory number)) r.fields.isNone cause r s.bus.serial s.pending t) :
      image t cause number r := by
    have bus := h.bus
    rw [Bus.fresh_eq] at bus
    refine ⟨h.port p, h.sensor p, h.voice v, h.audio, h.signal i, h.battery, h.status, h.entry i, h.staging, h.stageMiss,
      h.halt, bus, ?_, ?_, h.clock, h.station, h.hot, h.record, h.pending⟩
    · rw [h.link]
      rfl
    · show t.link.lanes[p] = _
      rw [h.link]
      exact Vector.getElem_replicate ..
  have starts {c : Instr} {k : ResetKind} (run : exec c s = .next (beginReset k s)) : begins c k := by
    obtain ⟨image, own, others⟩ := beginReset_begins k s
    exact ⟨beginReset k s, run, image_ image, own, others⟩
  refine ⟨starts rfl, starts rfl, fun awake waiting => starts ?_, fun free => ?_, fun held more => ?_, fun held last => ?_⟩
  · dsimp only [exec]
    rw [execRestartReset, State.whenAwake_awake awake, if_pos waiting, ends_beginReset]
  · exact if_neg (mt List.contains_iff_mem.mp free)
  · exact (if_pos (List.contains_iff_mem.mpr held)).trans (if_neg more)
  · obtain ⟨image, awake, battery, signal⟩ := finishReset_ends kind straps.val mv s
    obtain ⟨filtered, top, share⟩ := Battery.seeded_fields mv
    refine ⟨finishReset kind straps.val mv s, (if_pos (List.contains_iff_mem.mpr held)).trans (if_pos last), image_ image, awake,
      ?_, ?_, ?_, ?_, ?_⟩
    · rw [battery, filtered]
    · rw [battery, top, supplyCeiling_natCast]
    · rw [battery, share, supplyPercentage_natCast]
    · rw [battery, Battery.seeded_low]
    · rw [signal]
      omega

end Sys2Proof.Machine
end
